-- ==== Sys2Proof/Word.lean ====
section
/-!
DEFINITION. The word types of the EV9624 model and the one container it uses: a finite map from natural keys,
held as a list in ascending key order (so that equal maps are equal data).
-/

namespace Sys2Proof

/-- One byte. -/
abbrev Byte := BitVec 8

/-- One register of the management address space: 32-bit data (spec/18, R369). -/
abbrev W32 := BitVec 32

/-- A 64-bit quantity: Timebase times, NONCE, REQ_ID (spec/02 R21, spec/10 R248). -/
abbrev W64 := BitVec 64

/-- A map from natural keys, in strictly ascending key order. [DESIGN CHOICE, log entry 87] -/
abbrev NMap (α : Type) := List (Nat × α)

namespace NMap

/-- The value at key `k`, if any. -/
def get? {α : Type} (m : NMap α) (k : Nat) : Option α :=
  match m with
  | [] => none
  | (j, v) :: t => if j == k then some v else get? t k

/-- The value at key `k`, or `d` where the map has none. -/
def getD {α : Type} (m : NMap α) (k : Nat) (d : α) : α :=
  match get? m k with
  | some v => v
  | none => d

/-- Put `v` at key `k`, keeping the ascending order. -/
def set {α : Type} (m : NMap α) (k : Nat) (v : α) : NMap α :=
  match m with
  | [] => [(k, v)]
  | (j, w) :: t =>
    if k < j then (k, v) :: (j, w) :: t
    else if k == j then (k, v) :: t
    else (j, w) :: set t k v

/-- Take key `k` out. -/
def erase {α : Type} (m : NMap α) (k : Nat) : NMap α :=
  match m with
  | [] => []
  | (j, w) :: t => if j == k then t else (j, w) :: erase t k

/-- Change the value at `k`, if there is one. -/
def modify {α : Type} (m : NMap α) (k : Nat) (f : α → α) : NMap α :=
  match m with
  | [] => []
  | (j, w) :: t => if j == k then (j, f w) :: t else (j, w) :: modify t k f

/-- Does the map hold key `k`? -/
def has {α : Type} (m : NMap α) (k : Nat) : Bool := (get? m k).isSome

/-- The keys, ascending. -/
def keys {α : Type} (m : NMap α) : List Nat := m.map Prod.fst

/-- Change every value. -/
def mapVals {α β : Type} (f : Nat → α → β) (m : NMap α) : NMap β := m.map fun p => (p.1, f p.1 p.2)

/-- The canonical form: keys strictly ascending. -/
def sorted {α : Type} : NMap α → Bool
  | [] => true
  | [_] => true
  | (j, _) :: (k, w) :: t => decide (j < k) && sorted ((k, w) :: t)

end NMap

end Sys2Proof
end

