-- ==== Sys2Proof/Syntax.lean ====
section
/-!
DEFINITION. The commands of the EV9624 (one constructor per row of spec/opcode_table.json, in its order) and the
plain data their operands are made of. The table names no operands: each command carries what the outside world
decides about that step (which port, which drive, what a frame holds, what a drive answered) and nothing else.
-/

namespace Sys2Proof

/-- An Ahnath packet: the header of Table 2.2 (spec/02, R21), its payload and its GMAC trailer (R30). -/
structure Pkt where
  /-- VER -/
  ver : BitVec 4 := 1#4
  /-- OP (Table 2.3) -/
  op : BitVec 4
  /-- FLAGS (R23): [7] INT, [6] RETX, [5] AR, [4] LAST -/
  flags : BitVec 8 := 0#8
  /-- KEY_INDEX: [12:1] the session, [0] the key slot (R31) -/
  keyIndex : BitVec 13
  /-- DST_EP -/
  dstEp : W32
  /-- SRC_EP -/
  srcEp : W32
  /-- REQ_ID -/
  reqId : W64
  /-- REGION -/
  region : W32 := 0#32
  /-- GEN -/
  gen : BitVec 16 := 0#16
  /-- OFFSET -/
  offset : BitVec 48 := 0#48
  /-- LENGTH -/
  length : BitVec 16 := 0#16
  /-- HOPS -/
  hops : BitVec 16 := 0#16
  /-- NONCE -/
  nonce : W64 := 0#64
  /-- AUX (Table 2.5) -/
  aux : W32 := 0#32
  /-- The payload bytes. -/
  payload : List Byte := []
  /-- The 16-byte trailer, meaningful when INT is set. -/
  tag : BitVec 128 := 0#128
  deriving DecidableEq, Repr

/-- The IP ECN field. -/
inductive Ecn where
  | notEct
  | ect1
  | ect0
  | ce
  deriving DecidableEq, Repr

/-- An IPv4 or IPv6 header, as far as the device looks at it (R17, R19, R220). [DEDUCED, log entry 15] -/
structure Ip where
  /-- IPv6 rather than IPv4 -/
  v6 : Bool := false
  /-- source address (IPv4 in the low 32 bits) -/
  src : BitVec 128 := 0#128
  /-- destination address -/
  dst : BitVec 128 := 0#128
  /-- the IPv4 header checksum is right -/
  hdrOk : Bool := true
  /-- IHL -/
  ihl : Nat := 5
  /-- More Fragments -/
  mf : Bool := false
  /-- fragment offset -/
  fragOff : Nat := 0
  /-- Don't Fragment -/
  df : Bool := true
  /-- TTL or hop limit -/
  ttl : Nat := 64
  /-- flow label (IPv6) -/
  flow : BitVec 20 := 0#20
  /-- ECN -/
  ecn : Ecn := .ect0
  deriving DecidableEq, Repr

/-- What a UDP checksum field turned out to be on receipt (R19). [DEDUCED, log entry 15] -/
inductive Csum where
  | zero
  | right
  | wrong
  deriving DecidableEq, Repr

/-- A UDP header: ports and length (R17, R18). [DEDUCED, log entry 15] -/
structure Udp where
  /-- source port -/
  sport : BitVec 16 := 0xC000#16
  /-- destination port -/
  dport : BitVec 16
  /-- UDP length: header, Ahnath header, payload and trailer -/
  len : Nat
  /-- checksum -/
  csum : Csum := .zero
  deriving DecidableEq, Repr

/-- What a frame carries above its Ethernet (and IP and UDP) headers. -/
inductive Body where
  /-- an Ahnath packet -/
  | ahnath (p : Pkt)
  /-- a PTP message: messageType and sequenceId (R250) -/
  | ptp (msgType : BitVec 4) (seqId : BitVec 16)
  /-- ARP, IPv6 neighbour discovery or LLDP (Table 9.2) -/
  | control
  /-- anything else, as bytes -/
  | other (bytes : List Byte)
  deriving DecidableEq, Repr

/-- An Ethernet frame. Its checks (FCS, IPv4 header checksum, UDP checksum) are carried as their outcomes.
 [DEDUCED, log entry 15] -/
structure Frame where
  /-- length from the destination address through the FCS -/
  len : Nat
  /-- the FCS is right -/
  fcsOk : Bool := true
  /-- destination MAC address -/
  dstMac : BitVec 48 := 0#48
  /-- source MAC address -/
  srcMac : BitVec 48 := 0#48
  /-- IEEE 802.1Q tags, outermost first: PCP in [15:13], VID in [11:0] -/
  vlan : List (BitVec 16) := []
  /-- Ethertype after any tag -/
  ethertype : BitVec 16 := 0x0800#16
  /-- IP header, if any -/
  ip : Option Ip := none
  /-- UDP header, if any -/
  udp : Option Udp := none
  /-- the rest -/
  body : Body
  /-- for a frame that Pith sends past the forwarding lookup: the egress point it names and its timestamp request flag
      (R250) -/
  pith : Option (Nat × Bool) := none
  /-- kinds 4, 5 and 15 of Table 10.2 that the receiver of its port noticed while it arrived (R244): FEC codewords, symbol
      errors, a receive FIFO overflow -/
  phy : List Nat := []
  deriving DecidableEq, Repr

/-- The paths to the register bridge (Table 18.2, R372). -/
inductive Path where
  | frame
  | admin
  | pith
  deriving DecidableEq, Repr

/-- How a drive ended a command (Table 14.5, R323). -/
inductive DriveResult where
  /-- success, with the 4,112-byte blocks of a read -/
  | success (blocks : List (List Byte))
  /-- an error status -/
  | error (sct : Nat) (sc : Nat)
  /-- Command Abort Requested -/
  | aborted
  deriving DecidableEq, Repr

/-- What the Rootlet reads from a drive while it initialises it (R318 to R320, Tables 14.4 and 14.6). -/
structure DriveInfo where
  /-- VER -/
  ver : W32 := 0x20000#32
  /-- an LBA format of 4,096 bytes with 16 bytes of metadata exists -/
  lbafOk : Bool := true
  /-- that format is the one in use -/
  formatted : Bool := true
  /-- Format NVM supported (OACS bit 1) -/
  formatNvm : Bool := true
  /-- MDTS -/
  mdts : Nat := 0
  /-- VWC bit 0: a volatile write cache is present -/
  vwc : Bool := false
  /-- Flush supported -/
  flush : Bool := true
  /-- MQES -/
  mqes : Nat := 4095
  /-- I/O queue pairs granted -/
  granted : Nat := 8
  /-- capacity in blocks of the namespace used for data -/
  blocks : Nat
  /-- a zoned namespace is used: zone size, ZCAP, open zones, active zones, zone count, conventional blocks -/
  zoned : Option (Nat × Nat × Nat × Nat × Nat × Nat) := none
  /-- a non-operational power state with ENLAT + EXLAT at most 5,000 microseconds -/
  nops : Option Nat := none
  /-- L1 exit latency at most 32 microseconds -/
  l1ok : Bool := true
  /-- CSTS.CFS is set -/
  fatal : Bool := false
  deriving DecidableEq, Repr

/-- A power-managed resource (Table 15.1). -/
inductive Res where
  | engines
  | port (p : Nat)
  | drive (d : Nat)
  deriving DecidableEq, Repr

/-- A reference clock input (Tables 1.7 and 15.5). -/
inductive RefIn where
  | eth1
  | eth2
  | ddr
  | sys
  | pcie (bough : Nat)
  deriving DecidableEq, Repr

/-- What a quiet rule holds back (R49, R50). -/
inductive Quiet where
  /-- the completion of a command -/
  | command (tag : Nat)
  /-- a completion-queue slot whose completion WRITE was retransmitted -/
  | slot (qpid : Nat) (slot : Nat)
  /-- the next NOTIFY of a queue pair whose last NOTIFY was retransmitted -/
  | notify (qpid : Nat)
  deriving DecidableEq, Repr

/-- The streams of a grove (R159). -/
inductive Stream where
  | host
  | reloc
  | map
  deriving DecidableEq, Repr

/-- Who reads a DRAM location found in error (R388). -/
inductive DramUse where
  /-- nothing the spec names: the data goes to its reader marked poisoned -/
  | none
  /-- a staged block: staging entry and block within it -/
  | staged (entry : Nat) (block : Nat)
  /-- a page of the page cache -/
  | page (key : Nat)
  /-- a Cambium record, by SEQ -/
  | record (seq : Nat)
  /-- a finished P or Q of a stripe -/
  | parity (stripe : Nat)
  /-- a read by a Pith pair: false A, true B -/
  | pith (pairB : Bool)
  /-- a word of the sweep ring (false) or trace ring (true), by byte offset -/
  | ring (trace : Bool) (offset : Nat)
  /-- a word, 0 to 3, of an entry of a session's Host Event Log -/
  | hostLog (sid entry word : Nat)
  deriving DecidableEq, Repr

/-- The commands. [DESIGN CHOICE, log entry 14; DESIGN CHOICE, log entry 80] -/
inductive Instr where
  /-- FRAME_RECEIVE (R220): a frame arrives whole at an arrival port, named by its egress-point index -/
  | frameReceive (point : Nat) (f : Frame)
  /-- PAUSE_FRAME_RECEIVE (R243): a MAC Control frame with this opcode -/
  | pauseFrameReceive (point : Nat) (opcode : BitVec 16)
  /-- BARK_HOLD_RELEASE (R264): Bark decides on the oldest frame of a port's hold buffer -/
  | barkHoldRelease (port : Nat)
  /-- DOORBELL_RECEIVE (R65): Xylem takes the oldest released packet of a port, a DOORBELL -/
  | doorbellReceive (port : Nat)
  /-- ACK_RECEIVE (R44) -/
  | ackReceive (port : Nat)
  /-- NAK_RECEIVE (R38) -/
  | nakReceive (port : Nat)
  /-- READ_RESP_RECEIVE (R44) -/
  | readRespReceive (port : Nat)
  /-- UNSUPPORTED_PACKET_RECEIVE (R33): an inbound WRITE, READ or NOTIFY -/
  | unsupportedPacketReceive (port : Nat)
  /-- HEARTBEAT_RECEIVE (R290): a heartbeat on a ring port (false EAST, true WEST) -/
  | heartbeatReceive (west : Bool) (station : BitVec 16) (state : BitVec 16)
  /-- COMMAND_PLACE (R99): Knot places a ready command -/
  | commandPlace (tag : Nat)
  /-- FETCH (R67): a queue pair's turn -/
  | fetch (qpid : Nat)
  /-- SHADOW_POLL (R66) -/
  | shadowPoll (qpid : Nat)
  /-- RETRANSMIT_TIMEOUT (R41) -/
  | retransmitTimeout (req : Nat)
  /-- REQUEST_RETRY_EXHAUSTED (R42) -/
  | requestRetryExhausted (req : Nat)
  /-- ACK_DELAY_EXPIRY (R45): a gathering ACK, by its place in the pool -/
  | ackDelayExpiry (ack : Nat)
  /-- RATE_UPDATE (R52) -/
  | rateUpdate
  /-- PACED_RELEASE (R273): one paced request -/
  | pacedRelease (req : Nat)
  /-- QUIET_EXPIRY (R49, R50) -/
  | quietExpiry (q : Quiet)
  /-- NOTIFY_COAL_EXPIRY (R75) -/
  | notifyCoalExpiry (qpid : Nat)
  /-- XYLEM_START_WAIT_END (R40) -/
  | xylemStartWaitEnd
  /-- QUEUE_PAIR_DISABLE_DONE (R76) -/
  | queuePairDisableDone (qpid : Nat)
  /-- SESSION_RESET_SETTLE (R78) -/
  | sessionResetSettle (sid : Nat)
  /-- KEEPALIVE_EXPIRY (R84) -/
  | keepaliveExpiry (sid : Nat)
  /-- SESSION_OP_OPEN (R59) -/
  | sessionOpOpen
  /-- SESSION_OP_CLOSE (R79) -/
  | sessionOpClose
  /-- SESSION_OP_RESET (R78) -/
  | sessionOpReset
  /-- GET_LOG_PAGE (R86). Admin and I/O commands are named by the tag Bud gave them when it accepted them. -/
  | getLogPage (tag : Nat)
  /-- IDENTIFY (R85) -/
  | identify (tag : Nat)
  /-- ABORT (R83) -/
  | abort (tag : Nat)
  /-- SET_FEATURES (R87) -/
  | setFeatures (tag : Nat)
  /-- GET_FEATURES (R87) -/
  | getFeatures (tag : Nat)
  /-- ASYNCHRONOUS_EVENT_REQUEST (R395) -/
  | asynchronousEventRequest (tag : Nat)
  /-- NAMESPACE_CREATE (R115); here and in the other rows that take data from the host (R71), `data` is what the READs of the
command have brought. -/
  | namespaceCreate (tag : Nat) (data : List Byte)
  /-- NAMESPACE_DELETE (R116) -/
  | namespaceDelete (tag : Nat)
  /-- NAMESPACE_DELETE_RECORD (R116) -/
  | namespaceDeleteRecord (nsid : Nat)
  /-- NAMESPACE_ATTACH (R429) -/
  | namespaceAttach (tag : Nat) (data : List Byte)
  /-- NAMESPACE_DETACH (R429) -/
  | namespaceDetach (tag : Nat) (data : List Byte)
  /-- FIRMWARE_IMAGE_DOWNLOAD (R80) -/
  | firmwareImageDownload (tag : Nat) (data : List Byte)
  /-- FIRMWARE_COMMIT_WRITE (R82) -/
  | firmwareCommitWrite (tag : Nat)
  /-- FIRMWARE_COMMIT_WRITE_MARK (R82) -/
  | firmwareCommitWriteMark (tag : Nat)
  /-- FIRMWARE_COMMIT_MARK (R82) -/
  | firmwareCommitMark (tag : Nat)
  /-- FIRMWARE_ACTIVATE (R302) -/
  | firmwareActivate (tag : Nat)
  /-- KEEP_ALIVE (R84) -/
  | keepAlive (tag : Nat)
  /-- SESSION_OPEN (R59) -/
  | sessionOpen (tag : Nat)
  /-- SESSION_CLOSE (R79) -/
  | sessionClose (tag : Nat)
  /-- SESSION_RESET (R78) -/
  | sessionReset (tag : Nat)
  /-- SESSION_QUERY (R81) -/
  | sessionQuery (tag : Nat)
  /-- REGISTER_READ (R376) -/
  | registerRead (tag : Nat)
  /-- REGISTER_WRITE (R376) -/
  | registerWrite (tag : Nat) (data : List Byte)
  /-- SAVE_CONFIGURATION (R360) -/
  | saveConfiguration (tag : Nat)
  /-- GROVE_CREATE (R149) -/
  | groveCreate (tag : Nat)
  /-- GROVE_DELETE (R148) -/
  | groveDelete (tag : Nat)
  /-- ADD_SPARES (R150) -/
  | addSpares (tag : Nat)
  /-- REMOVE_SPARES (R148) -/
  | removeSpares (tag : Nat)
  /-- RELEASE_NAMESPACES (R148) -/
  | releaseNamespaces (tag : Nat)
  /-- REBUILD_NOW (R202) -/
  | rebuildNow (tag : Nat)
  /-- PAUSE_REBUILD (R202) -/
  | pauseRebuild (tag : Nat)
  /-- RESUME_REBUILD (R202) -/
  | resumeRebuild (tag : Nat)
  /-- FAIL_MEMBER (R202) -/
  | failMember (tag : Nat)
  /-- VERIFY (R202) -/
  | verify (tag : Nat)
  /-- KEY_LOAD (R269) -/
  | keyLoad (tag : Nat) (data : List Byte)
  /-- KEY_LOAD_AND_SELECT (R269) -/
  | keyLoadAndSelect (tag : Nat) (data : List Byte)
  /-- KEY_SELECT (R270) -/
  | keySelect (tag : Nat)
  /-- KEY_CLEAR (R269) -/
  | keyClear (tag : Nat)
  /-- FLUSH (R107) -/
  | flush (tag : Nat)
  /-- WRITE (R134) -/
  | write (tag : Nat)
  /-- READ (R95) -/
  | read (tag : Nat)
  /-- COMPARE (R92) -/
  | compare (tag : Nat)
  /-- WRITE_ZEROES (R129) -/
  | writeZeroes (tag : Nat)
  /-- DATASET_MANAGEMENT (R129) -/
  | datasetManagement (tag : Nat)
  /-- TRANSLATION_DONE (R126) -/
  | translationDone (tag : Nat)
  /-- STEAL_ATTEMPT (R102) -/
  | stealAttempt (engine : Nat)
  /-- JOURNAL_RECORD_DURABLE (R128): the oldest record not yet durable -/
  | journalRecordDurable
  /-- CAMBIUM_COMPACT (R132) -/
  | cambiumCompact
  /-- PAGE_WRITEBACK (R124): a page of the page cache, by its key -/
  | pageWriteback (page : Nat)
  /-- STRIPE_OPEN (R161) -/
  | stripeOpen (grove : Nat) (stream : Stream)
  /-- STRIPE_IDLE_CLOSE (R160) -/
  | stripeIdleClose (grove : Nat) (stream : Stream)
  /-- DRIVE_COMMAND_COMPLETE (R323): a command at a drive, by its slot identity -/
  | driveCommandComplete (drive : Nat) (cmd : Nat) (result : DriveResult)
  /-- PRUNER_VICTIM_SELECT (R174) -/
  | prunerVictimSelect (grove : Nat)
  /-- SEGMENT_FREE (R175) -/
  | segmentFree (grove : Nat) (seg : Nat)
  /-- MEMBER_FAIL (R181) -/
  | memberFail (grove : Nat) (slot : Nat)
  /-- REBUILD_SEGMENT_DONE (R185): the segment that the rebuild sequencer is in -/
  | rebuildSegmentDone (grove : Nat)
  /-- RESYNC_STRIPE (R199): the next stripe of the resync order, with its chunks as read, slot by slot -/
  | resyncStripe (grove : Nat) (chunks : List (Option (List (List Byte))))
  /-- SHOOT_LINGER_EXPIRY (R208) -/
  | shootLingerExpiry (shoot : Nat)
  /-- EGRESS_SELECT (R279) -/
  | egressSelect (point : Nat)
  /-- CROWN_SCRUB (R229) -/
  | crownScrub
  /-- LEARNED_ENTRY_AGE_OUT (R224) -/
  | learnedEntryAgeOut (ep : W32)
  /-- FWD_ENTRY_READ (R235) -/
  | fwdEntryRead
  /-- FWD_ENTRY_WRITE (R224) -/
  | fwdEntryWrite
  /-- FWD_ENTRY_DELETE (R235) -/
  | fwdEntryDelete
  /-- PATH_RECORD_WRITE (R235) -/
  | pathRecordWrite
  /-- LINK_UP (R240): a fabric sub-port or ring port, by its egress-point index -/
  | linkUp (point : Nat)
  /-- LINK_DOWN (R240) -/
  | linkDown (point : Nat) (pcs : Bool := false)
  /-- PORT_CLASS_WRITE (R246): CLASS of a fabric sub-port, EAST, WEST or MGMT -/
  | portClassWrite (point : Nat) (cls : BitVec 2)
  /-- INDICATION_READ (R244) -/
  | indicationRead (point : Nat)
  /-- TIMEBASE_SET (R248) -/
  | timebaseSet
  /-- TIMEBASE_STEP (R248) -/
  | timebaseStep
  /-- PPS_IN_CAPTURE (R251) -/
  | ppsInCapture
  /-- PPS_OUT_PULSE (R251) -/
  | ppsOutPulse
  /-- TXTS_READ (R259) -/
  | txtsRead
  /-- GATE_ENTRY_ADVANCE (R252) -/
  | gateEntryAdvance (point : Nat)
  /-- GATE_LIST_SWAP (R254) -/
  | gateListSwap (point : Nat)
  /-- MDIO_START (R255) -/
  | mdioStart
  /-- MDIO_DONE (R255): the PHY's answer to a read -/
  | mdioDone (value : BitVec 16)
  /-- PHY_AUTO_POLL (R255): PHY registers 1, 4, 5, 9 and 10 -/
  | phyAutoPoll (r1 r4 r5 r9 r10 : BitVec 16)
  /-- MGMT_COLLISION (R256): after this many bit times of the attempt -/
  | mgmtCollision (bits : Nat)
  /-- MGMT_BACKOFF_EXPIRY (R256) -/
  | mgmtBackoffExpiry
  /-- SHAPER_READ (R283) -/
  | shaperRead
  /-- SHAPER_WRITE (R278) -/
  | shaperWrite
  /-- HEARTBEAT_SEND (R289) -/
  | heartbeatSend
  /-- NEIGHBOUR_LOST (R290) -/
  | neighbourLost (west : Bool)
  /-- RING_JOIN_WRITE (R293): JOIN_E and JOIN_W as written -/
  | ringJoinWrite (joinE joinW : Bool)
  /-- BYPASS_SETTLED (R293) -/
  | bypassSettled
  /-- PASS_THROUGH_LOCK (R293) -/
  | passThroughLock
  /-- LOCKSTEP_MISMATCH (R295): pair A (false) or B (true); the Register Write that it interrupts, if any (R378): its
      tag, and how many of its writes the bridge had completed -/
  | lockstepMismatch (pairB : Bool) (cut : Option (Nat × Nat))
  /-- WATCHDOG_EXPIRY (R297), with the Register Write that it interrupts, if any -/
  | watchdogExpiry (cut : Option (Nat × Nat))
  /-- WATCHDOG_KICK (R297) -/
  | watchdogKick
  /-- PITH_CHECKPOINT (R296) -/
  | pithCheckpoint
  /-- TAKEOVER (R300) -/
  | takeover
  /-- REHEARSE (R305): the path the write came by -/
  | rehearse (path : Path)
  /-- REARM (R301): does the self-test pass -/
  | rearm (pass : Bool)
  /-- STANDBY_WAKE_DONE (R298): does the SRAM self-test pass -/
  | standbyWakeDone (ok : Bool)
  /-- STANDBY_BOOT_DONE (R298): does the firmware check pass -/
  | standbyBootDone (ok : Bool)
  /-- STANDBY_RESTORE_DONE (R298) -/
  | standbyRestoreDone
  /-- TAKEOVER_TIMEOUT (R299) -/
  | takeoverTimeout
  /-- BOUGH_VACATED (R303) -/
  | boughVacated (bough : Nat)
  /-- RELOAD_ABORT (R303) -/
  | reloadAbort (bough : Nat)
  /-- RELOAD_RETRY (R303) -/
  | reloadRetry (bough : Nat)
  /-- MICROCODE_LOADED (R303) -/
  | microcodeLoaded (bough : Nat)
  /-- DRIVE_PRESENT (R315) -/
  | drivePresent (drive : Nat)
  /-- DEBOUNCE_EXPIRY (R315) -/
  | debounceExpiry (drive : Nat)
  /-- POWER_DELAY_EXPIRY (R315) -/
  | powerDelayExpiry (drive : Nat)
  /-- LINK_TRAINED (R309): the generation and width reached -/
  | linkTrained (drive : Nat) (gen : Nat) (width : Nat)
  /-- LINK_TRAIN_TIMEOUT (R309) -/
  | linkTrainTimeout (drive : Nat)
  /-- CONFIG_WAIT_EXPIRY (R315) -/
  | configWaitExpiry (drive : Nat)
  /-- DRIVE_INIT_DONE (R318) -/
  | driveInitDone (drive : Nat) (info : DriveInfo)
  /-- DRIVE_INIT_TIMEOUT (R315) -/
  | driveInitTimeout (drive : Nat)
  /-- SURPRISE_REMOVAL (R316) -/
  | surpriseRemoval (drive : Nat)
  /-- DRIVE_POWER_OFF (R317): POWER_OFF as written -/
  | drivePowerOff (drive : Nat) (on : Bool)
  /-- ROOTLET_DISABLE (R315) -/
  | rootletDisable (drive : Nat)
  /-- ROOTLET_ENABLE (R315) -/
  | rootletEnable (drive : Nat)
  /-- AER_CORRECTABLE (R314) -/
  | aerCorrectable (drive : Nat)
  /-- AER_NONFATAL (R314): the command its TLP names -/
  | aerNonfatal (drive : Nat) (cmd : Nat)
  /-- AER_FATAL (R314) -/
  | aerFatal (drive : Nat)
  /-- INBOUND_VIOLATION (R313): an inbound request of a drive: a write or a read, its address and length -/
  | inboundViolation (drive : Nat) (isWrite : Bool) (addr : W64) (len : Nat)
  /-- CONTAINMENT_RELEASE (R314) -/
  | containmentRelease (drive : Nat)
  /-- DRIVE_COMMAND_TIMEOUT (R322) -/
  | driveCommandTimeout (drive : Nat) (cmd : Nat)
  /-- ABORT_WAIT_EXPIRY (R322) -/
  | abortWaitExpiry (drive : Nat) (cmd : Nat)
  /-- CONTROLLER_RESET_DONE (R322): did the reset succeed -/
  | controllerResetDone (drive : Nat) (ok : Bool)
  /-- SAP_IDLE_EXPIRY (R332): the resource and the deeper state it enters -/
  | sapIdleExpiry (res : Res) (sp : Nat)
  /-- SAP_STATE_EXIT (R332): the resource -/
  | sapStateExit (res : Res)
  /-- RESOURCE_PIN (R333): PIN_EN and PIN_SP as written for the selected resource -/
  | resourcePin (en : Bool) (sp : BitVec 2)
  /-- DROOP_TRIP (R335): die 0 T, 1 to 4 B0 to B3, 5 RT -/
  | droopTrip (die : Nat)
  /-- DROOP_RELEASE (R335) -/
  | droopRelease (die : Nat)
  /-- THERMAL_SAMPLE (R337): four junction temperatures per die, T, B0 to B3, RT -/
  | thermalSample (temps : List (List Nat))
  /-- THROTTLE_STEP (R337) -/
  | throttleStep (die : Nat)
  /-- PWRFAIL_ASSERT (R339) -/
  | pwrfailAssert
  /-- RAIL_UNDERVOLTAGE (R339) -/
  | railUndervoltage
  /-- FLUSH_STOP_DONE (R155) -/
  | flushStopDone
  /-- VAULT_WRITE_DONE (R155) -/
  | vaultWriteDone
  /-- FLUSH_SEAL_DONE (R155) -/
  | flushSealDone
  /-- SAP_RESTART (R340): straps as the pins then stand -/
  | sapRestart (modeSel : BitVec 4) (ringPt recForce : Bool)
  /-- REFERENCE_LOSS (R341) -/
  | referenceLoss (ref : RefIn)
  /-- RESET_ASSERT (R346) -/
  | resetAssert
  /-- RESET_RELEASE (R347): the straps of Table 16.2 -/
  | resetRelease (modeSel : BitVec 4) (ringPt recForce : Bool)
  /-- PLL_LOCKED (R347) -/
  | pllLocked
  /-- SELFTEST_DONE (R348): per die T, B0 to B3, RT whether it passed; per die link 0 down, 2 full, 3 reduced -/
  | selftestDone (pass : List Bool) (links : List (BitVec 2))
  /-- IMAGE_CHECKED (R351) -/
  | imageChecked
  /-- DRAM_TRAINED (R386): did every channel train as DRAM_POP describes -/
  | dramTrained (ok : Bool)
  /-- DRIVES_SETTLED (R347): vault drives whose vault units cannot be read back right, and members that give no
      readable copy of their intent ring -/
  | drivesSettled (badVault : List Nat) (badIntent : List Nat)
  /-- DRIVE_WAIT_EXPIRY (R347) -/
  | driveWaitExpiry
  /-- RESTORE_DONE (R347) -/
  | restoreDone
  /-- WAIT_RECORD_TIMEOUT (R356) -/
  | waitRecordTimeout
  /-- START_DONE (R347) -/
  | startDone
  /-- SEED_RESTART (R346): straps as the pins then stand -/
  | seedRestart (modeSel : BitVec 4) (ringPt recForce : Bool)
  /-- RECOVERY_ERASE (R358) -/
  | recoveryErase
  /-- RECOVERY_PROGRAM (R358) -/
  | recoveryProgram
  /-- RECOVERY_CHECK (R358) -/
  | recoveryCheck
  /-- RECOVERY_SET_NEXT (R358) -/
  | recoverySetNext
  /-- RECOVERY_PROVISION (R358) -/
  | recoveryProvision
  /-- RECOVERY_RESTART (R358): straps as the pins then stand -/
  | recoveryRestart (modeSel : BitVec 4) (ringPt recForce : Bool)
  /-- FLASH_OP_DONE (R358): did the flash operation succeed -/
  | flashOpDone (ok : Bool)
  /-- FLASH_WRITE_DONE (R359): did the flash take every byte -/
  | flashWriteDone (ok : Bool)
  /-- DLINK_RETRAIN (R12) -/
  | dlinkRetrain (link : Nat)
  /-- DLINK_RETRAIN_DONE (R12): at reduced width or not -/
  | dlinkRetrainDone (link : Nat) (reduced : Bool)
  /-- DLINK_DOWN (R12) -/
  | dlinkDown (link : Nat)
  /-- REGISTER_ACCESS_FRAME (R375): addresses, optional 802.1Q tag and payload of the frame -/
  | registerAccessFrame (dstMac srcMac : BitVec 48) (vlan : Option (BitVec 16)) (payload : List Byte)
  /-- REGISTER_FIELD_WRITE (R379): a (masked) write by a path -/
  | registerFieldWrite (path : Path) (addr : W32) (data : W32) (mask : W32)
  /-- COMMIT_APPLY (R381): the safe boundary of a commit group, named by its COMMIT address and bit -/
  | commitApply (addr : Nat) (bit : Nat)
  /-- XYLEM_COMMIT_TIMER (R380) -/
  | xylemCommitTimer
  /-- XYLEM_COMMIT_RATE -/
  | xylemCommitRate
  /-- BUD_COMMIT_FETCH -/
  | budCommitFetch
  /-- KNOT_COMMIT_LIMITS -/
  | knotCommitLimits
  /-- TWIG_COMMIT_STEAL -/
  | twigCommitSteal (engine : Nat)
  /-- HEARTWOOD_COMMIT_WB -/
  | heartwoodCommitWb
  /-- CAMBIUM_COMMIT_WATER (R140) -/
  | cambiumCommitWater
  /-- GROVE_COMMIT_LAG -/
  | groveCommitLag
  /-- GROVE_COMMIT_ASSY -/
  | groveCommitAssy
  /-- SAPWOOD_COMMIT_WATER -/
  | sapwoodCommitWater
  /-- PRUNER_COMMIT_THRESH -/
  | prunerCommitThresh
  /-- COPPICE_COMMIT_LIMITS -/
  | coppiceCommitLimits
  /-- CROWN_COMMIT_BUF (R225) -/
  | crownCommitBuf
  /-- CROWN_COMMIT_ECN -/
  | crownCommitEcn
  /-- FMAC_COMMIT_GATE (R254): a fabric or ring port 0 to 9 and its sub-port -/
  | fmacCommitGate (port : Nat) (sub : Nat)
  /-- CANOPY_COMMIT_SCH (R281) -/
  | canopyCommitSch
  /-- CANOPY_COMMIT_POLICE (R282) -/
  | canopyCommitPolice
  /-- ROOTLET_COMMIT_IO -/
  | rootletCommitIo (drive : Nat)
  /-- SAP_COMMIT_POLICY -/
  | sapCommitPolicy
  /-- SAP_COMMIT_SAFETY -/
  | sapCommitSafety
  /-- TALLY_COMMIT_FILTER (R404) -/
  | tallyCommitFilter
  /-- TALLY_COMMIT_SAMPLE (R403) -/
  | tallyCommitSample
  /-- EVENT_PEND_CLEAR (R391): ones written to the PEND bits of a group -/
  | eventPendClear (group : Nat) (ones : W64)
  /-- HOST_EVENT_GAP_EXPIRY (R395) -/
  | hostEventGapExpiry (sid : Nat) (source : Nat)
  /-- TALLY_SWEEP (R397) -/
  | tallySweep
  /-- ENGINE_COUNTER_WRAP (R399) -/
  | engineCounterWrap (engine : Nat) (n : Nat)
  /-- ENGINE_COUNTER_CLEAR (R399): of the selected engine -/
  | engineCounterClear (n : Nat)
  /-- RING_DATA_READ (R403) -/
  | ringDataRead
  /-- LATCHED_PAIR_READ (R391): the address of a _LO register -/
  | latchedPairRead (addr : Nat)
  /-- DRAM_ERROR (R388) -/
  | dramError (uncorrectable : Bool) (channel rank : Nat) (addr : W64) (use : DramUse)
  /-- SIDEBAND_READ (R418): one byte -/
  | sidebandRead
  /-- SIDEBAND_OFFSET_WRITE (R418): the bytes of the write -/
  | sidebandOffsetWrite (bytes : List Byte)
  /-- SIDEBAND_ADDRESS_ASSIGN (R418) -/
  | sidebandAddressAssign (addr : BitVec 7)
  /-- REHEARSAL_BEGIN_DELAY_EXPIRY (R305) -/
  | rehearsalBeginDelayExpiry
  /-- LINK_EQUALIZATION_FAIL (R309) -/
  | linkEqualizationFail (drive : Nat)
  /-- ROOTLET_DISABLE_WAIT_EXPIRY (R315) -/
  | rootletDisableWaitExpiry (drive : Nat)
  /-- POWER_STATE_EXIT_DONE (R328) -/
  | powerStateExitDone (res : Res)
  /-- PWRFAIL_DEASSERT (R340) -/
  | pwrfailDeassert
  /-- CARRIER_SENSE_DEASSERT (R256) -/
  | carrierSenseDeassert (lost : Bool := false)
  /-- PHY_RESET_RELEASE (R415) -/
  | phyResetRelease
  /-- SCRUB_PASS_DONE (R388) -/
  | scrubPassDone
  deriving DecidableEq, Repr

end Sys2Proof
end

