-- ==== Sys2Proof/WellFormed.lean ====
section
/-!
DEFINITION. Which commands are well formed: every operand that names a part of the block lies in the range that spec/
gives that part. An ill-formed command names nothing, and has no effect (log entry 4).
-/

namespace Sys2Proof

/-- The external points: 0 to 31 fabric sub-ports, 32 EAST, 33 WEST, 34 MGMT (Table 9.1). -/
def arrivalPoint (p : Nat) : Bool := p < 35

/-- The points that frames come in at: the external points, and CTRL at 35 (Table 9.2). -/
def framePoint (p : Nat) : Bool := p < 36

/-- The egress points: 35 CTRL and 36 to 39 Twig insertion points besides (Table 9.1, R217). -/
def egressPoint (p : Nat) : Bool := p < 40

/-- The Crown ports that take frames: F0 to F7, EAST, WEST, MGMT (Table 9.1). -/
def crownIndex (p : Nat) : Bool := p < 11

/-- Fabric sub-ports and ring ports. -/
def linkPoint (p : Nat) : Bool := p < 34

/-- Drives D00 to D23 (spec/14). -/
def driveIndex (d : Nat) : Bool := d < 24

/-- Groves 0 to 3 (spec/06). -/
def groveIndex (g : Nat) : Bool := g < 4

/-- Twig engines TW00 to TW63 (spec/04). -/
def engineIndex (e : Nat) : Bool := e < 64

/-- Boughs B0 to B3. -/
def boughIndex (b : Nat) : Bool := b < 4

/-- Dies: 0 T, 1 to 4 B0 to B3, 5 RT (spec/15). -/
def dieIndex (d : Nat) : Bool := d < 6

/-- Queue pairs 0 to 16,383 (spec/03). -/
def qpIndex (q : Nat) : Bool := q < 16384

/-- Sessions 0 to 4,095 (spec/03). -/
def sessionIndex (s : Nat) : Bool := s < 4096

/-- A power-managed resource of Table 15.1 that exists. -/
def Res.ok : Res → Bool
  | .engines => true
  | .port p => p < 10
  | .drive d => driveIndex d

/-- A reference input that exists. -/
def RefIn.ok : RefIn → Bool
  | .eth1 => true
  | .eth2 => true
  | .ddr => true
  | .sys => true
  | .pcie b => boughIndex b

/-- The checks, command by command. A command without such an operand is always well formed.
 [DESIGN CHOICE, log entry 4] -/
def Instr.wf : Instr → Bool
  | .frameReceive point _ => framePoint point
  | .pauseFrameReceive point _ => arrivalPoint point
  | .barkHoldRelease port => crownIndex port
  | .doorbellReceive port => crownIndex port
  | .ackReceive port => crownIndex port
  | .nakReceive port => crownIndex port
  | .readRespReceive port => crownIndex port
  | .unsupportedPacketReceive port => crownIndex port
  | .heartbeatReceive _ _ _ => true
  | .commandPlace _ => true
  | .fetch qpid => qpIndex qpid
  | .shadowPoll qpid => qpIndex qpid
  | .retransmitTimeout _ => true
  | .requestRetryExhausted _ => true
  | .ackDelayExpiry _ => true
  | .rateUpdate => true
  | .pacedRelease _ => true
  | .quietExpiry _ => true
  | .notifyCoalExpiry qpid => qpIndex qpid
  | .xylemStartWaitEnd => true
  | .queuePairDisableDone qpid => qpIndex qpid
  | .sessionResetSettle sid => sessionIndex sid
  | .keepaliveExpiry sid => sessionIndex sid
  | .sessionOpOpen => true
  | .sessionOpClose => true
  | .sessionOpReset => true
  | .getLogPage _ => true
  | .identify _ => true
  | .abort _ => true
  | .setFeatures _ => true
  | .getFeatures _ => true
  | .asynchronousEventRequest _ => true
  | .namespaceCreate _ _ => true
  | .namespaceDelete _ => true
  | .namespaceDeleteRecord nsid => decide (1 ≤ nsid ∧ nsid ≤ 4096)
  | .namespaceAttach _ _ => true
  | .namespaceDetach _ _ => true
  | .firmwareImageDownload _ _ => true
  | .firmwareCommitWrite _ => true
  | .firmwareCommitWriteMark _ => true
  | .firmwareCommitMark _ => true
  | .firmwareActivate _ => true
  | .keepAlive _ => true
  | .sessionOpen _ => true
  | .sessionClose _ => true
  | .sessionReset _ => true
  | .sessionQuery _ => true
  | .registerRead _ => true
  | .registerWrite _ _ => true
  | .saveConfiguration _ => true
  | .groveCreate _ => true
  | .groveDelete _ => true
  | .addSpares _ => true
  | .removeSpares _ => true
  | .releaseNamespaces _ => true
  | .rebuildNow _ => true
  | .pauseRebuild _ => true
  | .resumeRebuild _ => true
  | .failMember _ => true
  | .verify _ => true
  | .keyLoad _ _ => true
  | .keyLoadAndSelect _ _ => true
  | .keySelect _ => true
  | .keyClear _ => true
  | .flush _ => true
  | .write _ => true
  | .read _ => true
  | .compare _ => true
  | .writeZeroes _ => true
  | .datasetManagement _ => true
  | .translationDone _ => true
  | .stealAttempt engine => engineIndex engine
  | .journalRecordDurable => true
  | .cambiumCompact => true
  | .pageWriteback _ => true
  | .stripeOpen grove _ => groveIndex grove
  | .stripeIdleClose grove _ => groveIndex grove
  | .driveCommandComplete drive _ _ => driveIndex drive
  | .prunerVictimSelect grove => groveIndex grove
  | .segmentFree grove _ => groveIndex grove
  | .memberFail grove _ => groveIndex grove
  | .rebuildSegmentDone grove => groveIndex grove
  | .resyncStripe grove _ => groveIndex grove
  | .shootLingerExpiry _ => true
  | .egressSelect point => egressPoint point
  | .crownScrub => true
  | .learnedEntryAgeOut _ => true
  | .fwdEntryRead => true
  | .fwdEntryWrite => true
  | .fwdEntryDelete => true
  | .pathRecordWrite => true
  | .linkUp point => linkPoint point
  | .linkDown point _ => linkPoint point
  | .portClassWrite point _ => arrivalPoint point
  | .indicationRead point => arrivalPoint point
  | .timebaseSet => true
  | .timebaseStep => true
  | .ppsInCapture => true
  | .ppsOutPulse => true
  | .txtsRead => true
  | .gateEntryAdvance point => linkPoint point
  | .gateListSwap point => linkPoint point
  | .mdioStart => true
  | .mdioDone _ => true
  | .phyAutoPoll _ _ _ _ _ => true
  | .mgmtCollision _ => true
  | .mgmtBackoffExpiry => true
  | .shaperRead => true
  | .shaperWrite => true
  | .heartbeatSend => true
  | .neighbourLost _ => true
  | .ringJoinWrite _ _ => true
  | .bypassSettled => true
  | .passThroughLock => true
  | .lockstepMismatch _ _ => true
  | .watchdogExpiry _ => true
  | .watchdogKick => true
  | .pithCheckpoint => true
  | .takeover => true
  | .rehearse _ => true
  | .rearm _ => true
  | .standbyWakeDone _ => true
  | .standbyBootDone _ => true
  | .standbyRestoreDone => true
  | .takeoverTimeout => true
  | .boughVacated bough => boughIndex bough
  | .reloadAbort bough => boughIndex bough
  | .reloadRetry bough => boughIndex bough
  | .microcodeLoaded bough => boughIndex bough
  | .drivePresent drive => driveIndex drive
  | .debounceExpiry drive => driveIndex drive
  | .powerDelayExpiry drive => driveIndex drive
  | .linkTrained drive _ _ => driveIndex drive
  | .linkTrainTimeout drive => driveIndex drive
  | .configWaitExpiry drive => driveIndex drive
  | .driveInitDone drive _ => driveIndex drive
  | .driveInitTimeout drive => driveIndex drive
  | .surpriseRemoval drive => driveIndex drive
  | .drivePowerOff drive _ => driveIndex drive
  | .rootletDisable drive => driveIndex drive
  | .rootletEnable drive => driveIndex drive
  | .aerCorrectable drive => driveIndex drive
  | .aerNonfatal drive _ => driveIndex drive
  | .aerFatal drive => driveIndex drive
  | .inboundViolation drive _ _ _ => driveIndex drive
  | .containmentRelease drive => driveIndex drive
  | .driveCommandTimeout drive _ => driveIndex drive
  | .abortWaitExpiry drive _ => driveIndex drive
  | .controllerResetDone drive _ => driveIndex drive
  | .sapIdleExpiry res sp => res.ok && decide (sp < 4)
  | .sapStateExit res => res.ok
  | .resourcePin _ _ => true
  | .droopTrip die => dieIndex die
  | .droopRelease die => dieIndex die
  | .thermalSample temps => decide (temps.length = 6)
  | .throttleStep die => dieIndex die
  | .pwrfailAssert => true
  | .railUndervoltage => true
  | .flushStopDone => true
  | .vaultWriteDone => true
  | .flushSealDone => true
  | .sapRestart _ _ _ => true
  | .referenceLoss ref => ref.ok
  | .resetAssert => true
  | .resetRelease _ _ _ => true
  | .pllLocked => true
  | .selftestDone pass links => decide (pass.length = 6) && decide (links.length = 12)
  | .imageChecked => true
  | .dramTrained _ => true
  | .drivesSettled _ _ => true
  | .driveWaitExpiry => true
  | .restoreDone => true
  | .waitRecordTimeout => true
  | .startDone => true
  | .seedRestart _ _ _ => true
  | .recoveryErase => true
  | .recoveryProgram => true
  | .recoveryCheck => true
  | .recoverySetNext => true
  | .recoveryProvision => true
  | .recoveryRestart _ _ _ => true
  | .flashOpDone _ => true
  | .flashWriteDone _ => true
  | .dlinkRetrain link => decide (link < 12)
  | .dlinkRetrainDone link _ => decide (link < 12)
  | .dlinkDown link => decide (link < 12)
  | .registerAccessFrame _ _ _ _ => true
  | .registerFieldWrite _ _ _ _ => true
  | .commitApply _ bit => decide (bit < 32)
  | .xylemCommitTimer => true
  | .xylemCommitRate => true
  | .budCommitFetch => true
  | .knotCommitLimits => true
  | .twigCommitSteal engine => engineIndex engine
  | .heartwoodCommitWb => true
  | .cambiumCommitWater => true
  | .groveCommitLag => true
  | .groveCommitAssy => true
  | .sapwoodCommitWater => true
  | .prunerCommitThresh => true
  | .coppiceCommitLimits => true
  | .crownCommitBuf => true
  | .crownCommitEcn => true
  | .fmacCommitGate port sub => decide (port < 10) && decide (sub < 4)
  | .canopyCommitSch => true
  | .canopyCommitPolice => true
  | .rootletCommitIo drive => driveIndex drive
  | .sapCommitPolicy => true
  | .sapCommitSafety => true
  | .tallyCommitFilter => true
  | .tallyCommitSample => true
  | .eventPendClear group _ => decide (group < 64)
  | .hostEventGapExpiry sid source => sessionIndex sid && decide (source < 4096)
  | .tallySweep => true
  | .engineCounterWrap engine n => engineIndex engine && decide (n < 6)
  | .engineCounterClear n => decide (n < 6)
  | .ringDataRead => true
  | .latchedPairRead _ => true
  | .dramError _ _ _ _ _ => true
  | .sidebandRead => true
  | .sidebandOffsetWrite _ => true
  | .sidebandAddressAssign _ => true
  | .rehearsalBeginDelayExpiry => true
  | .linkEqualizationFail drive => driveIndex drive
  | .rootletDisableWaitExpiry drive => driveIndex drive
  | .powerStateExitDone res => res.ok
  | .pwrfailDeassert => true
  | .carrierSenseDeassert _ => true
  | .phyResetRelease => true
  | .scrubPassDone => true

end Sys2Proof
end

