-- ==== Sys2Proof/Decode.lean ====
section
/-!
DEFINITION. The table word of a command. spec/opcode_table.json gives none of its rows any bits, so that no word spells a
command (log entry 6).
-/

namespace Sys2Proof

/-- The command that a word of `nbits` bits spells by the table's bits: the table gives no row bits.
 [DESIGN CHOICE, log entry 6] -/
def decodeTableWord (_nbits _w : Nat) : Option Instr := none

end Sys2Proof
end

