-- ==== Sys2Proof/Config.lean ====
section
/-!
DEFINITION. What an implementation fixes and what spec/ leaves open: opaque constants, with no body, so that no proof
can see a value of them. Each is named in a row of notes/assumptions.
-/

namespace Sys2Proof.Config

/-- AES-256 on one block (R262; the cipher is another standard's). [PRESUMED, log entry 3] -/
opaque aes256 : BitVec 256 → BitVec 128 → BitVec 128

/-- CRC32C over bytes (R119, R131; another standard's). [PRESUMED, log entry 3] -/
opaque crc32c : List Byte → W32

/-- The 64-bit guard of NVM Express protection information over 4,096 bytes (R6, R167).
 [PRESUMED, log entry 3] -/
opaque guard64 : List Byte → W64

/-- AES key unwrap of NIST SP 800-38F: key, wrapped bytes, the plain bytes if it unwraps (R269, R353).
 [PRESUMED, log entry 3] -/
opaque keyUnwrap : BitVec 256 → List Byte → Option (List Byte)

/-- The 14-bit hash of the UDP source port over source and destination endpoint and, in per-packet mode, request ID
(R18). [PRESUMED, log entry 3] -/
opaque sportHash : W32 → W32 → Option W64 → BitVec 14

/-- The set of the forwarding table that holds an endpoint, 0 to 8,191 (R222). [PRESUMED, log entry 3] -/
opaque fwdSet : W32 → BitVec 13

/-- The set of the translation cache for NSID and window, 0 to 65,535 (R122). [PRESUMED, log entry 3] -/
opaque tcSet : Nat → Nat → BitVec 16

/-- The set of the shoot table for grove, stripe and chunk, 0 to 4,095 (R206). [PRESUMED, log entry 3] -/
opaque shootSet : Nat → Nat → Nat → BitVec 12

/-- The traffic class of a packet of the station that belongs to no queue pair (R234 gives none).
 [DESIGN CHOICE, log entry 10] -/
opaque plainTc : BitVec 3

/-- DST_EP of a HEARTBEAT (Table 2.5 gives none). [DESIGN CHOICE, log entry 2] -/
opaque heartbeatDst : W32

/-- SAP_RES_STAT.MIN_TOL_US of a resource without users (Table 15.6 gives none).
 [DESIGN CHOICE, log entry 2] -/
opaque noTolerance : BitVec 23

/-- The part's fused serial number (R384). [PRESUMED, log entry 3] -/
opaque chipSerial : W64

/-- What a word of the sweep ring (false) or trace ring (true) holds before the device has written it (spec/19 gives no
content). [DESIGN CHOICE, log entry 2] -/
opaque ringInit : Bool → Nat → W32

/-- Bytes that the DRAM controllers have read (false) or written (true) at a time: spec/ counts them and states no traffic
(R387). [DESIGN CHOICE, log entry 2] -/
opaque dramBytes : Bool → Nat → Nat

/-- Cycles of its class (Table 19.6) that an engine's counter has counted: counter, the engine's cycle count when it began,
and that count now; what an engine does in each cycle is timing.
[DESIGN CHOICE, log entry 56] -/
opaque classCycles : Nat → Nat → Nat → Nat

/-- The n-th free value: a choice that spec/ leaves to chance or does not state (log entry 2).
 [DESIGN CHOICE, log entry 2] -/
opaque free : Nat → Nat

/-- Where on the drives the root image of the CHECKPOINT with a SEQ was written: Table 5.7 names a location and no rule gives
one. [DESIGN CHOICE, log entry 104] -/
opaque rootImageAt : Nat → W64

/-- Bytes of a 4 KiB block of the protected region as a flush writes it, by the number of the choice and the block: R152 and R131 give
what the region holds and no place for every part of it. [DEDUCED, log entry 73] -/
opaque regionBlock : Nat → Nat → List Byte

/-- Bytes of an Identify or log page that spec/ neither fills nor sets to 0: page code and length (log entry 2).
 [DESIGN CHOICE, log entry 2] -/
opaque freePage : Nat → Nat → List Byte

end Sys2Proof.Config
end

