-- ==== Sys2Proof/Machine/Bits.lean ====
section
/-!
DEFINITION. Bit-field, byte-order and list helpers that the meanings use.
-/

namespace Sys2Proof.Machine

/-- Bits [hi:lo] of a word as a number (R2). -/
def bits (w : W32) (hi lo : Nat) : Nat := (w.toNat / 2 ^ lo) % 2 ^ (hi + 1 - lo)

/-- Bit `i` of a word. -/
def bit (w : W32) (i : Nat) : Bool := w.toNat / 2 ^ i % 2 == 1

/-- The number `n` placed at bit `lo` (width bits kept). -/
def place (n : Nat) (lo width : Nat) : Nat := (n % 2 ^ width) * 2 ^ lo

/-- A word from a number. -/
def w32 (n : Nat) : W32 := BitVec.ofNat 32 n

/-- A flag as a number. -/
def b2n (b : Bool) : Nat := if b then 1 else 0

/-- A two's complement number of `w` bits. -/
def sInt (w n : Nat) : Int := if n % 2 ^ w ≥ 2 ^ (w - 1) then (n % 2 ^ w : Nat) - (2 ^ w : Nat) else (n % 2 ^ w : Nat)

/-- `k` bytes of a number, least significant first (R3, host-memory structures). -/
def leBytes : Nat → Nat → List Byte
  | 0, _ => []
  | k + 1, n => BitVec.ofNat 8 n :: leBytes k (n / 256)

/-- `k` bytes of a number, most significant first (R3, frames). -/
def beBytes (k n : Nat) : List Byte := (leBytes k n).reverse

/-- The number that bytes spell, least significant first. -/
def leNat : List Byte → Nat
  | [] => 0
  | b :: t => b.toNat + 256 * leNat t

/-- The number that bytes spell, most significant first. -/
def beNat (l : List Byte) : Nat := leNat l.reverse

/-- Bytes [i, i + k) of a structure, a missing byte read as 0. -/
def slice (l : List Byte) (i k : Nat) : List Byte :=
  let t := (l.drop i).take k
  t ++ List.replicate (k - t.length) 0#8

/-- Little-endian field of `k` bytes at offset `i`. -/
def le (l : List Byte) (i k : Nat) : Nat := leNat (slice l i k)

/-- Big-endian field of `k` bytes at offset `i`. -/
def be (l : List Byte) (i k : Nat) : Nat := beNat (slice l i k)

/-- Cut or pad with zero bytes to `k` bytes. -/
def fitBytes (k : Nat) (l : List Byte) : List Byte := slice l 0 k

/-- ASCII codes of a text. -/
def asciiBytes (t : String) : List Byte := t.toList.map fun c => BitVec.ofNat 8 c.toNat

/-- Division rounding up. -/
def ceilDiv (a b : Nat) : Nat := (a + b - 1) / b

/-- Insert into an ascending list without repeats. -/
def insertAsc (n : Nat) : List Nat → List Nat
  | [] => [n]
  | m :: t => if n < m then n :: m :: t else if n == m then m :: t else m :: insertAsc n t

/-- Element `i` of a list, or a default. -/
def nth {α : Type} (l : List α) (i : Nat) (d : α) : α := (l[i]?).getD d

/-- Replace element `i` of a list. -/
def setNth {α : Type} (l : List α) (i : Nat) (v : α) : List α := l.set i v

/-- The numbers from `a`, `k` of them. -/
def rangeFrom (a k : Nat) : List Nat := (List.range k).map (· + a)

/-- The list without its repeats of an element. -/
def without (l : List Nat) (n : Nat) : List Nat := l.filter (· != n)

/-- Saturating addition. -/
def satAdd (a b top : Nat) : Nat := min top (a + b)

end Sys2Proof.Machine
end

