-- ==== Sys2Proof/Machine/RegTable.lean ====
section
/-!
DEFINITION. The register table: for every register of spec/ the masks of its fields by access code and class
(Tables 0.3 and R5), its reset value, and the address map of Table 18.1 with its instance windows (R369, R370).
-/

namespace Sys2Proof.Machine

/-- One register: canonical offset in its block or window, reset value, and the bits of its class S, class C and class L
fields (all RW), of its RO, RW1C and WO fields. Bits in no mask are reserved (R4). -/
structure RegDef where
  off : Nat
  reset : W32
  s : W32
  c : W32
  l : W32
  ro : W32
  w1c : W32
  wo : W32
  deriving DecidableEq, Repr

/-- CHIP (18, R384). -/
def tabChip : List RegDef := [
  ⟨0x0000, 0x19624A3F#32, 0x0#32, 0x0#32, 0x0#32, 0xFFFFFFFF#32, 0x0#32, 0x0#32⟩ /- CHIP_ID -/,
  ⟨0x0004, 0x100#32, 0x0#32, 0x0#32, 0x0#32, 0xFFFF#32, 0x0#32, 0x0#32⟩ /- CHIP_REV -/,
  ⟨0x0008, 0x0#32, 0x0#32, 0x0#32, 0x0#32, 0xFFFFFFFF#32, 0x0#32, 0x0#32⟩ /- CHIP_SERIAL_LO -/,
  ⟨0x000C, 0x0#32, 0x0#32, 0x0#32, 0x0#32, 0xFFFFFFFF#32, 0x0#32, 0x0#32⟩ /- CHIP_SERIAL_HI -/,
  ⟨0x0010, 0x0#32, 0x0#32, 0x0#32, 0xFFFFFFFF#32, 0x0#32, 0x0#32, 0x0#32⟩ /- CHIP_PCI_VID -/,
  ⟨0x0014, 0x0#32, 0x0#32, 0x0#32, 0x7#32, 0x0#32, 0x0#32, 0x0#32⟩ /- CHIP_ACCESS -/,
  ⟨0x0018, 0x0#32, 0x0#32, 0x0#32, 0x0#32, 0x7FFFFFF#32, 0x0#32, 0x0#32⟩ /- CHIP_PEND -/,
  ⟨0x001C, 0x0#32, 0x0#32, 0x0#32, 0x0#32, 0xFFFFFFFF#32, 0x0#32, 0x0#32⟩ /- CHIP_VIOL_ADDR -/,
  ⟨0x0020, 0x0#32, 0x0#32, 0x0#32, 0x0#32, 0xF000FFFF#32, 0x0#32, 0x0#32⟩ /- CHIP_VIOL_INFO -/,
  ⟨0x0024, 0x0#32, 0x0#32, 0x0#32, 0xFFFFFFFF#32, 0x0#32, 0x0#32, 0x0#32⟩ /- CHIP_SCRATCH -/,
  ⟨0x0FFC, 0x0#32, 0x0#32, 0x0#32, 0x0#32, 0x0#32, 0x0#32, 0x0#32⟩ /- CHIP_COMMIT -/]

/-- SEED (16, R361). -/
def tabSeed : List RegDef := [
  ⟨0x0000, 0x0#32, 0x0#32, 0x0#32, 0x0#32, 0xDF00FFFF#32, 0x0#32, 0x0#32⟩ /- SEED_STATUS -/,
  ⟨0x0004, 0x0#32, 0x0#32, 0x0#32, 0x0#32, 0x3F#32, 0x0#32, 0x0#32⟩ /- SEED_STRAPS -/,
  ⟨0x0008, 0xA#32, 0x0#32, 0x0#32, 0xFF#32, 0x0#32, 0x0#32, 0x0#32⟩ /- SEED_CFG -/,
  ⟨0x000C, 0x0#32, 0x0#32, 0x0#32, 0x0#32, 0xFFFFFFFF#32, 0x0#32, 0x0#32⟩ /- SEED_IMAGE -/,
  ⟨0x0010, 0x0#32, 0x0#32, 0x0#32, 0x0#32, 0x0#32, 0x0#32, 0x1#32⟩ /- SEED_OP -/,
  ⟨0x0020, 0x0#32, 0x0#32, 0x0#32, 0x3FFF000#32, 0x0#32, 0x0#32, 0x0#32⟩ /- SEED_REC_ADDR -/,
  ⟨0x0024, 0x0#32, 0x0#32, 0x0#32, 0x100#32, 0xB0000000#32, 0x0#32, 0x7#32⟩ /- SEED_REC_OP -/,
  ⟨0x1000, 0x0#32, 0x0#32, 0x0#32, 0xFFFFFFFF#32, 0x0#32, 0x0#32, 0x0#32⟩ /- SEED_REC_DATA -/]

/-- SAP (15, R342). -/
def tabSap : List RegDef := [
  ⟨0x0000, 0x1#32, 0x0#32, 0x0#32, 0x1#32, 0x0#32, 0x0#32, 0x0#32⟩ /- SAP_CTRL -/,
  ⟨0x0004, 0x1322#32, 0x0#32, 0x1333#32, 0x0#32, 0x0#32, 0x0#32, 0x0#32⟩ /- SAP_POLICY -/,
  ⟨0x0008, 0x50A0A#32, 0x0#32, 0xFFFFFF#32, 0x0#32, 0x0#32, 0x0#32, 0x0#32⟩ /- SAP_IDLE -/,
  ⟨0x000C, 0x44628#32, 0x0#32, 0xFFF7F#32, 0x0#32, 0x0#32, 0x0#32, 0x0#32⟩ /- SAP_DROOP -/,
  ⟨0x0010, 0xA7D0573#32, 0x0#32, 0xFFFF0FFF#32, 0x0#32, 0x0#32, 0x0#32, 0x0#32⟩ /- SAP_THERM -/,
  ⟨0x0014, 0x101F4#32, 0x0#32, 0x0#32, 0x1FFFF#32, 0x0#32, 0x0#32, 0x0#32⟩ /- SAP_PF -/,
  ⟨0x0020, 0x0#32, 0x0#32, 0x0#32, 0x31F#32, 0x0#32, 0x0#32, 0x0#32⟩ /- SAP_RES_SEL -/,
  ⟨0x0024, 0x0#32, 0x0#32, 0x0#32, 0x80000003#32, 0x0#32, 0x0#32, 0x0#32⟩ /- SAP_RES_CFG -/,
  ⟨0x0028, 0x0#32, 0x0#32, 0x0#32, 0x0#32, 0xF87FFFFF#32, 0x0#32, 0x0#32⟩ /- SAP_RES_STAT -/,
  ⟨0x0030, 0x0#32, 0x0#32, 0x0#32, 0x0#32, 0x3F3F0FFF#32, 0x0#32, 0x0#32⟩ /- SAP_STATUS -/,
  ⟨0x0034, 0x0#32, 0x0#32, 0x0#32, 0x7#32, 0x0#32, 0x0#32, 0x0#32⟩ /- SAP_TEMP_SEL -/,
  ⟨0x0038, 0x0#32, 0x0#32, 0x0#32, 0x0#32, 0xFF00FF#32, 0x0#32, 0x0#32⟩ /- SAP_TEMP -/,
  ⟨0x0FFC, 0x0#32, 0x0#32, 0x0#32, 0x0#32, 0x0#32, 0x0#32, 0x3#32⟩ /- SAP_COMMIT -/]

/-- EVT (19, R403). -/
def tabEvt : List RegDef := [
  ⟨0x0000, 0x1#32, 0x0#32, 0x0#32, 0x1#32, 0x0#32, 0x0#32, 0x0#32⟩ /- EVT_CTRL -/,
  ⟨0x0010, 0x0#32, 0x0#32, 0x0#32, 0x0#32, 0xFFFFFFFF#32, 0x0#32, 0x0#32⟩ /- EVT_SUMMARY_LO -/,
  ⟨0x0014, 0x0#32, 0x0#32, 0x0#32, 0x0#32, 0xFFFFFFFF#32, 0x0#32, 0x0#32⟩ /- EVT_SUMMARY_HI -/,
  ⟨0x0018, 0x0#32, 0x0#32, 0x0#32, 0x0#32, 0xF0F#32, 0x0#32, 0x0#32⟩ /- EVT_ALERT -/,
  ⟨0x001C, 0x64#32, 0x0#32, 0x0#32, 0xFFFF#32, 0x0#32, 0x0#32, 0x0#32⟩ /- EVT_HOSTGAP -/,
  ⟨0x0020, 0x0#32, 0x0#32, 0x0#32, 0xFFF#32, 0x0#32, 0x0#32, 0x0#32⟩ /- EVT_SRC_SEL -/,
  ⟨0x0024, 0x0#32, 0x0#32, 0x0#32, 0x0#32, 0xFF000000#32, 0x0#32, 0x0#32⟩ /- EVT_SRC_INFO -/,
  ⟨0x0028, 0x0#32, 0x0#32, 0x0#32, 0x0#32, 0xFFFFFFFF#32, 0x0#32, 0x0#32⟩ /- EVT_SRC_DETAIL -/,
  ⟨0x002C, 0x0#32, 0x0#32, 0x0#32, 0x0#32, 0xFFFFFFFF#32, 0x0#32, 0x0#32⟩ /- EVT_SRC_TIME_LO -/,
  ⟨0x0030, 0x0#32, 0x0#32, 0x0#32, 0x0#32, 0xFFFFFFFF#32, 0x0#32, 0x0#32⟩ /- EVT_SRC_TIME_HI -/,
  ⟨0x1000, 0x0#32, 0x0#32, 0x0#32, 0x0#32, 0x0#32, 0xFFFFFFFF#32, 0x0#32⟩ /- EVT_PEND_LO -/,
  ⟨0x1004, 0x0#32, 0x0#32, 0x0#32, 0x0#32, 0x0#32, 0xFFFFFFFF#32, 0x0#32⟩ /- EVT_PEND_HI -/,
  ⟨0x1008, 0xFFFFFFFF#32, 0x0#32, 0x0#32, 0xFFFFFFFF#32, 0x0#32, 0x0#32, 0x0#32⟩ /- EVT_EN_LO -/,
  ⟨0x100C, 0xFFFFFFFF#32, 0x0#32, 0x0#32, 0xFFFFFFFF#32, 0x0#32, 0x0#32, 0x0#32⟩ /- EVT_EN_HI -/,
  ⟨0x2000, 0x101#32, 0x0#32, 0x0#32, 0x1F1#32, 0x0#32, 0x0#32, 0x0#32⟩ /- EVT_ROUTE -/]

/-- TALLY (19, R403). -/
def tabTally : List RegDef := [
  ⟨0x0000, 0x0#32, 0x0#32, 0x0#32, 0x3#32, 0x0#32, 0x0#32, 0x0#32⟩ /- TALLY_CTRL -/,
  ⟨0x0004, 0x3E8#32, 0x0#32, 0x0#32, 0xFFFFF#32, 0x0#32, 0x0#32, 0x0#32⟩ /- TALLY_SWEEP -/,
  ⟨0x0008, 0x40#32, 0x7FF#32, 0x0#32, 0x80000000#32, 0x0#32, 0x0#32, 0x0#32⟩ /- TALLY_RING -/,
  ⟨0x000C, 0x10#32, 0x7FF#32, 0x0#32, 0x0#32, 0x0#32, 0x0#32, 0x0#32⟩ /- TALLY_TRACE_RING -/,
  ⟨0x0010, 0x0#32, 0x0#32, 0x0#32, 0x0#32, 0xFFFFFF#32, 0x0#32, 0x0#32⟩ /- TALLY_RING_HEAD -/,
  ⟨0x0014, 0x0#32, 0x0#32, 0x0#32, 0xFFFFFF#32, 0x0#32, 0x0#32, 0x0#32⟩ /- TALLY_RING_TAIL -/,
  ⟨0x0018, 0x0#32, 0x0#32, 0x0#32, 0x0#32, 0xFFFFFF#32, 0x0#32, 0x0#32⟩ /- TALLY_TRACE_HEAD -/,
  ⟨0x001C, 0x0#32, 0x0#32, 0x0#32, 0xFFFFFF#32, 0x0#32, 0x0#32, 0x0#32⟩ /- TALLY_TRACE_TAIL -/,
  ⟨0x0020, 0x0#32, 0x0#32, 0x0#32, 0xBFFFFFFF#32, 0x0#32, 0x0#32, 0x0#32⟩ /- TALLY_RD_SEL -/,
  ⟨0x0024, 0x0#32, 0x0#32, 0x0#32, 0x0#32, 0xFFFFFFFF#32, 0x0#32, 0x0#32⟩ /- TALLY_RD_DATA -/,
  ⟨0x0028, 0x0#32, 0x0#32, 0x0#32, 0x0#32, 0xFFFFFFFF#32, 0x0#32, 0x0#32⟩ /- TALLY_STAT -/,
  ⟨0x0030, 0x0#32, 0x0#32, 0x0#32, 0xF7F#32, 0x0#32, 0x0#32, 0x0#32⟩ /- TALLY_BANK_SEL -/,
  ⟨0x0034, 0x0#32, 0x0#32, 0x0#32, 0x0#32, 0xFFFFFFFF#32, 0x0#32, 0x0#32⟩ /- TALLY_BANK_LO -/,
  ⟨0x0038, 0x0#32, 0x0#32, 0x0#32, 0x0#32, 0xFFFF#32, 0x0#32, 0x0#32⟩ /- TALLY_BANK_HI -/,
  ⟨0x0040, 0xC000000#32, 0x0#32, 0x9F070000#32, 0x0#32, 0x0#32, 0x0#32, 0x0#32⟩ /- TALLY_SAMPLE -/,
  ⟨0x0044, 0x0#32, 0x0#32, 0xFFFFFFFF#32, 0x0#32, 0x0#32, 0x0#32, 0x0#32⟩ /- TALLY_SAMPLE_SEED -/,
  ⟨0x0100, 0x0#32, 0x0#32, 0x373#32, 0x0#32, 0x0#32, 0x0#32, 0x0#32⟩ /- TALLY_FLT_CTRL -/,
  ⟨0x0104, 0x0#32, 0x0#32, 0xFFFFFFFF#32, 0x0#32, 0x0#32, 0x0#32, 0x0#32⟩ /- TALLY_FLT_ID -/,
  ⟨0x0108, 0x0#32, 0x0#32, 0xFFFFFFFF#32, 0x0#32, 0x0#32, 0x0#32, 0x0#32⟩ /- TALLY_FLT_NSID -/,
  ⟨0x010C, 0x0#32, 0x0#32, 0xFFFFFFFF#32, 0x0#32, 0x0#32, 0x0#32, 0x0#32⟩ /- TALLY_FLT_LBA_LO_L -/,
  ⟨0x0110, 0x0#32, 0x0#32, 0xFFFF#32, 0x0#32, 0x0#32, 0x0#32, 0x0#32⟩ /- TALLY_FLT_LBA_LO_H -/,
  ⟨0x0114, 0x0#32, 0x0#32, 0xFFFFFFFF#32, 0x0#32, 0x0#32, 0x0#32, 0x0#32⟩ /- TALLY_FLT_LBA_HI_L -/,
  ⟨0x0118, 0x0#32, 0x0#32, 0xFFFF#32, 0x0#32, 0x0#32, 0x0#32, 0x0#32⟩ /- TALLY_FLT_LBA_HI_H -/,
  ⟨0x0200, 0x0#32, 0x0#32, 0x0#32, 0x3F#32, 0x0#32, 0x0#32, 0x0#32⟩ /- TALLY_ENG_SEL -/,
  ⟨0x0204, 0x0#32, 0x0#32, 0x0#32, 0x0#32, 0xFFFFFFFF#32, 0x0#32, 0x0#32⟩ /- TALLY_ENG_CYC_LO -/,
  ⟨0x0208, 0x0#32, 0x0#32, 0x0#32, 0x0#32, 0xFFFFFFFF#32, 0x0#32, 0x0#32⟩ /- TALLY_ENG_CYC_HI -/,
  ⟨0x0210, 0x0#32, 0x0#32, 0x0#32, 0xE30000FF#32, 0x0#32, 0x400000#32, 0x800000#32⟩ /- TALLY_ENG_CFGn -/,
  ⟨0x0214, 0x0#32, 0x0#32, 0x0#32, 0x0#32, 0xFFFFFFFF#32, 0x0#32, 0x0#32⟩ /- TALLY_ENG_CNTn_LO -/,
  ⟨0x0218, 0x0#32, 0x0#32, 0x0#32, 0x0#32, 0xFFFF#32, 0x0#32, 0x0#32⟩ /- TALLY_ENG_CNTn_HI -/,
  ⟨0x0FFC, 0x0#32, 0x0#32, 0x0#32, 0x0#32, 0x0#32, 0x0#32, 0x3#32⟩ /- TALLY_COMMIT -/]

/-- PITH (13, R306). -/
def tabPith : List RegDef := [
  ⟨0x0000, 0x0#32, 0x0#32, 0x0#32, 0x0#32, 0xFFFFF3F1#32, 0x0#32, 0x0#32⟩ /- PITH_STATUS -/,
  ⟨0x0004, 0xAC80064#32, 0x8000#32, 0x0#32, 0xFFFF7FFF#32, 0x0#32, 0x0#32, 0x0#32⟩ /- PITH_CFG -/,
  ⟨0x0008, 0x0#32, 0x0#32, 0x0#32, 0x0#32, 0x0#32, 0x0#32, 0x1#32⟩ /- PITH_WDOG -/,
  ⟨0x000C, 0x0#32, 0x0#32, 0x0#32, 0x0#32, 0x0#32, 0x0#32, 0x7#32⟩ /- PITH_OP -/,
  ⟨0x0010, 0x0#32, 0x0#32, 0x0#32, 0x0#32, 0xFFFFFF#32, 0x0#32, 0x0#32⟩ /- PITH_CKPT_AGE -/]

/-- CAMBIUM (05, R140). -/
def tabCambium : List RegDef := [
  ⟨0x0000, 0x0#32, 0x1#32, 0x0#32, 0x0#32, 0x0#32, 0x0#32, 0x0#32⟩ /- CAMBIUM_CTRL -/,
  ⟨0x0004, 0x80#32, 0x7FF#32, 0x0#32, 0x0#32, 0x0#32, 0x0#32, 0x0#32⟩ /- CAMBIUM_RING -/,
  ⟨0x0008, 0x324B#32, 0x0#32, 0xFFFF#32, 0x0#32, 0x0#32, 0x0#32, 0x0#32⟩ /- CAMBIUM_WATER -/,
  ⟨0x0010, 0x0#32, 0x0#32, 0x0#32, 0x0#32, 0xFFFFFFFF#32, 0x0#32, 0x0#32⟩ /- CAMBIUM_HEAD_LO -/,
  ⟨0x0014, 0x0#32, 0x0#32, 0x0#32, 0x0#32, 0xFFFF#32, 0x0#32, 0x0#32⟩ /- CAMBIUM_HEAD_HI -/,
  ⟨0x0018, 0x0#32, 0x0#32, 0x0#32, 0x0#32, 0xFFFFFFFF#32, 0x0#32, 0x0#32⟩ /- CAMBIUM_TAIL_LO -/,
  ⟨0x001C, 0x0#32, 0x0#32, 0x0#32, 0x0#32, 0xFFFF#32, 0x0#32, 0x0#32⟩ /- CAMBIUM_TAIL_HI -/,
  ⟨0x0020, 0x0#32, 0x0#32, 0x0#32, 0x0#32, 0x7F#32, 0x0#32, 0x0#32⟩ /- CAMBIUM_OCC -/,
  ⟨0x0FFC, 0x0#32, 0x0#32, 0x0#32, 0x0#32, 0x0#32, 0x0#32, 0x1#32⟩ /- CAMBIUM_COMMIT -/]

/-- HEARTWOOD (05, R139). -/
def tabHeartwood : List RegDef := [
  ⟨0x0000, 0x0#32, 0x1#32, 0x0#32, 0x0#32, 0x0#32, 0x0#32, 0x0#32⟩ /- HEARTWOOD_CTRL -/,
  ⟨0x0004, 0x40#32, 0x7FF#32, 0x0#32, 0x0#32, 0x0#32, 0x0#32, 0x0#32⟩ /- HEARTWOOD_PCACHE -/,
  ⟨0x0008, 0x1019#32, 0x0#32, 0xFFFF#32, 0x0#32, 0x0#32, 0x0#32, 0x0#32⟩ /- HEARTWOOD_WB -/,
  ⟨0x0010, 0x0#32, 0x0#32, 0x0#32, 0x0#32, 0xFFFFF#32, 0x0#32, 0x0#32⟩ /- HEARTWOOD_TC_OCC -/,
  ⟨0x0014, 0x0#32, 0x0#32, 0x0#32, 0x0#32, 0x1FFFFFFF#32, 0x0#32, 0x0#32⟩ /- HEARTWOOD_PC_DIRTY -/,
  ⟨0x0018, 0x0#32, 0x0#32, 0x0#32, 0x0#32, 0x1FFFFFFF#32, 0x0#32, 0x0#32⟩ /- HEARTWOOD_PC_PINNED -/,
  ⟨0x0FFC, 0x0#32, 0x0#32, 0x0#32, 0x0#32, 0x0#32, 0x0#32, 0x1#32⟩ /- HEARTWOOD_COMMIT -/]

/-- KNOT (04, R112). -/
def tabKnot : List RegDef := [
  ⟨0x0000, 0x0#32, 0x0#32, 0x0#32, 0x1#32, 0x0#32, 0x0#32, 0x0#32⟩ /- KNOT_CTRL -/,
  ⟨0x0004, 0x4000#32, 0x0#32, 0x1FFFF#32, 0x0#32, 0x0#32, 0x0#32, 0x0#32⟩ /- KNOT_LIMITS -/,
  ⟨0x0008, 0x11#32, 0x1F#32, 0x0#32, 0x0#32, 0x0#32, 0x0#32, 0x0#32⟩ /- KNOT_WIDE -/,
  ⟨0x0010, 0x0#32, 0x0#32, 0x0#32, 0x0#32, 0xFF81FFFF#32, 0x0#32, 0x0#32⟩ /- KNOT_OCC -/,
  ⟨0x0014, 0x0#32, 0x0#32, 0x0#32, 0x0#32, 0x3FFFF#32, 0x0#32, 0x0#32⟩ /- KNOT_GRAN_OCC -/,
  ⟨0x0100, 0x0#32, 0x0#32, 0x0#32, 0x3FFF#32, 0x0#32, 0x0#32, 0x0#32⟩ /- KNOT_AFF_SEL -/,
  ⟨0x0104, 0x0#32, 0x0#32, 0x0#32, 0x3F#32, 0x0#32, 0x0#32, 0x0#32⟩ /- KNOT_AFF_DATA -/,
  ⟨0x0FFC, 0x0#32, 0x0#32, 0x0#32, 0x0#32, 0x0#32, 0x0#32, 0x1#32⟩ /- KNOT_COMMIT -/]

/-- BUD (03, R89). -/
def tabBud : List RegDef := [
  ⟨0x0000, 0x0#32, 0x0#32, 0x0#32, 0x1#32, 0x0#32, 0x0#32, 0x0#32⟩ /- BUD_CTRL -/,
  ⟨0x0004, 0x180#32, 0x0#32, 0x1FF#32, 0x0#32, 0x0#32, 0x0#32, 0x0#32⟩ /- BUD_FETCH -/,
  ⟨0x0008, 0x20#32, 0x0#32, 0x3F#32, 0x0#32, 0x0#32, 0x0#32, 0x0#32⟩ /- BUD_POLL -/,
  ⟨0x000C, 0x2#32, 0x0#32, 0x0#32, 0x7FFFFF#32, 0x0#32, 0x0#32, 0x0#32⟩ /- BUD_LAT_DEFAULT -/,
  ⟨0x0100, 0x0#32, 0x0#32, 0x0#32, 0xFFF#32, 0x0#32, 0x0#32, 0x0#32⟩ /- BUD_SESS_SEL -/,
  ⟨0x0104, 0x0#32, 0x0#32, 0x0#32, 0xFFFFFFFF#32, 0x0#32, 0x0#32, 0x0#32⟩ /- BUD_SESS_EP -/,
  ⟨0x0108, 0x0#32, 0x0#32, 0x0#32, 0xFFFFFFFF#32, 0x0#32, 0x0#32, 0x0#32⟩ /- BUD_SESS_PORTS -/,
  ⟨0x010C, 0x0#32, 0x0#32, 0x0#32, 0x81FF3FFF#32, 0x0#32, 0x0#32, 0x0#32⟩ /- BUD_SESS_QP -/,
  ⟨0x0110, 0x0#32, 0x0#32, 0x0#32, 0xFFFFFFFF#32, 0x0#32, 0x0#32, 0x0#32⟩ /- BUD_SESS_QCB_HANDLE -/,
  ⟨0x0114, 0x0#32, 0x0#32, 0x0#32, 0xFFFF#32, 0xFFFF0000#32, 0x0#32, 0x0#32⟩ /- BUD_SESS_QCB_GEN -/,
  ⟨0x0118, 0x0#32, 0x0#32, 0x0#32, 0xFFFFFFFF#32, 0x0#32, 0x0#32, 0x0#32⟩ /- BUD_SESS_QCB_OFF_LO -/,
  ⟨0x011C, 0x0#32, 0x0#32, 0x0#32, 0xFFFF#32, 0x0#32, 0x0#32, 0x0#32⟩ /- BUD_SESS_QCB_OFF_HI -/,
  ⟨0x0120, 0x0#32, 0x0#32, 0x0#32, 0x0#32, 0x0#32, 0x0#32, 0x7#32⟩ /- BUD_SESS_OP -/,
  ⟨0x0124, 0x0#32, 0x0#32, 0x0#32, 0x0#32, 0x8000FF03#32, 0x0#32, 0x0#32⟩ /- BUD_SESS_STATE -/,
  ⟨0x0200, 0x0#32, 0x0#32, 0x0#32, 0x3FFF#32, 0x0#32, 0x0#32, 0x0#32⟩ /- BUD_QP_SEL -/,
  ⟨0x0204, 0x0#32, 0x0#32, 0x0#32, 0x0#32, 0xFFFFFF03#32, 0x0#32, 0x0#32⟩ /- BUD_QP_STAT -/,
  ⟨0x0208, 0x0#32, 0x0#32, 0x0#32, 0x0#32, 0xFFFFFFFF#32, 0x0#32, 0x0#32⟩ /- BUD_QP_HEAD -/,
  ⟨0x0300, 0x0#32, 0x0#32, 0x0#32, 0x0#32, 0x7FF1FFF#32, 0x0#32, 0x0#32⟩ /- BUD_COUNTS -/,
  ⟨0x0FFC, 0x0#32, 0x0#32, 0x0#32, 0x0#32, 0x0#32, 0x0#32, 0x1#32⟩ /- BUD_COMMIT -/]

/-- TWIG (04, R113). -/
def tabTwig : List RegDef := [
  ⟨0x0000, 0x6#32, 0x1#32, 0x0#32, 0x6#32, 0x0#32, 0x0#32, 0x0#32⟩ /- TWIG_CTRL -/,
  ⟨0x0004, 0xA100208#32, 0x0#32, 0xFFFFFFFF#32, 0x0#32, 0x0#32, 0x0#32, 0x0#32⟩ /- TWIG_STEAL -/,
  ⟨0x0008, 0x0#32, 0x0#32, 0x0#32, 0x0#32, 0xC7FF07FF#32, 0x0#32, 0x0#32⟩ /- TWIG_STATUS -/,
  ⟨0x0FFC, 0x0#32, 0x0#32, 0x0#32, 0x0#32, 0x0#32, 0x0#32, 0x1#32⟩ /- TWIG_COMMIT -/]

/-- GROVE (06, R177, R203). -/
def tabGrove : List RegDef := [
  ⟨0x0000, 0x0#32, 0x1#32, 0x0#32, 0x0#32, 0x0#32, 0x0#32, 0x0#32⟩ /- GROVE_CTRL -/,
  ⟨0x0004, 0x80200100#32, 0x0#32, 0x80FF01FF#32, 0x0#32, 0x0#32, 0x0#32, 0x0#32⟩ /- GROVE_LAG -/,
  ⟨0x0008, 0x32#32, 0x0#32, 0xFFFF#32, 0x0#32, 0x0#32, 0x0#32, 0x0#32⟩ /- GROVE_ASSY -/,
  ⟨0x000C, 0x80003C14#32, 0x0#32, 0x0#32, 0x8000FFFF#32, 0x0#32, 0x0#32, 0x0#32⟩ /- GROVE_REBUILD -/,
  ⟨0x0010, 0x400028#32, 0x0#32, 0x0#32, 0xFF0FFF#32, 0x0#32, 0x0#32, 0x0#32⟩ /- GROVE_FAIL -/,
  ⟨0x0FFC, 0x0#32, 0x0#32, 0x0#32, 0x0#32, 0x0#32, 0x0#32, 0x3#32⟩ /- GROVE_COMMIT -/,
  ⟨0x1000, 0x0#32, 0x0#32, 0x0#32, 0x0#32, 0xC103001F#32, 0x0#32, 0x0#32⟩ /- GROVE_GEOM -/,
  ⟨0x1004, 0x0#32, 0x0#32, 0x0#32, 0x0#32, 0x1FF#32, 0x0#32, 0x0#32⟩ /- GROVE_LAG_OCC -/,
  ⟨0x1008, 0x0#32, 0x0#32, 0x0#32, 0x0#32, 0xFFFFFFF#32, 0x0#32, 0x0#32⟩ /- GROVE_FREE_SEGS -/,
  ⟨0x100C, 0x0#32, 0x0#32, 0x0#32, 0x0#32, 0xFFFFFFF#32, 0x0#32, 0x0#32⟩ /- GROVE_SEGS -/,
  ⟨0x1010, 0x0#32, 0x0#32, 0x0#32, 0x0#32, 0xFFFFFFFF#32, 0x0#32, 0x0#32⟩ /- GROVE_USABLE -/,
  ⟨0x1014, 0x0#32, 0x0#32, 0x0#32, 0x0#32, 0x1F001F#32, 0x0#32, 0x0#32⟩ /- GROVE_INTENT -/,
  ⟨0x1020, 0x0#32, 0x0#32, 0x0#32, 0x0#32, 0xDF1F1F00#32, 0x0#32, 0x0#32⟩ /- GROVE_RB_A -/,
  ⟨0x1024, 0x0#32, 0x0#32, 0x0#32, 0x0#32, 0xFFFFFFFF#32, 0x0#32, 0x0#32⟩ /- GROVE_RB_A_CUR_LO -/,
  ⟨0x1028, 0x0#32, 0x0#32, 0x0#32, 0x0#32, 0xFFFF#32, 0x0#32, 0x0#32⟩ /- GROVE_RB_A_CUR_HI -/,
  ⟨0x1030, 0x0#32, 0x0#32, 0x0#32, 0x0#32, 0xFFFFFF00#32, 0x0#32, 0x0#32⟩ /- GROVE_RB_B -/,
  ⟨0x1034, 0x0#32, 0x0#32, 0x0#32, 0x0#32, 0xFFFFFFFF#32, 0x0#32, 0x0#32⟩ /- GROVE_RB_B_CUR_LO -/,
  ⟨0x1038, 0x0#32, 0x0#32, 0x0#32, 0x0#32, 0xFFFF#32, 0x0#32, 0x0#32⟩ /- GROVE_RB_B_CUR_HI -/,
  ⟨0x1040, 0x0#32, 0x0#32, 0x0#32, 0x0#32, 0xCF000000#32, 0x0#32, 0x0#32⟩ /- GROVE_RESYNC -/,
  ⟨0x1044, 0x0#32, 0x0#32, 0x0#32, 0x0#32, 0xFFFFFFFF#32, 0x0#32, 0x0#32⟩ /- GROVE_RESYNC_CUR_LO -/,
  ⟨0x1048, 0x0#32, 0x0#32, 0x0#32, 0x0#32, 0xFFFF#32, 0x0#32, 0x0#32⟩ /- GROVE_RESYNC_CUR_HI -/,
  ⟨0x1050, 0x0#32, 0x0#32, 0x0#32, 0x0#32, 0xFFFFFFFF#32, 0x0#32, 0x0#32⟩ /- GROVE_LOST -/,
  ⟨0x1054, 0x0#32, 0x0#32, 0x0#32, 0x0#32, 0xFFFFFFF#32, 0x0#32, 0x0#32⟩ /- GROVE_SUSPECT -/]

/-- PRUNER (06, R179). -/
def tabPruner : List RegDef := [
  ⟨0x0000, 0x0#32, 0x0#32, 0x0#32, 0x1#32, 0x0#32, 0x0#32, 0x0#32⟩ /- PRUNER_CTRL -/,
  ⟨0x0004, 0xA50030A#32, 0x0#32, 0xFFFFFFFF#32, 0x0#32, 0x0#32, 0x0#32, 0x0#32⟩ /- PRUNER_THRESH -/,
  ⟨0x0008, 0x7#32, 0x3F#32, 0x0#32, 0x0#32, 0x0#32, 0x0#32, 0x0#32⟩ /- PRUNER_RESERVE -/,
  ⟨0x0010, 0x0#32, 0x0#32, 0x0#32, 0x3#32, 0x0#32, 0x0#32, 0x0#32⟩ /- PRUNER_SEL -/,
  ⟨0x0014, 0x0#32, 0x0#32, 0x0#32, 0x0#32, 0xCFFFFFFF#32, 0x0#32, 0x0#32⟩ /- PRUNER_STAT -/,
  ⟨0x0FFC, 0x0#32, 0x0#32, 0x0#32, 0x0#32, 0x0#32, 0x0#32, 0x1#32⟩ /- PRUNER_COMMIT -/]

/-- SAPWOOD (06, R178). -/
def tabSapwood : List RegDef := [
  ⟨0x0000, 0x0#32, 0x1#32, 0x0#32, 0x0#32, 0x0#32, 0x0#32, 0x0#32⟩ /- SAPWOOD_CTRL -/,
  ⟨0x0004, 0x4#32, 0x7F#32, 0x0#32, 0x0#32, 0x0#32, 0x0#32, 0x0#32⟩ /- SAPWOOD_REGION -/,
  ⟨0x0008, 0x100#32, 0x0#32, 0xFFF#32, 0x0#32, 0x0#32, 0x0#32, 0x0#32⟩ /- SAPWOOD_WATER -/,
  ⟨0x0010, 0x0#32, 0x0#32, 0x0#32, 0x0#32, 0x1FFFFFF#32, 0x0#32, 0x0#32⟩ /- SAPWOOD_FREE -/,
  ⟨0x0014, 0x0#32, 0x0#32, 0x0#32, 0x0#32, 0x7FFFF#32, 0x0#32, 0x0#32⟩ /- SAPWOOD_HDR_FREE -/,
  ⟨0x0018, 0x0#32, 0x0#32, 0x0#32, 0x0#32, 0x1F#32, 0x0#32, 0x0#32⟩ /- SAPWOOD_VAULT -/,
  ⟨0x001C, 0x0#32, 0x0#32, 0x0#32, 0x0#32, 0xFFFFFF#32, 0x0#32, 0x0#32⟩ /- SAPWOOD_HOLDUP -/,
  ⟨0x0020, 0x0#32, 0x0#32, 0x0#32, 0x0#32, 0xC0FFFFFF#32, 0x0#32, 0x0#32⟩ /- SAPWOOD_LAST_FLUSH -/,
  ⟨0x0FFC, 0x0#32, 0x0#32, 0x0#32, 0x0#32, 0x0#32, 0x0#32, 0x1#32⟩ /- SAPWOOD_COMMIT -/]

/-- COPPICE (08, R215). -/
def tabCoppice : List RegDef := [
  ⟨0x0000, 0x0#32, 0x0#32, 0x0#32, 0x1#32, 0x0#32, 0x0#32, 0x0#32⟩ /- COPPICE_CTRL -/,
  ⟨0x0004, 0x6401040#32, 0x0#32, 0xFFFFF1FF#32, 0x0#32, 0x0#32, 0x0#32, 0x0#32⟩ /- COPPICE_LIMITS -/,
  ⟨0x0010, 0x0#32, 0x0#32, 0x0#32, 0x0#32, 0x7FFF#32, 0x0#32, 0x0#32⟩ /- COPPICE_OCC -/,
  ⟨0x0014, 0x0#32, 0x0#32, 0x0#32, 0x0#32, 0x1FFFF#32, 0x0#32, 0x0#32⟩ /- COPPICE_RCPT_OCC -/,
  ⟨0x0FFC, 0x0#32, 0x0#32, 0x0#32, 0x0#32, 0x0#32, 0x0#32, 0x1#32⟩ /- COPPICE_COMMIT -/]

/-- ROOTLET (14, R326). -/
def tabRootlet : List RegDef := [
  ⟨0x0000, 0x0#32, 0x3#32, 0x0#32, 0x4#32, 0x0#32, 0x0#32, 0x0#32⟩ /- ROOTLET_CTRL -/,
  ⟨0x0004, 0x6#32, 0x7#32, 0x0#32, 0x0#32, 0x0#32, 0x0#32, 0x0#32⟩ /- ROOTLET_LINK -/,
  ⟨0x0008, 0x0#32, 0x0#32, 0x0#32, 0x0#32, 0xF0070703#32, 0x0#32, 0x0#32⟩ /- ROOTLET_STAT -/,
  ⟨0x000C, 0x640064#32, 0x0#32, 0x0#32, 0xFFFFFFFF#32, 0x0#32, 0x0#32, 0x0#32⟩ /- ROOTLET_HP -/,
  ⟨0x0010, 0x8#32, 0x1F#32, 0x0#32, 0x0#32, 0x0#32, 0x0#32, 0x0#32⟩ /- ROOTLET_Q -/,
  ⟨0x0014, 0x1F407D0#32, 0x0#32, 0xFFFFFFFF#32, 0x0#32, 0x0#32, 0x0#32, 0x0#32⟩ /- ROOTLET_TMO -/,
  ⟨0x0018, 0x30020#32, 0x0#32, 0xFF00FF#32, 0x0#32, 0x0#32, 0x0#32, 0x0#32⟩ /- ROOTLET_ARB -/,
  ⟨0x001C, 0x0#32, 0x0#32, 0x0#32, 0x1#32, 0x30F00#32, 0x0#32, 0x0#32⟩ /- ROOTLET_PWR -/,
  ⟨0x0020, 0x0#32, 0x0#32, 0x0#32, 0x0#32, 0x1FFF1FFF#32, 0x0#32, 0x0#32⟩ /- ROOTLET_INFLIGHT -/,
  ⟨0x0024, 0x0#32, 0x0#32, 0x0#32, 0x0#32, 0xFF#32, 0x0#32, 0x0#32⟩ /- ROOTLET_RESETS -/,
  ⟨0x0FFC, 0x0#32, 0x0#32, 0x0#32, 0x0#32, 0x0#32, 0x0#32, 0x1#32⟩ /- ROOTLET_COMMIT -/]

/-- XYLEM (02, R54). -/
def tabXylem : List RegDef := [
  ⟨0x0000, 0x0#32, 0x0#32, 0x0#32, 0x1#32, 0x0#32, 0x0#32, 0x0#32⟩ /- XYLEM_CTRL -/,
  ⟨0x0004, 0xE1A0#32, 0x1FFFF#32, 0x0#32, 0x0#32, 0x0#32, 0x0#32, 0x0#32⟩ /- XYLEM_UDP -/,
  ⟨0x0008, 0x1F40#32, 0x1FFFF#32, 0x0#32, 0x0#32, 0x0#32, 0x0#32, 0x0#32⟩ /- XYLEM_MPL -/,
  ⟨0x000C, 0x7D00032#32, 0x0#32, 0xFFFFFFFF#32, 0x0#32, 0x0#32, 0x0#32, 0x0#32⟩ /- XYLEM_RTO -/,
  ⟨0x0010, 0x74008#32, 0x0#32, 0xFFFFF#32, 0x0#32, 0x0#32, 0x0#32, 0x0#32⟩ /- XYLEM_ACK -/,
  ⟨0x0014, 0x20#32, 0x7F#32, 0x0#32, 0x0#32, 0x0#32, 0x0#32, 0x0#32⟩ /- XYLEM_RETAIN -/,
  ⟨0x0018, 0x0#32, 0xFFFFFFFF#32, 0x0#32, 0x0#32, 0x0#32, 0x0#32, 0x0#32⟩ /- XYLEM_STATION_EP -/,
  ⟨0x001C, 0xA0032#32, 0x0#32, 0x1FFF1FFF#32, 0x0#32, 0x0#32, 0x0#32, 0x0#32⟩ /- XYLEM_RATE_LIMITS -/,
  ⟨0x0020, 0x32744E20#32, 0x0#32, 0xFFFFFFFF#32, 0x0#32, 0x0#32, 0x0#32, 0x0#32⟩ /- XYLEM_RATE_TIMING -/,
  ⟨0x0024, 0x0#32, 0xFFFFFFFF#32, 0x0#32, 0x0#32, 0x0#32, 0x0#32, 0x0#32⟩ /- XYLEM_RATE_HASH_SEED -/,
  ⟨0x0028, 0x140#32, 0x1FF#32, 0x0#32, 0x0#32, 0x0#32, 0x0#32, 0x0#32⟩ /- XYLEM_IP_CFG -/,
  ⟨0x0040, 0x0#32, 0x0#32, 0x0#32, 0xFFF#32, 0x0#32, 0x0#32, 0x0#32⟩ /- XYLEM_RATE_SEL -/,
  ⟨0x0044, 0x0#32, 0x0#32, 0x0#32, 0x0#32, 0x1FFF07FF#32, 0x0#32, 0x0#32⟩ /- XYLEM_RATE_STAT -/,
  ⟨0x0050, 0x0#32, 0x0#32, 0x0#32, 0x0#32, 0x7FFFF#32, 0x0#32, 0x0#32⟩ /- XYLEM_OUTSTANDING -/,
  ⟨0x0FFC, 0x0#32, 0x0#32, 0x0#32, 0x0#32, 0x0#32, 0x0#32, 0x3#32⟩ /- XYLEM_COMMIT -/]

/-- BARK (11, R271). -/
def tabBark : List RegDef := [
  ⟨0x0000, 0x0#32, 0x1#32, 0x0#32, 0x0#32, 0x0#32, 0x0#32, 0x0#32⟩ /- BARK_CTRL -/,
  ⟨0x0004, 0x0#32, 0x0#32, 0x0#32, 0x3FFFFF#32, 0x0#32, 0x0#32, 0x0#32⟩ /- BARK_PORT_MODE -/,
  ⟨0x0008, 0x30#32, 0x0#32, 0x0#32, 0x3F#32, 0x0#32, 0x0#32, 0x0#32⟩ /- BARK_LIMIT -/,
  ⟨0x0010, 0x0#32, 0x0#32, 0x0#32, 0x1FFF#32, 0x0#32, 0x0#32, 0x0#32⟩ /- BARK_KEY_SEL -/,
  ⟨0x0014, 0x0#32, 0x0#32, 0x0#32, 0x0#32, 0xE03F0000#32, 0x0#32, 0x0#32⟩ /- BARK_KEY_STAT -/,
  ⟨0x0018, 0x0#32, 0x0#32, 0x0#32, 0x0#32, 0xFFFFFFFF#32, 0x0#32, 0x0#32⟩ /- BARK_KEY_CNT_LO -/,
  ⟨0x001C, 0x0#32, 0x0#32, 0x0#32, 0x0#32, 0x7FFFFFFF#32, 0x0#32, 0x0#32⟩ /- BARK_KEY_CNT_HI -/,
  ⟨0x0020, 0x0#32, 0x0#32, 0x0#32, 0xF#32, 0x0#32, 0x0#32, 0x0#32⟩ /- BARK_HOLD_SEL -/,
  ⟨0x0024, 0x0#32, 0x0#32, 0x0#32, 0x0#32, 0x7FF#32, 0x0#32, 0x0#32⟩ /- BARK_HOLD_OCC -/,
  ⟨0x0FFC, 0x0#32, 0x0#32, 0x0#32, 0x0#32, 0x0#32, 0x0#32, 0x0#32⟩ /- BARK_COMMIT -/]

/-- CANOPY (12, R283). -/
def tabCanopy : List RegDef := [
  ⟨0x0000, 0x0#32, 0x1#32, 0x0#32, 0x0#32, 0x0#32, 0x0#32, 0x0#32⟩ /- CANOPY_CTRL -/,
  ⟨0x0004, 0x14#32, 0x3F#32, 0x0#32, 0x0#32, 0x0#32, 0x0#32, 0x0#32⟩ /- CANOPY_OVERHEAD -/,
  ⟨0x0008, 0x7D00000A#32, 0x0#32, 0x0#32, 0xFFFFFFFF#32, 0x0#32, 0x0#32, 0x0#32⟩ /- CANOPY_BOUND_RATE -/,
  ⟨0x000C, 0x40000010#32, 0x0#32, 0x0#32, 0xFFFFFFFF#32, 0x0#32, 0x0#32, 0x0#32⟩ /- CANOPY_BOUND_BURST -/,
  ⟨0x0020, 0x0#32, 0x0#32, 0x0#32, 0x80003FFF#32, 0x0#32, 0x0#32, 0x0#32⟩ /- CANOPY_SHP_SEL -/,
  ⟨0x0024, 0x0#32, 0x0#32, 0x0#32, 0xFFFFFFFF#32, 0x0#32, 0x0#32, 0x0#32⟩ /- CANOPY_SHP_CFG -/,
  ⟨0x0028, 0x0#32, 0x0#32, 0x0#32, 0x0#32, 0x0#32, 0x0#32, 0x3#32⟩ /- CANOPY_SHP_OP -/,
  ⟨0x002C, 0x0#32, 0x0#32, 0x0#32, 0x0#32, 0xFFFFFFFF#32, 0x0#32, 0x0#32⟩ /- CANOPY_SHP_TOKENS -/,
  ⟨0x0040, 0x0#32, 0x0#32, 0xFFFFFFFF#32, 0x0#32, 0x0#32, 0x0#32, 0x0#32⟩ /- CANOPY_POL_HOSTIO -/,
  ⟨0x0044, 0x0#32, 0x0#32, 0xFFFFFFFF#32, 0x0#32, 0x0#32, 0x0#32, 0x0#32⟩ /- CANOPY_POL_ADMIN -/,
  ⟨0x0048, 0x0#32, 0x0#32, 0xFFFFFFFF#32, 0x0#32, 0x0#32, 0x0#32, 0x0#32⟩ /- CANOPY_POL_RING -/,
  ⟨0x0100, 0x0#32, 0x0#32, 0x0#32, 0x3F#32, 0x0#32, 0x0#32, 0x0#32⟩ /- CANOPY_SCH_SEL -/,
  ⟨0x0104, 0x1010101#32, 0x0#32, 0xFFFFFFFF#32, 0x0#32, 0x0#32, 0x0#32, 0x0#32⟩ /- CANOPY_SCH_WEIGHT_LO -/,
  ⟨0x0108, 0x1010101#32, 0x0#32, 0xFFFFFFFF#32, 0x0#32, 0x0#32, 0x0#32, 0x0#32⟩ /- CANOPY_SCH_WEIGHT_HI -/,
  ⟨0x010C, 0x80#32, 0x0#32, 0xFF#32, 0x0#32, 0x0#32, 0x0#32, 0x0#32⟩ /- CANOPY_SCH_STRICT -/,
  ⟨0x0FFC, 0x0#32, 0x0#32, 0x0#32, 0x0#32, 0x0#32, 0x0#32, 0x3#32⟩ /- CANOPY_COMMIT -/]

/-- CROWN (09, R235). -/
def tabCrown : List RegDef := [
  ⟨0x0000, 0x0#32, 0x1#32, 0x0#32, 0x0#32, 0x0#32, 0x0#32, 0x0#32⟩ /- CROWN_CTRL -/,
  ⟨0x0004, 0x2040010#32, 0x1F000000#32, 0x701FF#32, 0x0#32, 0x0#32, 0x0#32, 0x0#32⟩ /- CROWN_BUF -/,
  ⟨0x0008, 0x6401F4#32, 0x3FF0FFF#32, 0x0#32, 0x0#32, 0x0#32, 0x0#32, 0x0#32⟩ /- CROWN_AGE -/,
  ⟨0x000C, 0x40#32, 0x80000000#32, 0x0#32, 0xFFFF#32, 0x0#32, 0x0#32, 0x0#32⟩ /- CROWN_RING -/,
  ⟨0x0010, 0x20000#32, 0x3FFFF#32, 0x0#32, 0x0#32, 0x0#32, 0x0#32, 0x0#32⟩ /- CROWN_MC -/,
  ⟨0x0014, 0x1012C#32, 0x0#32, 0x0#32, 0x1FFFF#32, 0x0#32, 0x0#32, 0x0#32⟩ /- CROWN_FWD_CFG -/,
  ⟨0x0100, 0x14190064#32, 0x0#32, 0xFFFFFFFF#32, 0x0#32, 0x0#32, 0x0#32, 0x0#32⟩ /- CROWN_ECN_TC -/,
  ⟨0x0200, 0x0#32, 0x0#32, 0x0#32, 0xFFFFFFFF#32, 0x0#32, 0x0#32, 0x0#32⟩ /- CROWN_FWD_KEY -/,
  ⟨0x0204, 0x0#32, 0x0#32, 0x0#32, 0xFFFFFFFF#32, 0x0#32, 0x0#32, 0x0#32⟩ /- CROWN_FWD_DATA -/,
  ⟨0x0208, 0x0#32, 0x0#32, 0x0#32, 0x0#32, 0x0#32, 0x0#32, 0x7#32⟩ /- CROWN_FWD_OP -/,
  ⟨0x020C, 0x0#32, 0x0#32, 0x0#32, 0x0#32, 0x3#32, 0x0#32, 0x0#32⟩ /- CROWN_FWD_STAT -/,
  ⟨0x0210, 0x0#32, 0x0#32, 0x0#32, 0x0#32, 0x1FFFF#32, 0x0#32, 0x0#32⟩ /- CROWN_FWD_OCC -/,
  ⟨0x0300, 0x0#32, 0x0#32, 0x0#32, 0xFFF#32, 0x0#32, 0x0#32, 0x0#32⟩ /- CROWN_PATH_SEL -/,
  ⟨0x0304, 0x0#32, 0x0#32, 0x0#32, 0xFFFFFFFF#32, 0x0#32, 0x0#32, 0x0#32⟩ /- CROWN_PATH_MAC_LO -/,
  ⟨0x0308, 0x0#32, 0x0#32, 0x0#32, 0x3FFFFFFF#32, 0x0#32, 0x0#32, 0x0#32⟩ /- CROWN_PATH_MAC_HI -/,
  ⟨0x030C, 0x0#32, 0x0#32, 0x0#32, 0xFFFFFFFF#32, 0x0#32, 0x0#32, 0x0#32⟩ /- CROWN_PATH_IP0 -/,
  ⟨0x0310, 0x0#32, 0x0#32, 0x0#32, 0xFFFFFFFF#32, 0x0#32, 0x0#32, 0x0#32⟩ /- CROWN_PATH_IP0+1 -/,
  ⟨0x0314, 0x0#32, 0x0#32, 0x0#32, 0xFFFFFFFF#32, 0x0#32, 0x0#32, 0x0#32⟩ /- CROWN_PATH_IP0+2 -/,
  ⟨0x0318, 0x0#32, 0x0#32, 0x0#32, 0xFFFFFFFF#32, 0x0#32, 0x0#32, 0x0#32⟩ /- CROWN_PATH_IP0+3 -/,
  ⟨0x031C, 0x0#32, 0x0#32, 0x0#32, 0x0#32, 0x0#32, 0x0#32, 0x1#32⟩ /- CROWN_PATH_OP -/,
  ⟨0x0400, 0x0#32, 0x0#32, 0x0#32, 0x0#32, 0x1FFFF#32, 0x0#32, 0x0#32⟩ /- CROWN_BUF_FREE -/,
  ⟨0x0404, 0x0#32, 0x0#32, 0x0#32, 0x0#32, 0x3FFFF#32, 0x0#32, 0x0#32⟩ /- CROWN_RESIDUE_OCC -/,
  ⟨0x0410, 0x0#32, 0x0#32, 0x0#32, 0x1FF#32, 0x0#32, 0x0#32, 0x0#32⟩ /- CROWN_Q_SEL -/,
  ⟨0x0414, 0x0#32, 0x0#32, 0x0#32, 0x0#32, 0x1FFFF#32, 0x0#32, 0x0#32⟩ /- CROWN_Q_OCC -/,
  ⟨0x0418, 0x0#32, 0x0#32, 0x0#32, 0x0#32, 0xFFFFFFFF#32, 0x0#32, 0x0#32⟩ /- CROWN_Q_AGED -/,
  ⟨0x0FFC, 0x0#32, 0x0#32, 0x0#32, 0x0#32, 0x0#32, 0x0#32, 0x3#32⟩ /- CROWN_COMMIT -/]

/-- FMAC (10, R257). -/
def tabFmac : List RegDef := [
  ⟨0x0000, 0x0#32, 0x1#32, 0x0#32, 0x0#32, 0x0#32, 0x0#32, 0x0#32⟩ /- FMAC_CTRL -/,
  ⟨0x0004, 0x0#32, 0x13#32, 0x0#32, 0x0#32, 0x0#32, 0x0#32, 0x0#32⟩ /- FMAC_MODE -/,
  ⟨0x0008, 0x0#32, 0x0#32, 0x0#32, 0x0#32, 0xF#32, 0x0#32, 0x0#32⟩ /- FMAC_LINK -/,
  ⟨0x0FFC, 0x0#32, 0x0#32, 0x0#32, 0x0#32, 0x0#32, 0x0#32, 0xF#32⟩ /- FMAC_COMMIT -/,
  ⟨0x1000, 0xFAC688#32, 0x0#32, 0x0#32, 0xC7FFFFFF#32, 0x0#32, 0x0#32, 0x0#32⟩ /- FMAC_SUB_CFG -/,
  ⟨0x1004, 0x0#32, 0xFFFFFFFF#32, 0x0#32, 0x0#32, 0x0#32, 0x0#32, 0x0#32⟩ /- FMAC_MAC_LO -/,
  ⟨0x1008, 0x0#32, 0xFFFF#32, 0x0#32, 0x0#32, 0x0#32, 0x0#32, 0x0#32⟩ /- FMAC_MAC_HI -/,
  ⟨0x100C, 0x0#32, 0xFFFFFFFF#32, 0x0#32, 0x0#32, 0x0#32, 0x0#32, 0x0#32⟩ /- FMAC_IPV4 -/,
  ⟨0x1010, 0x0#32, 0xFFFFFFFF#32, 0x0#32, 0x0#32, 0x0#32, 0x0#32, 0x0#32⟩ /- FMAC_IPV6_0 -/,
  ⟨0x1014, 0x0#32, 0xFFFFFFFF#32, 0x0#32, 0x0#32, 0x0#32, 0x0#32, 0x0#32⟩ /- FMAC_IPV6_0+1 -/,
  ⟨0x1018, 0x0#32, 0xFFFFFFFF#32, 0x0#32, 0x0#32, 0x0#32, 0x0#32, 0x0#32⟩ /- FMAC_IPV6_0+2 -/,
  ⟨0x101C, 0x0#32, 0xFFFFFFFF#32, 0x0#32, 0x0#32, 0x0#32, 0x0#32, 0x0#32⟩ /- FMAC_IPV6_0+3 -/,
  ⟨0x1020, 0x0#32, 0x0#32, 0x0#32, 0x0#32, 0xFFFFFFFF#32, 0x0#32, 0x0#32⟩ /- FMAC_IND -/,
  ⟨0x1024, 0x0#32, 0x0#32, 0x0#32, 0xFFFFFFFF#32, 0x0#32, 0x0#32, 0x0#32⟩ /- FMAC_TS_CORR -/,
  ⟨0x1030, 0x0#32, 0x0#32, 0x3FFFFFFF#32, 0x0#32, 0x0#32, 0x0#32, 0x0#32⟩ /- FMAC_GATE_CYCLE -/,
  ⟨0x1034, 0x0#32, 0x0#32, 0x3FFFFFFF#32, 0x0#32, 0x0#32, 0x0#32, 0x0#32⟩ /- FMAC_GATE_BASE_NS -/,
  ⟨0x1038, 0x0#32, 0x0#32, 0xFFFFFFFF#32, 0x0#32, 0x0#32, 0x0#32, 0x0#32⟩ /- FMAC_GATE_BASE_SEC -/,
  ⟨0x103C, 0x0#32, 0x0#32, 0x1FF#32, 0x0#32, 0x1FF0000#32, 0x0#32, 0x0#32⟩ /- FMAC_GATE_LEN -/,
  ⟨0x1040, 0x0#32, 0x0#32, 0x0#32, 0x1FF#32, 0x0#32, 0x0#32, 0x0#32⟩ /- FMAC_GATE_SEL -/,
  ⟨0x1044, 0x0#32, 0x0#32, 0xFFFFFFFF#32, 0x0#32, 0x0#32, 0x0#32, 0x0#32⟩ /- FMAC_GATE_DATA -/]

/-- RING (13, R307). -/
def tabRing : List RegDef := [
  ⟨0x200000, 0x0#32, 0xFFFF0003#32, 0x0#32, 0x0#32, 0x100#32, 0x0#32, 0x0#32⟩ /- RING_CFG -/,
  ⟨0x200004, 0x7030064#32, 0x0#32, 0x0#32, 0x7FFFFFF#32, 0x0#32, 0x0#32, 0x0#32⟩ /- RING_HB -/,
  ⟨0x200008, 0x0#32, 0x0#32, 0x0#32, 0xFFFF#32, 0x0#32, 0x0#32, 0x0#32⟩ /- RING_HB_STATE -/,
  ⟨0x20000C, 0xA00#32, 0x0#32, 0x0#32, 0xFF03#32, 0x30000#32, 0x0#32, 0x0#32⟩ /- RING_BYP -/,
  ⟨0x200010, 0x0#32, 0x0#32, 0x0#32, 0x0#32, 0x80FFFFFF#32, 0x0#32, 0x0#32⟩ /- RING_NBR_E -/,
  ⟨0x200014, 0x0#32, 0x0#32, 0x0#32, 0x0#32, 0xFFFFFFFF#32, 0x0#32, 0x0#32⟩ /- RING_NBR_W -/]

/-- MMAC (10, R257, R258). -/
def tabMmac : List RegDef := [
  ⟨0x0000, 0x2#32, 0xD#32, 0x0#32, 0x1F0302#32, 0x0#32, 0x0#32, 0x0#32⟩ /- MMAC_CTRL -/,
  ⟨0x0004, 0x0#32, 0x0#32, 0x0#32, 0x7#32, 0x0#32, 0x0#32, 0x0#32⟩ /- MMAC_MODE -/,
  ⟨0x0008, 0x0#32, 0x0#32, 0x0#32, 0x41FFFFF#32, 0x80000000#32, 0x0#32, 0x40000000#32⟩ /- MMAC_MDIO -/,
  ⟨0x0100, 0xFAC688#32, 0x0#32, 0x0#32, 0x7FFFFFF#32, 0x0#32, 0x0#32, 0x0#32⟩ /- MMAC_TC_CFG -/,
  ⟨0x0104, 0x0#32, 0xFFFFFFFF#32, 0x0#32, 0x0#32, 0x0#32, 0x0#32, 0x0#32⟩ /- MMAC_MAC_LO -/,
  ⟨0x0108, 0x0#32, 0xFFFF#32, 0x0#32, 0x0#32, 0x0#32, 0x0#32, 0x0#32⟩ /- MMAC_MAC_HI -/,
  ⟨0x010C, 0x0#32, 0xFFFFFFFF#32, 0x0#32, 0x0#32, 0x0#32, 0x0#32, 0x0#32⟩ /- MMAC_IPV4 -/,
  ⟨0x0110, 0x0#32, 0xFFFFFFFF#32, 0x0#32, 0x0#32, 0x0#32, 0x0#32, 0x0#32⟩ /- MMAC_IPV6_0 -/,
  ⟨0x0114, 0x0#32, 0xFFFFFFFF#32, 0x0#32, 0x0#32, 0x0#32, 0x0#32, 0x0#32⟩ /- MMAC_IPV6_0+1 -/,
  ⟨0x0118, 0x0#32, 0xFFFFFFFF#32, 0x0#32, 0x0#32, 0x0#32, 0x0#32, 0x0#32⟩ /- MMAC_IPV6_0+2 -/,
  ⟨0x011C, 0x0#32, 0xFFFFFFFF#32, 0x0#32, 0x0#32, 0x0#32, 0x0#32, 0x0#32⟩ /- MMAC_IPV6_0+3 -/,
  ⟨0x0120, 0x0#32, 0x0#32, 0x0#32, 0x0#32, 0xFFFFFFFF#32, 0x0#32, 0x0#32⟩ /- MMAC_IND -/,
  ⟨0x0124, 0x0#32, 0x0#32, 0x0#32, 0xFFFFFFFF#32, 0x0#32, 0x0#32, 0x0#32⟩ /- MMAC_TS_CORR -/]

/-- TIME (10, R259). -/
def tabTime : List RegDef := [
  ⟨0x0000, 0x0#32, 0x1#32, 0x0#32, 0x2#32, 0x0#32, 0x0#32, 0x0#32⟩ /- TIME_CTRL -/,
  ⟨0x0004, 0x0#32, 0x0#32, 0x0#32, 0x0#32, 0x3FFFFFFF#32, 0x0#32, 0x0#32⟩ /- TIME_NS -/,
  ⟨0x0008, 0x0#32, 0x0#32, 0x0#32, 0x0#32, 0xFFFFFFFF#32, 0x0#32, 0x0#32⟩ /- TIME_SEC_LO -/,
  ⟨0x000C, 0x0#32, 0x0#32, 0x0#32, 0x0#32, 0xFFFF#32, 0x0#32, 0x0#32⟩ /- TIME_SEC_HI -/,
  ⟨0x0010, 0x0#32, 0x0#32, 0x0#32, 0xFFFFFFFF#32, 0x0#32, 0x0#32, 0x0#32⟩ /- TIME_ADDEND -/,
  ⟨0x0014, 0x0#32, 0x0#32, 0x0#32, 0x3FFFFFFF#32, 0x0#32, 0x0#32, 0x0#32⟩ /- TIME_SET_NS -/,
  ⟨0x0018, 0x0#32, 0x0#32, 0x0#32, 0xFFFFFFFF#32, 0x0#32, 0x0#32, 0x0#32⟩ /- TIME_SET_SEC_LO -/,
  ⟨0x001C, 0x0#32, 0x0#32, 0x0#32, 0xFFFF#32, 0x0#32, 0x0#32, 0x0#32⟩ /- TIME_SET_SEC_HI -/,
  ⟨0x0020, 0x0#32, 0x0#32, 0x0#32, 0x0#32, 0x0#32, 0x0#32, 0x3#32⟩ /- TIME_OP -/,
  ⟨0x0024, 0x0#32, 0x0#32, 0x0#32, 0xFFFFFFFF#32, 0x0#32, 0x0#32, 0x0#32⟩ /- TIME_STEP -/,
  ⟨0x0030, 0x0#32, 0x0#32, 0x0#32, 0x3FFFFFFF#32, 0x0#32, 0x0#32, 0x0#32⟩ /- TIME_PPS_OFFSET -/,
  ⟨0x0034, 0x0#32, 0x0#32, 0x0#32, 0xFFFF#32, 0x0#32, 0x0#32, 0x0#32⟩ /- TIME_PPS_WIDTH -/,
  ⟨0x0038, 0x0#32, 0x0#32, 0x0#32, 0x0#32, 0x3FFFFFFF#32, 0x0#32, 0x0#32⟩ /- TIME_PPS_CAP_NS -/,
  ⟨0x003C, 0x0#32, 0x0#32, 0x0#32, 0x0#32, 0xFFFFFFFF#32, 0x0#32, 0x0#32⟩ /- TIME_PPS_CAP_SEC -/,
  ⟨0x0040, 0x0#32, 0x0#32, 0x0#32, 0x0#32, 0xBF0FFFFF#32, 0x0#32, 0x0#32⟩ /- TIME_TXTS_INFO -/,
  ⟨0x0044, 0x0#32, 0x0#32, 0x0#32, 0x0#32, 0x3FFFFFFF#32, 0x0#32, 0x0#32⟩ /- TIME_TXTS_NS -/,
  ⟨0x0048, 0x0#32, 0x0#32, 0x0#32, 0x0#32, 0xFFFFFFFF#32, 0x0#32, 0x0#32⟩ /- TIME_TXTS_SEC -/,
  ⟨0x004C, 0x0#32, 0x0#32, 0x0#32, 0x0#32, 0x7F#32, 0x0#32, 0x0#32⟩ /- TIME_TXTS_OCC -/]

/-- DRAM (18, R387). -/
def tabDram : List RegDef := [
  ⟨0x0000, 0x0#32, 0x0#32, 0x0#32, 0x0#32, 0x1#32, 0x0#32, 0x0#32⟩ /- DRAM_CTRL -/,
  ⟨0x0004, 0x1015#32, 0x7133F#32, 0x0#32, 0x0#32, 0x0#32, 0x0#32, 0x0#32⟩ /- DRAM_POP -/,
  ⟨0x0008, 0x0#32, 0xFFFFFF#32, 0x0#32, 0x0#32, 0x0#32, 0x0#32, 0x0#32⟩ /- DRAM_TIMING0 -/,
  ⟨0x000C, 0x0#32, 0xFFFFFFFF#32, 0x0#32, 0x0#32, 0x0#32, 0x0#32, 0x0#32⟩ /- DRAM_TIMING1 -/,
  ⟨0x0010, 0x1801#32, 0x0#32, 0x0#32, 0xFF01#32, 0x0#32, 0x0#32, 0x0#32⟩ /- DRAM_ECC -/,
  ⟨0x0020, 0x0#32, 0x0#32, 0x0#32, 0x0#32, 0xFF00FFFF#32, 0x0#32, 0x0#32⟩ /- DRAM_STATUS -/,
  ⟨0x0024, 0x0#32, 0x0#32, 0x0#32, 0x0#32, 0x87070000#32, 0x0#32, 0x0#32⟩ /- DRAM_ERR_INFO -/,
  ⟨0x0028, 0x0#32, 0x0#32, 0x0#32, 0x0#32, 0xFFFFFFFF#32, 0x0#32, 0x0#32⟩ /- DRAM_ERR_ADDR_LO -/,
  ⟨0x002C, 0x0#32, 0x0#32, 0x0#32, 0x0#32, 0x1FF#32, 0x0#32, 0x0#32⟩ /- DRAM_ERR_ADDR_HI -/,
  ⟨0x0FFC, 0x0#32, 0x0#32, 0x0#32, 0x0#32, 0x0#32, 0x0#32, 0x0#32⟩ /- DRAM_COMMIT -/]

/-- DLINK (01, R13). -/
def tabDlink : List RegDef := [
  ⟨0x0000, 0x0#32, 0x0#32, 0x0#32, 0x0#32, 0xFFFFFF#32, 0x0#32, 0x0#32⟩ /- DLINK_LINK_STATUS -/]

/-- TEST (18, R389). -/
def tabTest : List RegDef := [
  ⟨0x0000, 0x19624A3F#32, 0x0#32, 0x0#32, 0x0#32, 0xFFFFFFFF#32, 0x0#32, 0x0#32⟩ /- TEST_IDCODE -/,
  ⟨0x0004, 0x0#32, 0x0#32, 0x0#32, 0x0#32, 0x3F3F0000#32, 0x0#32, 0x0#32⟩ /- TEST_BIST -/,
  ⟨0x0008, 0x2#32, 0x0#32, 0x0#32, 0x3#32, 0x0#32, 0x0#32, 0x0#32⟩ /- TEST_TAP -/,
  ⟨0x0FFC, 0x0#32, 0x0#32, 0x0#32, 0x0#32, 0x0#32, 0x0#32, 0x0#32⟩ /- TEST_COMMIT -/]

/-- The registers of a block, by block index (Table 18.1). -/
def tabOf : Nat → List RegDef
  | 0 => tabChip
  | 1 => tabSeed
  | 2 => tabSap
  | 3 => tabEvt
  | 4 => tabTally
  | 5 => tabPith
  | 6 => tabCambium
  | 7 => tabHeartwood
  | 8 => tabKnot
  | 9 => tabBud
  | 10 => tabTwig
  | 11 => tabGrove
  | 12 => tabPruner
  | 13 => tabSapwood
  | 14 => tabCoppice
  | 15 => tabRootlet
  | 16 => tabXylem
  | 17 => tabBark
  | 18 => tabCanopy
  | 19 => tabCrown
  | 20 => tabFmac
  | 21 => tabRing
  | 22 => tabMmac
  | 23 => tabTime
  | 24 => tabDram
  | 25 => tabDlink
  | 26 => tabTest
  | _ => []

/-- Block index of an address (R369). -/
def blockOf (a : Nat) : Nat := a / 0x1000000

/-- Is the address inside the map (R370)? -/
def inMap (a : Nat) : Bool := a < 0x1B000000

/-- Block index whose table describes the address, and the canonical offset in it: instance windows folded together
(Table 18.1, Tables 6.12, 9.6, 10.6, 16.9, 19.8, 19.9). none: no register there. -/
def canon (a : Nat) : Option (Nat × Nat) :=
  let o := a % 0x1000000
  match blockOf a with
  | 1 => some (1, if 0x1000 ≤ o && o < 0x2000 then 0x1000 else o)
  | 3 => some (3, if 0x1000 ≤ o && o < 0x1400 then 0x1000 + o % 16 else if 0x2000 ≤ o && o < 0x2100 then 0x2000 else o)
  | 4 => some (4, if 0x100 ≤ o && o < 0x180 then 0x100 + o % 0x20
      else if 0x210 ≤ o && o < 0x270 then 0x210 + o % 0x10 else o)
  | 10 => if o / 0x40000 < 64 then some (10, o % 0x40000) else none
  | 11 => some (11, if 0x1000 ≤ o && o < 0x1400 then 0x1000 + o % 0x100 else o)
  | 15 => if o / 0x80000 < 24 then some (15, o % 0x80000) else none
  | 19 => some (19, if 0x100 ≤ o && o < 0x120 then 0x100 else o)
  | 20 => let q := o % 0x200000
    if o / 0x200000 < 8 then some (20, if 0x1000 ≤ q && q < 0x5000 then 0x1000 + q % 0x1000 else q) else none
  | 21 => if o < 0x200000 then
      let q := o % 0x100000
      if q < 0x2000 then some (20, q) else none
    else some (21, o)
  | b => if b < 27 then some (b, o) else none

/-- The description of the register at an address, if there is one. BREAKOUT of EAST and WEST is reserved (R238). -/
def regAt (a : Nat) : Option RegDef :=
  match canon (a % 2 ^ 32) with
  | none => none
  | some (b, o) =>
    if b == 20 && o == 4 && blockOf (a % 2 ^ 32) == 21 then some ⟨0x0004, 0#32, 0x10#32, 0#32, 0#32, 0#32, 0#32, 0#32⟩
    else (tabOf b).find? fun r => r.off == o

/-- Reset value of the register at a (virtual) address: KNOT_AFF_DATA starts at its QPID mod 64 (Table 4.9). -/
def resetOf (a : Nat) : W32 :=
  if a % 2 ^ 32 == 0x08000104 then w32 ((a / 2 ^ 32 - 1) % 64)
  else match regAt a with
    | some r => r.reset
    | none => 0#32

/-- The address of the offset-0x0000 register that disables the block or instance window of an address (R379). -/
def enableAddr (a : Nat) : Option Nat :=
  let a := a % 2 ^ 32
  let o := a % 0x1000000
  let base := blockOf a * 0x1000000
  match blockOf a with
  | 0 => none
  | 5 => none
  | 10 => some (base + o / 0x40000 * 0x40000)
  | 15 => some (base + o / 0x80000 * 0x80000)
  | 20 => some (base + o / 0x200000 * 0x200000)
  | 21 => if o < 0x200000 then some (base + o / 0x100000 * 0x100000) else none
  | _ => some base

end Sys2Proof.Machine
end

