-- ==== Sys2Proof/Machine/StateHost.lean ====
section
/-!
DEFINITION. The host side of the state: Ahnath's sender and receiver (Xylem, spec/02), sessions, queue pairs and
commands (Bud, spec/03), and each session's Host Event Log (spec/19). Every field's default is its value at reset.
-/

namespace Sys2Proof.Machine

/-! ### Packets and frames on their way out -/

/-- Why a request packet exists: the command reference and payload location of a descriptor (R39). -/
inductive DescKind where
  /-- a data WRITE of a command: the command, the byte offset in its data, the shoot whose payload it shares, if any -/
  | dataWrite (tag : Nat) (off : Nat) (shoot : Option Nat)
  /-- a READ of a command's write data: byte offset in its data -/
  | dataRead (tag : Nat) (off : Nat)
  /-- a READ of a command's fragment table: index of the first fragment -/
  | fragRead (tag : Nat) (first : Nat)
  /-- a READ of a Dataset Management range list: byte offset in it -/
  | rangeRead (tag : Nat) (off : Nat)
  /-- a READ of the host data of an admin command: byte offset in it (R71) -/
  | bufRead (tag : Nat) (off : Nat)
  /-- the completion WRITE of a command, at a completion-queue slot -/
  | completion (qpid : Nat) (slot : Nat) (tag : Nat)
  /-- a NOTIFY of a queue pair -/
  | notify (qpid : Nat)
  /-- a READ of submission entries -/
  | entries (qpid : Nat)
  /-- a READ of a shadow record: a fetch's own (R67), or a poll's (R66) -/
  | shadow (qpid : Nat) (fetch : Bool)
  /-- a READ of a queue-control block -/
  | qcb (qpid : Nat)
  /-- a WRITE of a queue-control block's STATUS -/
  | status (qpid : Nat)
  /-- a WRITE of a session header; true where a session open waits for it -/
  | header (sid : Nat) (opening : Bool)
  /-- a READ whose fetch was given up: its answer goes nowhere -/
  | given (qpid : Nat)
  deriving DecidableEq, Repr

/-- Table 2.8. -/
inductive DescState where
  | paced
  | sent
  /-- failed under R42 but kept: sent again when the next DOORBELL arrives from the endpoint -/
  | kept
  deriving DecidableEq, Repr

/-- One request descriptor of Xylem (R39). -/
structure Desc where
  /-- what it is for -/
  kind : DescKind
  /-- session (KEY_INDEX bits [12:1]) -/
  sid : Nat
  /-- destination endpoint -/
  dst : W32
  /-- opcode: 1 WRITE, 2 READ, 7 NOTIFY -/
  op : BitVec 4
  /-- REGION -/
  region : W32
  /-- GEN -/
  gen : BitVec 16
  /-- OFFSET -/
  offset : BitVec 48
  /-- LENGTH -/
  length : Nat
  /-- payload of a WRITE or NOTIFY -/
  payload : List Byte := []
  /-- AR (R23) -/
  ar : Bool := false
  /-- LAST (R23) -/
  last : Bool := false
  /-- traffic class (R234) -/
  tc : Nat := 0
  /-- Table 2.8 -/
  st : DescState := .paced
  /-- retransmissions in the present count -/
  retries : Nat := 0
  /-- time of the last transmission -/
  sentAt : Nat := 0
  /-- the present interval to the next retransmission, µs -/
  interval : Nat := 0
  /-- time of the last retransmission, if the packet was ever retransmitted -/
  retxAt : Option Nat := none
  /-- a retransmission whose payload was dropped waits for its rebuild (R43) -/
  refetch : Bool := false
  /-- payload no longer in the retain pool (R43) -/
  dropped : Bool := false
  /-- force this egress port: an admin queue's READ (R58) -/
  viaPort : Option Nat := none
  deriving DecidableEq, Repr

/-- One acknowledgement being gathered (R45, R46). -/
structure AckGather where
  sid : Nat
  dst : W32
  slotBit : Bool
  ids : List W64
  ce : Nat
  /-- arrival of its oldest entry -/
  since : Nat
  deriving DecidableEq, Repr

/-- One slot of the rate table (R52, R53). -/
structure RateSlot where
  /-- units of 100 Mb/s -/
  rate : Nat
  /-- 0 to 1,024 -/
  alpha : Nat := 1024
  idle : Nat := 0
  /-- packets answered in the period -/
  acked : Nat := 0
  /-- CE echoes in the period -/
  marked : Nat := 0
  /-- a packet was sent in the period -/
  sent : Bool := false
  /-- the slot's port rate, units of 100 Mb/s -/
  portRate : Nat
  /-- release time, in ps (so that wire bytes × 8 / RATE stays whole to a picosecond) -/
  releaseAt : Nat := 0
  deriving DecidableEq, Repr

/-- A payload held in the retain pool (R43, R210). -/
structure Retained where
  /-- request ID, or shoot -/
  id : Nat
  isShoot : Bool
  bytes : Nat
  deriving DecidableEq, Repr

/-- A packet that Bark released: its sub-port, the class of that port and its traffic class when it arrived (R234, R246), its IP
header, and the packet (R31, R221). -/
structure InPkt where
  sub : Nat
  cls : Nat := 0
  tc : Nat := 0
  ip : Option Ip := none
  pkt : Pkt
  deriving DecidableEq, Repr

/-- Xylem (spec/02). [DESIGN CHOICE, log entry 93] -/
structure Xylem where
  /-- next REQ_ID (R40); reset 0 -/
  nextReq : Nat := 0
  /-- when ENABLE was set (R40) -/
  enabledAt : Nat := 0
  /-- the one-MPL wait after the enable is over (R40); reset false -/
  started : Bool := false
  /-- open descriptors by REQ_ID (R39); reset empty -/
  descs : NMap Desc := []
  /-- requests that wait for a descriptor of the request pool, oldest first (R39) -/
  backlog : List Desc := []
  /-- ACKs being gathered (R46) -/
  acks : NMap AckGather := []
  /-- number of the next gathered ACK -/
  nextAck : Nat := 0
  /-- slots of the rate table that differ from a fresh one (R51); reset empty -/
  rates : NMap RateSlot := []
  /-- retain pool, oldest first (R43) -/
  retain : List Retained := []
  /-- packets Bark released, per port, oldest first -/
  inbox : NMap (List InPkt) := []
  /-- packets of a session's slot discarded because R31 binds the session to another port or endpoint: a count that no register
      shows (R33) -/
  bindDrops : Nat := 0
  /-- last update of the rate table (R52) -/
  ratedAt : Nat := 0
  deriving DecidableEq, Repr

/-! ### Sessions and queue pairs -/

/-- STATE of a session (Tables 3.3 and 3.18). -/
inductive SessState where
  /-- an OPEN waits for the answer to its session-header WRITE (R59) -/
  | opening
  | opened
  | resetting
  /-- reset for a close: header STATE 0 is written, its answer still out (R79) -/
  | closing
  deriving DecidableEq, Repr

/-- A session record (Table 3.1) and what Bud keeps beside it. [DESIGN CHOICE, log entry 88] -/
structure Session where
  hostEp : W32
  /-- PORT0 to PORT3: bound port codes (Table 3.2) -/
  ports : List (Option Nat)
  qpBase : Nat
  qpCount : Nat
  priv : Bool
  qcbHandle : W32
  qcbGen : BitVec 16
  qcbOff : BitVec 48
  dbGen : BitVec 16 := 0#16
  /-- keep-alive timeout, ms (R84) -/
  kato : Nat := 0
  st : SessState := .opening
  /-- resets since open (Table 3.3) -/
  resets : Nat := 0
  /-- context credits held (R98) -/
  ctx : Nat := 0
  /-- start of the keep-alive timer -/
  kaSince : Nat := 0
  /-- the admin command that opens the session, none for the register window -/
  openTag : Option Nat := none
  /-- fetching stopped after a failed request (R42) -/
  fetchStopped : Bool := false
  /-- last retransmission of any of its requests (R78) -/
  retxAt : Option Nat := none
  /-- the reset that runs ends in a close: the admin command that asked, if any -/
  closing : Option (Option Nat) := none
  /-- Asynchronous Event Configuration (feature 0x0B) -/
  aec : W32 := 0x80000300#32
  /-- Latency Tolerance, if set (feature 0xC0) -/
  latency : Option Nat := none
  /-- Hard Flush (feature 0xC2) -/
  hardFlush : Bool := false
  /-- Changed Namespace List -/
  changedNs : List Nat := []
  /-- Error Information log, newest first: CID, QPID, SCT, SC -/
  errors : List (Nat × Nat × Nat × Nat) := []
  /-- errors recorded since open -/
  errTotal : Nat := 0
  /-- asynchronous-event pages named and not yet read with RAE 0 (R395) -/
  namedPages : List Nat := []
  deriving DecidableEq, Repr

/-- STATE of a queue pair (Table 3.4). -/
inductive QpState where
  | disabled
  /-- STATE 1 is written and has not landed yet (R63) -/
  | enabling
  | enabled
  | disabling
  | error
  deriving DecidableEq, Repr

/-- Why a fetch is scheduled (R67). -/
inductive Hint where
  /-- by a doorbell with this SQ_TAIL -/
  | doorbell (tail : Nat)
  /-- by a poll or the fetch before, with this shadow tail -/
  | shadow (tail : Nat)
  deriving DecidableEq, Repr

/-- A fetch under way (R67). -/
structure FetchJob where
  /-- entries reserved -/
  n : Nat
  /-- the entry READ has been issued -/
  issued : Bool := false
  /-- the entries, once their READ_RESP arrived -/
  data : Option (List Byte) := none
  /-- the port that READ_RESP arrived on, and its class then (R58, R246) -/
  port : Nat := 0
  cls : Nat := 0
  /-- Timebase time at which the entry READ was issued (R402) -/
  t0 : Nat := 0
  /-- a shadow READ is part of it and not yet answered -/
  waitShadow : Bool := false
  /-- the shadow tail -/
  tail : Option Nat := none
  /-- doorbell fetch with SPECULATE 0: the shadow READ comes first -/
  shadowFirst : Bool := false
  /-- what remained of the turn when the fetch began (R69) -/
  left : Nat := 0
  deriving DecidableEq, Repr

/-- A queue pair as Bud holds it. Fields up to `tc` come from its queue-control block (Table 3.4).
 [DESIGN CHOICE, log entry 88] -/
structure Qp where
  sid : Nat
  st : QpState := .disabled
  cause : Nat := 0
  sqSize : Nat := 0
  cqSize : Nat := 0
  poll : Nat := 0
  coalCount : Nat := 0
  coalTime : Nat := 0
  notifyEn : Bool := false
  weight : Nat := 1
  tc : Nat := 0
  sqHandle : W32 := 0#32
  sqGen : BitVec 16 := 0#16
  sqOff : BitVec 48 := 0#48
  cqHandle : W32 := 0#32
  cqGen : BitVec 16 := 0#16
  cqOff : BitVec 48 := 0#48
  shHandle : W32 := 0#32
  shGen : BitVec 16 := 0#16
  shOff : BitVec 48 := 0#48
  sqHead : Nat := 0
  cqHead : Nat := 0
  cqTail : Nat := 0
  /-- free completion credits (R68) -/
  credits : Nat := 0
  /-- P of the next completion (R74) -/
  phase : Bool := true
  sched : Option Hint := none
  job : Option FetchJob := none
  /-- the next fetch begins with a read of the shadow record (R63) -/
  firstFetch : Bool := true
  /-- request ID of the latest shadow READ whose SQ_TAIL was used (R66) -/
  seenReq : Option Nat := none
  /-- last poll -/
  polledAt : Nat := 0
  /-- a control doorbell is held until STATE 0 (R65) -/
  heldControl : Bool := false
  /-- completions posted since the last NOTIFY, and since when (R75) -/
  unnotified : Nat := 0
  unnotifiedSince : Nat := 0
  /-- a NOTIFY is due: COAL_COUNT or COAL_TIME reached (R75) -/
  notifyDue : Bool := false
  /-- a NOTIFY is outstanding or held back until this time (R50) -/
  notifyBusy : Bool := false
  notifyHold : Option Nat := none
  /-- slots whose completion WRITE was retransmitted: slot, time of the last retransmission, host's head passed it (R50) -/
  heldSlots : List (Nat × Nat × Bool) := []
  /-- last retransmission of a completion or NOTIFY of it (R76) -/
  retxAt : Option Nat := none
  /-- STATUS still to be written (CAUSE 0x08 of Table 3.5) -/
  statusOwed : Bool := false
  deriving DecidableEq, Repr

/-- Where one block of a namespace lives (Table 5.3). -/
inductive Loc where
  | unmapped
  | data (seg off : Nat)
  | zero
  | dealloc
  | lost
  | staged (entry off : Nat)
  deriving DecidableEq, Repr

/-- How far a command is (Table 4.5). [DEDUCED, log entry 47] -/
inductive Stage where
  /-- accepted; waits to enter the ledger (R97), or an admin command waiting to be served -/
  | accepted
  /-- S1: in the ledger, not ready -/
  | ledger
  /-- ready, to be placed by Knot (R99) -/
  | ready
  /-- S2: in an engine's deque -/
  | placed
  /-- S3 and S4: started -/
  | running
  /-- S5: past its release point -/
  | released
  /-- a Namespace Management or Attachment command whose record and CHECKPOINT are durable: the labels are written (R429) -/
  | recorded
  /-- S6: finished; its completion is held by the quiet rule or has been posted -/
  | finished
  deriving DecidableEq, Repr

/-- A status: SCT, SC, DW0 and DW1. -/
structure Status where
  sct : Nat
  sc : Nat
  dw0 : W32 := 0#32
  dw1 : W32 := 0#32
  deriving DecidableEq, Repr

/-- A fragment (R71). -/
structure Frag where
  handle : W32
  gen : BitVec 16
  offset : BitVec 48
  len : Nat
  deriving DecidableEq, Repr

/-- A command accepted by Bud. -/
structure Cmd where
  sid : Nat
  qpid : Nat
  cid : Nat
  opc : Nat
  admin : Bool
  nsid : Nat := 0
  /-- port its submission entry arrived on (R58) -/
  port : Nat := 0
  /-- SLBA and plain block count of a command with one range (R72) -/
  slba : Nat := 0
  nlb : Nat := 0
  /-- ranges in the ledger (Table 4.1): first LBA and block count -/
  ranges : List (Nat × Nat) := []
  dfmt : Nat := 0
  fragCount : Nat := 0
  dpHandle : W32 := 0#32
  dpGen : BitVec 16 := 0#16
  dpOff : BitVec 48 := 0#48
  /-- the fragments, once read (R71) -/
  frags : List Frag := []
  cdw10 : W32 := 0#32
  cdw11 : W32 := 0#32
  cdw12 : W32 := 0#32
  cdw13 : W32 := 0#32
  cdw14 : W32 := 0#32
  cdw15 : W32 := 0#32
  stage : Stage := .accepted
  /-- order of acceptance -/
  order : Nat := 0
  /-- FSEQ (R127); none before the ledger and for admin commands -/
  fseq : Option Nat := none
  /-- granule sets taken (R96) -/
  grans : List Nat := []
  /-- in the wide list (R96) -/
  wide : Bool := false
  /-- tags of earlier commands it still waits on (R92, R107) -/
  waits : List Nat := []
  /-- a fragment table, a range list or an admin command's data is still to be read -/
  needTable : Bool := false
  engine : Option Nat := none
  stolen : Bool := false
  /-- translated locations: LBA and location (R126) -/
  pins : List (Nat × Loc) := []
  /-- they pin nothing any more: the command has all its data (R126) -/
  unpinned : Bool := false
  /-- blocks of a read that are in hand: LBA offset and stored block -/
  got : List (Nat × List Byte) := []
  /-- drive reads still out for it -/
  reads : Nat := 0
  /-- host data pulled so far: byte offset and bytes -/
  pulled : List (Nat × List Byte) := []
  /-- staging entries reserved for it (R134), in ascending LBA -/
  entries : List Nat := []
  /-- all its host transfers have been handed to Xylem -/
  handed : Bool := false
  /-- first LBA found lost, ending the command (R138) -/
  lostAt : Option Nat := none
  /-- last retransmission of any of its request packets (R49) -/
  retxAt : Option Nat := none
  /-- status once finished -/
  status : Option Status := none
  posted : Bool := false
  /-- the completion is to be discarded (R110) -/
  discard : Bool := false
  /-- an Abort: the command whose completion is posted before its own (R109) -/
  after : Option Nat := none
  /-- a pull waits (R153, Table 6.8), and does so for staging -/
  stalled : Bool := false
  short : Bool := false
  /-- Cambium record the command's completion waits on -/
  journal : Option Nat := none
  /-- trace: time the READ carrying the entry was issued, stage times (R402); none where not tagged -/
  trace : Option (Nat × List (Nat × Nat)) := none
  deriving DecidableEq, Repr

/-- One entry of a Host Event Log (Table 19.3), and whether an asynchronous event has named it (R395). -/
structure HostEntry where
  time : Nat
  source : Nat
  count : Nat
  scope : Nat
  detail : W32
  page : Nat
  reported : Bool := false
  deriving DecidableEq, Repr

/-- The Host Event Log of one session (R395): oldest first, at most 256. [DEDUCED, log entry 77] -/
structure HostLog where
  entries : List HostEntry := []
  total : Nat := 0
  /-- per source: time of its last entry, and raises counted since (with the latest time and DETAIL) -/
  gaps : NMap (Nat × Nat × Nat × W32) := []
  deriving DecidableEq, Repr

/-- Bud (spec/03). [DESIGN CHOICE, log entry 88] -/
structure Bud where
  /-- open and opening sessions by session ID (R56); reset empty -/
  sess : NMap Session := []
  /-- queue pairs by QPID; an unlisted one is disabled -/
  qps : NMap Qp := []
  /-- commands in the station by tag -/
  cmds : NMap Cmd := []
  nextTag : Nat := 0
  /-- cause of the last failed OPEN (BUD_SESS_STATE.CAUSE) -/
  openCause : Nat := 0
  /-- Host Event Log per session (Table 19.3) -/
  hostLog : NMap HostLog := []
  /-- the queue pair that had the last turn to fetch, and how many entries remain of it (R69) -/
  turn : Option (Nat × Nat) := none
  /-- doorbell generation that a closed session ID last had (R35) -/
  lastGen : NMap Nat := []
  deriving DecidableEq, Repr

end Sys2Proof.Machine
end

