-- ==== Sys2Proof/Machine/StateStore.lean ====
section
/-!
DEFINITION. The storage side of the state: the extent map (Heartwood) and its journal (Cambium, spec/05), staging
(Sapwood), groves, stripes and reclamation (spec/06), failure, rebuild and resynchronization (spec/07), read
coalescing (Coppice, spec/08) and the drive ports (Rootlets, spec/14). Every field's default is its value at reset.
-/

namespace Sys2Proof.Machine

/-! ### Heartwood -/

/-- A namespace (R115, R429). [DEDUCED, log entry 51] -/
structure Namespace where
  grove : Nat
  nsze : Nat
  ncap : Nat
  /-- FLBAS: 0 or 1 -/
  flbas : Nat
  /-- DPS: 0 or 1 (Type 1) -/
  dps : Nat
  /-- attached session IDs, ascending (R429) -/
  attached : List Nat := []
  /-- not ready until released (R137) -/
  notReady : Bool := false
  /-- being deleted: detached, waiting for its last command (R116) -/
  deleting : Bool := false
  /-- the set that was attached when the delete detached them: a delete cut short leaves it (R137) -/
  was : List Nat := []
  deriving DecidableEq, Repr

/-- A map page in the page cache (R122, R124): leaf pages and directory pages. -/
structure Page where
  /-- the SEQ that first dirtied it; none while clean (R132) -/
  dirty : Option Nat := none
  /-- order of last use (least recent evicted first, R124) -/
  used : Nat := 0
  /-- a write-back of it is staged and not yet recorded: its staging entry -/
  writing : Option Nat := none
  /-- what that write-back holds: the map entries that the page reached when it was staged, and, of a directory page, where
      its leaf pages lay -/
  image : NMap Loc := []
  leaves : NMap (Nat × Nat) := []
  /-- the SEQ that first dirtied it since it was staged for that write-back -/
  again : Option Nat := none
  deriving DecidableEq, Repr

/-- Heartwood (spec/05). [DEDUCED, log entry 58] -/
structure Heartwood where
  /-- live namespaces by NSID, 1 to 4,096 (R115) -/
  ns : NMap Namespace := []
  /-- the map: one entry per block that is not UNMAPPED, key NSID × 2^48 + LBA (R120) -/
  map : NMap Loc := []
  /-- the map as its pages and root tables stand on the drives, same keys (R117) -/
  onDrive : NMap Loc := []
  /-- pages in the page cache by page key (R124) -/
  pages : NMap Page := []
  /-- location of each page last written to its grove: page key to (segment, offset) (PAGE_WRITTEN, Table 5.7) -/
  pageLoc : NMap (Nat × Nat) := []
  /-- translation cache: per set, the tags of its ways, most recently used first (R122) -/
  tc : NMap (List Nat) := []
  /-- use counter of the least-recently-used orders -/
  useClock : Nat := 0
  /-- root pointers changed since the last CHECKPOINT (R132) -/
  rootChanged : Bool := false
  /-- the map and the page locations as the root tables reach them on the drives: through the directory pages as they were
      last written (R117, R132) -/
  rooted : NMap Loc := []
  rootedLoc : NMap (Nat × Nat) := []
  /-- deleted NSIDs that may not be reused yet, with the SEQ of the delete record: a CHECKPOINT after it is awaited (R116) -/
  gone : List (Nat × Nat) := []
  deriving DecidableEq, Repr

/-! ### Cambium -/

/-- A piece of a Commit or Relocate: a run of blocks, where it was (a staging entry and block, or a segment and offset)
and where it goes (segment and offset). -/
structure MovePiece where
  slba : Nat
  nlb : Nat
  fromA : Nat
  fromB : Nat
  seg : Nat
  off : Nat
  deriving DecidableEq, Repr

/-- The body of a journal record (Table 5.7). Locations are (segment, offset); the namespace and grove are in `Rec`. -/
inductive RecBody where
  /-- pieces: new and expected locations (R128) -/
  | extentCommit (fseq : Nat) (pieces : List MovePiece)
  | zero (fseq slba nlb : Nat) (deac : Bool)
  | deallocate (fseq : Nat) (ranges : List (Nat × Nat))
  | relocate (pieces : List MovePiece)
  /-- SLBA, count, cause, and the location that must still be mapped (none: a lost map page) -/
  | lost (slba nlb cause : Nat) (loc : Option (Nat × Nat))
  /-- a page and its new location; for a Pruner copy also the location that must still hold it (R128). `image` and `leaves` are
      the page's contents there (on the drives, not in the record): map entries, and a directory page's leaf locations -/
  | pageWritten (page : Nat) (seg off : Nat) (old : Option (Nat × Nat)) (image : NMap Loc) (leaves : NMap (Nat × Nat))
  | segmentState (seg : Nat) (st : Nat) (live : Nat)
  /-- action 0 create, 1 delete, 2 resize, 3 attachment change; the namespace as it then stands -/
  | nsRecord (action : Nat) (ns : Option Namespace)
  | rebuildCursor (slot spare failed : Nat) (cursor : Nat) (flags : Nat)
  | checkpoint (tail : Nat)
  | pad
  deriving DecidableEq, Repr

/-- A CHECKPOINT's root image (R132, R429): namespaces, and the map and the page locations as the root tables reach them. -/
structure Ckpt where
  seq : Nat
  tail : Nat
  ns : NMap Namespace
  map : NMap Loc
  pageLoc : NMap (Nat × Nat)
  deriving DecidableEq, Repr

/-- What waits for a record to be durable. -/
inductive Cont where
  | none
  /-- a Write Zeroes or deallocate command (Table 4.2) -/
  | command (tag : Nat)
  /-- the data commit of a stripe (R162) -/
  | stripe (grove : Nat) (s : Nat)
  /-- the freeing of a segment (R175) -/
  | segFree (grove : Nat) (seg : Nat)
  /-- an admin command's NAMESPACE record, then its CHECKPOINT (R429) -/
  | admin (tag : Nat)
  deriving DecidableEq, Repr

/-- One Cambium record (Table 5.6). -/
structure Rec where
  seq : Nat
  grove : Nat := 0
  nsid : Nat := 0
  /-- length in 16-byte units (R131) -/
  units : Nat
  /-- where in the ring it starts, in 16-byte units -/
  pos : Nat := 0
  body : RecBody
  cont : Cont := .none
  durable : Bool := false
  /-- an uncorrectable DRAM error hit it: its CRC fails (R388) -/
  poisoned : Bool := false
  deriving DecidableEq, Repr

/-- Cambium (R130 to R133, R425). -/
structure Cambium where
  /-- SEQ of the next record; the first is 1, so that HEAD reads 0 before any (R130) -/
  nextSeq : Nat := 1
  /-- records kept in the ring, oldest first -/
  ring : List Rec := []
  /-- where in the ring the next record starts, in 16-byte units (R130, R131) -/
  pos : Nat := 0
  /-- root images written for CHECKPOINTs that are not yet durable, by their SEQ (R132) -/
  images : NMap Ckpt := []
  /-- where in the ring the last durable CHECKPOINT starts, in bytes (R132) -/
  ckptPos : Nat := 0
  /-- appends that wait for space or for ENABLE, oldest first (R133, R140) -/
  waiting : List (Nat × Nat × RecBody × Cont) := []
  /-- SEQ of the last durable CHECKPOINT, 0 none -/
  ckptSeq : Nat := 0
  /-- compaction runs (R132) -/
  compacting : Bool := false
  /-- an append waits for space: cambium.ring_full_stall has been raised (R133) -/
  stalled : Bool := false
  deriving DecidableEq, Repr

/-! ### Sapwood -/

/-- A staging entry (R134, R154). -/
structure Entry where
  stream : Stream := .host
  grove : Nat := 0
  nsid : Nat := 0
  /-- first LBA (host); for RELOC and MAP the source of each block is in `src` -/
  lba : Nat := 0
  fseq : Nat := 0
  released : Bool := false
  /-- stored blocks (4,096 bytes and 16 of protection information); none until staged -/
  blocks : List (Option (List Byte)) := []
  /-- RELOC: NSID, LBA, old segment, old offset per block; MAP: page key in the second place -/
  src : List (Nat × Nat × Nat × Nat) := []
  /-- stripes that hold its blocks and have not left the window, with whether every block has been placed -/
  stripes : List Nat := []
  placed : Nat := 0
  /-- command that still pulls into it -/
  owner : Option Nat := none
  /-- a resynchronization's copies, which go ahead of other Pruner work (R199) -/
  ahead : Bool := false
  deriving DecidableEq, Repr

/-- One entry of the Lost Data Ranges page (R194, Table 7.4). -/
structure LostEntry where
  nsid : Nat
  slba : Nat
  nlb : Nat
  cause : Nat
  grove : Nat
  seg : Nat
  time : Nat
  deriving DecidableEq, Repr

/-- Sapwood (R152 to R158). -/
structure Sapwood where
  entries : NMap Entry := []
  nextEntry : Nat := 0
  /-- SAPWOOD_LAST_FLUSH: RESULT and US -/
  lastResult : Nat := 0
  lastUs : Nat := 0
  /-- flush under way: when PWRFAIL_N asserted -/
  flushFrom : Option Nat := none
  /-- entries of the Pruner and the map stream that wait for room in the region, oldest first (R152) -/
  queued : List Entry := []
  /-- the last write of several entries to reach its release point: the command, its entries, and when (R134) -/
  heading : Option (Nat × List Nat × Nat) := none
  /-- the vault drives at the moment the flush started (R156) -/
  vaultSet : List Nat := []
  /-- number of the present run, and generation of the last flush (R156, R158) -/
  run : Nat := 0
  gen : Nat := 0
  /-- the Lost Data Ranges page (R194), oldest first -/
  lost : List LostEntry := []
  /-- TOTAL of that page -/
  lostTotal : Nat := 0
  deriving DecidableEq, Repr

/-! ### Groves -/

/-- How a member slot stands (R181 to R190). -/
inductive MemberSt where
  | working
  /-- failed, no spare taken -/
  | failed
  /-- failed, a spare taken and being rebuilt -/
  | rebuilding
  deriving DecidableEq, Repr

/-- One member slot. -/
structure Member where
  /-- the drive in the slot: the member, or the spare taken into it -/
  drive : Nat
  st : MemberSt := .working
  /-- the drive that failed, for a slot being rebuilt or failed -/
  failed : Nat := 0xFF
  /-- order of failure among the slots that wait for a spare, of all groves (R183, R184) -/
  failOrder : Nat := 0
  deriving DecidableEq, Repr

/-- State of a segment that is not free (R172): open 0, sealed 1, reclaiming 2. -/
structure Seg where
  st : Nat
  stream : Stream
  /-- order of sealing (R174) -/
  sealedAt : Nat := 0
  suspect : Bool := false
  /-- segment summary (R172): NSID, LBA, offset per block placed; NSID 0 and a page key for a map page -/
  summary : List (Nat × Nat × Nat) := []
  /-- reclaiming: index of the next summary item to be read -/
  next : Nat := 0
  deriving DecidableEq, Repr

/-- A stripe in flight (R159 to R164, R182). -/
structure Stripe where
  stream : Stream
  /-- blocks placed, in offset order: staging entry and block -/
  blocks : List (Nat × Nat) := []
  /-- closed: full or padded (R160) -/
  closed : Bool := false
  /-- time a block was last added -/
  lastAdd : Nat := 0
  /-- assembling engine and the Bough whose parity buffer it holds; none while it waits (R161) -/
  engine : Option Nat := none
  /-- the Bough still holds its parity buffer -/
  parityBuf : Bool := false
  /-- data chunks issued and durable -/
  issued : List Nat := []
  durable : List Nat := []
  /-- slots whose chunk was lost to a member failure while it was written (R182) -/
  missing : List Nat := []
  /-- P and Q per block of the chunk: partial, of the data chunks that have passed the syndrome unit, and finished with the last
      one (R161); empty before the first -/
  pq : List (List Byte × List Byte) := []
  /-- P and Q: issued, durable -/
  pqIssued : Bool := false
  pDone : Bool := false
  qDone : Bool := false
  /-- commit records appended, commit durable -/
  committing : Nat := 0
  committed : Bool := false
  /-- in the parity-lag window (R162) -/
  lagging : Bool := false
  /-- commit waits at LAG_MAX -/
  waitLag : Bool := false
  /-- abandoned (R164, R182) -/
  abandoned : Bool := false
  /-- the grove restarted with it in the window: P and Q are to be rewritten from staging (R164) -/
  rewrite : Bool := false
  deriving DecidableEq, Repr

/-- One stream of a grove (R159). -/
structure StreamSt where
  /-- open segment and the next stripe index in it (0 to 64) -/
  seg : Option Nat := none
  next : Nat := 0
  /-- stripe being filled -/
  cur : Option Nat := none
  /-- staged blocks to be placed: entry, block -/
  queue : List (Nat × Nat) := []
  /-- intent bound (R166) -/
  bound : Nat := 0
  /-- zone set that the stream fills (R171) -/
  zone : Option Nat := none
  deriving DecidableEq, Repr

/-- A rebuild (R185 to R190). -/
structure Rebuild where
  slot : Nat
  spare : Nat
  failed : Nat
  /-- segments still to be rebuilt, ascending -/
  bitmap : List Nat
  /-- cursor: lowest stripe not known to be rebuilt -/
  cursor : Nat
  /-- where the joint pass began, for the wrap pass (R190) -/
  jointFrom : Option Nat := none
  /-- the wrap pass runs -/
  wrap : Bool := false
  deriving DecidableEq, Repr

/-- One stripe under rebuild (R185). -/
structure RbJob where
  id : Nat
  stripe : Nat
  /-- slots whose chunk is written to their spare -/
  targets : List Nat
  /-- slots that are read -/
  slots : List Nat
  /-- blocks answered: slot, block of the chunk, and the stored block, none where it is unavailable -/
  got : List (Nat × Nat × Option (List Byte)) := []
  /-- slots whose write is not yet done; meaningful once the reads are answered -/
  writes : List Nat := []
  deriving DecidableEq, Repr

/-- A resynchronization (R198 to R200). -/
structure Resync where
  /-- 1 narrowed, 2 full -/
  mode : Nat
  reason : Nat
  /-- stripes still to be verified, in resync order -/
  todo : List Nat
  deriving DecidableEq, Repr

/-- An intent record on its way or durable (Table 6.5). -/
structure Intent where
  iseq : Nat
  plp : Bool
  /-- bounds of the three streams -/
  bounds : Nat × Nat × Nat
  /-- ranges: segment, stream, first and last stripe in the segment -/
  ranges : List (Nat × Nat × Nat × Nat)
  /-- holders (drives) that still have to complete it -/
  left : List Nat
  deriving DecidableEq, Repr

/-- A grove (spec/06, spec/07). -/
structure Grove where
  n : Nat
  /-- CHUNK code 0, 1, 2 -/
  chunk : Nat
  zoned : Bool
  members : List Member
  /-- member capacity, blocks -/
  cap : Nat
  reservePct : Nat
  /-- segments G (R147, R170) -/
  segCount : Nat
  /-- zone size, ZCAP and k, for a zoned grove -/
  zone : Nat × Nat × Nat := (0, 0, 0)
  /-- segments not free -/
  segs : NMap Seg := []
  /-- pins held per segment by shoots (R208); those of commands are in the commands -/
  sealCount : Nat := 0
  host : StreamSt := {}
  reloc : StreamSt := {}
  map : StreamSt := {}
  stripes : NMap Stripe := []
  intent : Option Intent := none
  iseq : Nat := 0
  /-- newest durable intent record on each holder drive -/
  holders : List Nat := []
  rbA : Option Rebuild := none
  rbB : Option Rebuild := none
  /-- the rebuild sequencer: the segment it is in, the next stripe of it (64: every one is on the spare), and the stripe
      at hand (R185) -/
  rbSeg : Option Nat := none
  rbNext : Nat := 0
  rbJob : Option RbJob := none
  rbJobs : Nat := 0
  paused : Bool := false
  resync : Option Resync := none
  /-- stripes not yet verified by a resync are read under R200 -/
  offline : Bool := false
  /-- blocks marked lost since creation -/
  lostBlocks : Nat := 0
  /-- Pruner mode last seen (R173): 0 idle, 1 background, 2 urgent, 3 stalled -/
  mode : Nat := 0
  /-- grove.lag_full condition holds -/
  lagFull : Bool := false
  /-- label sequence (R151) -/
  lseq : Nat := 0
  /-- operator pause requests and pending AUTO decisions are Pith's (R196) -/
  parityTurn : Nat := 0
  deriving DecidableEq, Repr

/-! ### Reads and shoots -/

/-- One recipient of a drive read (R207). -/
structure Recip where
  tag : Nat
  /-- index in the command of the piece's first block -/
  at0 : Nat
  /-- first block of the piece within the chunk, and count -/
  b0 : Nat
  nb : Nat
  /-- the piece of a payload's rebuild that takes the blocks, in place of the command (R213) -/
  piece : Option Nat := none
  deriving DecidableEq, Repr

/-- A drive read of the blocks of one data chunk, tracked as a shoot or not (R205 to R210). [DEDUCED, log entry 59] -/
structure Piece where
  grove : Nat
  seg : Nat
  stripe : Nat
  d : Nat
  b0 : Nat
  nb : Nat
  shoot : Bool := false
  recips : List Recip
  /-- blocks as they stand: none while not in hand -/
  data : List (Option (List Byte)) := []
  /-- blocks found lost -/
  lost : List Nat := []
  /-- reconstruction reads: block offset, slot, and the block (none: outstanding; some none: unavailable) -/
  recon : List (Nat × Nat × Option (Option (List Byte))) := []
  /-- drive commands still out -/
  out : Nat := 0
  done : Bool := false
  /-- when the drive read completed -/
  doneAt : Nat := 0
  /-- attachable (R208) -/
  attachable : Bool := false
  /-- FAN_MAX and LINGER_US in force when the shoot opened (commit group LIMITS) -/
  fanMax : Nat := 0
  lingerUs : Nat := 0
  /-- a read for refetch: the request whose payload is rebuilt (R43), by a drive read of its own or from a shoot (R213) -/
  refetch : Option Nat := none
  /-- a Pruner or resynchronization read: its live blocks are staged in a RELOC entry (R175, R199) -/
  copy : Bool := false
  /-- a read of a map page, by its key (R122) -/
  page : Option Nat := none
  /-- class of its drive commands (R321) -/
  cls : Nat := 0
  /-- blocks unavailable for another reason than a failed slot, and whether one of those was reconstructed: repaired (R191) -/
  bad : List Nat := []
  repaired : Bool := false
  deriving DecidableEq, Repr

/-! ### Rootlets -/

/-- STATE of a Rootlet (Table 14.7) with the phases of Table 14.3 kept apart. -/
inductive PortSt where
  | absent
  /-- Detect: debouncing -/
  | debouncing
  /-- Power -/
  | powering
  /-- Train at a generation -/
  | training (gen : Nat)
  /-- Wait before the first configuration request -/
  | waiting
  /-- Initialise and Qualify -/
  | initialising
  | ready
  | contained
  | qualFail
  | off
  deriving DecidableEq, Repr

/-- A label record (Table 6.3). [DESIGN CHOICE, log entry 33] -/
structure Label where
  lseq : Nat
  station : Nat
  /-- 0xFF for a spare -/
  grove : Nat
  slot : Nat
  n : Nat
  chunk : Nat
  zoned : Bool
  reservePct : Nat
  cap : Nat
  /-- location of the latest CHECKPOINT record: its byte in the ring (R132) -/
  ckpt : Nat := 0
  members : List Nat
  spareFor : Nat
  /-- slots whose drive is a spare not yet rebuilt (R196): a label names them, in bits that Table 6.3 does not show -/
  rebuilding : List Nat := []
  deriving DecidableEq, Repr

/-- A vault header (R156): the flush generation, the run, the region's size in GiB and the drive list, in order; whether the
run is sealed (R158). -/
structure VaultHdr where
  gen : Nat
  run : Nat
  region : Nat
  drives : List Nat
  sealed : Bool
  deriving DecidableEq, Repr

/-- What a drive command is for. [DEDUCED, log entry 86] -/
inductive Purpose where
  /-- the blocks of a read piece, from index `i` of the piece -/
  | piece (p : Nat) (i : Nat)
  /-- a reconstruction read of a piece: block offset in the chunk, slot -/
  | recon (p : Nat) (b : Nat) (slot : Nat)
  /-- a data chunk of a stripe -/
  | chunk (grove s slot : Nat)
  /-- P (false) or Q (true) of a stripe -/
  | parity (grove s : Nat) (q : Bool)
  | intent (grove iseq : Nat)
  /-- a label or spare label of this drive, none where it is erased; the admin command waiting for it -/
  | label (l : Option Label) (tag : Option Nat)
  /-- a vault header (R156, R158) -/
  | vaultHdr (h : VaultHdr)
  /-- the vault units of a row, and the Flush that ends a drive's part (R155, R156) -/
  | vaultUnit (row : Nat)
  | driveFlush
  /-- Format NVM for an admin command -/
  | format (tag : Nat)
  /-- a rebuild's read of a chunk from its block `b` on, and its write of a chunk (R185) -/
  | rbRead (grove job slot b : Nat)
  | rbWrite (grove job slot : Nat)
  /-- Zone Open, Zone Finish or Zone Reset of a zone: 1, 2, 4 -/
  | zone (grove z : Nat) (action : Nat)
  deriving DecidableEq, Repr

/-- A command for a drive (R321 to R323). -/
structure DriveCmd where
  id : Nat
  purpose : Purpose
  isWrite : Bool
  /-- first block, and count; of the head area, on a zoned drive its conventional namespace, or of the segment area (R143) -/
  lba : Nat
  nb : Nat
  head : Bool := false
  data : List (List Byte) := []
  /-- class: none for a P or Q write, whose class follows its grove's window (R321) -/
  cls : Option Nat := some 0
  fua : Bool := false
  /-- zone it writes, on a zoned drive (R171) -/
  zone : Option Nat := none
  issuedAt : Nat := 0
  /-- CMD_MS and ABORT_MS in force when it was issued (commit group IO) -/
  cmdMs : Nat := 0
  abortMs : Nat := 0
  /-- time the Abort was sent (R322) -/
  abortAt : Option Nat := none
  reissued : Bool := false
  /-- in-flight slot, while it is at the drive (R312) -/
  slot : Nat := 0
  deriving DecidableEq, Repr

/-- One Rootlet and its drive (spec/14). -/
structure Drive where
  st : PortSt := .absent
  /-- PRSNT_N is low -/
  present : Bool := false
  /-- end of the phase that runs -/
  deadline : Nat := 0
  gen : Nat := 0
  width : Nat := 0
  /-- PWREN and PERST_N as driven -/
  pwren : Bool := false
  perstN : Bool := false
  /-- what the drive reported (R318 to R320); meaningful once initialised -/
  info : DriveInfo := { blocks := 0 }
  inited : Bool := false
  /-- in the format of R142 -/
  formatted : Bool := false
  /-- in-flight limit (R318) -/
  limit : Nat := 0
  /-- commands waiting, in the order they reached the Rootlet (R321) -/
  queue : List DriveCmd := []
  /-- commands at the drive -/
  atDrive : List DriveCmd := []
  nextCmd : Nat := 0
  /-- times of the controller resets of the last hour (R322) -/
  resets : List Nat := []
  /-- a controller reset runs -/
  resetting : Bool := false
  /-- times of the unreadable sectors of the last 24 hours (Table 7.1) -/
  media : List Nat := []
  /-- POWER_OFF quiesce under way -/
  quiescing : Bool := false
  /-- ENABLE cleared, waiting for the commands at the drive: since when -/
  disabling : Bool := false
  /-- spare designation: SPARE_FOR mask, 0 every grove (R150) -/
  spare : Option Nat := none
  /-- failed as a member for good: comes back in no grove (R181) -/
  settled : Bool := false
  /-- block of its label area that its next label goes to (R151) -/
  labelBlk : Nat := 0
  deriving DecidableEq, Repr

end Sys2Proof.Machine
end

