-- ==== Sys2Proof/Machine/StateNet.lean ====
section
/-!
DEFINITION. The network side of the state: Crown (spec/09), the ports, the Timebase and MGMT (spec/10), Bark
(spec/11), Canopy (spec/12) and the ring (spec/13). Every field's default is its value at reset.
-/

namespace Sys2Proof.Machine

/-! ### Crown -/

/-- A forwarding entry (Table 9.3). -/
structure Fwd where
  learned : Bool
  kind : Nat
  port : Nat
  alt : Nat
  sub : Nat
  altSub : Nat
  path : Nat
  /-- last refresh, for a learned entry (R224) -/
  refreshed : Nat := 0
  deriving DecidableEq, Repr

/-- A path record (R223). -/
structure PathRec where
  mac : BitVec 48 := 0#48
  vid : BitVec 12 := 0#12
  tagged : Bool := false
  v6 : Bool := false
  ip : BitVec 128 := 0#128
  deriving DecidableEq, Repr

/-- A frame in an egress queue, in residue, or a copy of a shared payload. -/
structure QFrame where
  frame : Frame
  tc : Nat
  /-- an answer frame of R226 -/
  answer : Bool := false
  /-- residence starts here (R228) -/
  since : Nat
  /-- own request packet it carries -/
  req : Option Nat := none
  /-- shared payload (piece) it points at (R231) -/
  shared : Option Nat := none
  /-- timestamp request flag of a Pith frame (R250) -/
  stamp : Bool := false
  /-- already counted as held by its gate beyond a cycle (R253) -/
  gateCounted : Bool := false
  /-- for a frame to CTRL: its receive timestamp record, egress point, seconds, nanoseconds (R250) -/
  rx : Option (Nat × Nat × Nat) := none
  deriving DecidableEq, Repr

/-- A frame in a Bark hold buffer (R264), with the class of its port and its traffic class as it arrived (R234, R246). -/
structure Held where
  sub : Nat
  frame : Frame
  since : Nat
  cls : Nat := 0
  tc : Nat := 0
  deriving DecidableEq, Repr

/-- Crown (spec/09). -/
structure Crown where
  /-- forwarding table by endpoint ID (R222) -/
  fwd : NMap Fwd := []
  /-- path records, 0 to 4,095 (R223) -/
  paths : NMap PathRec := []
  /-- CROWN_FWD_STAT.RESULT -/
  fwdResult : Nat := 0
  /-- egress queues by queue number e × 8 + tc, oldest first (R217) -/
  queues : NMap (List QFrame) := []
  /-- residue per egress point, in release order (R232) -/
  residue : NMap (List QFrame) := []
  /-- CROWN_Q_AGED per queue -/
  aged : NMap Nat := []
  /-- Bark hold buffers by Crown port 0 to 10 (R264) -/
  hold : NMap (List Held) := []
  /-- frames waiting in the Crown buffer for room in a hold buffer, by Crown port (R264) -/
  holdWait : NMap (List Held) := []
  /-- frames delivered to CTRL with their receive timestamp record (egress point, seconds, nanoseconds), newest first -/
  ctrl : List (Frame × Option (Nat × Nat × Nat)) := []
  /-- last scrub (R229) -/
  scrubAt : Nat := 0
  /-- packets not learned because their set, or the path space, was full: a count that no register shows (R224) -/
  learnSkips : Nat := 0
  deriving DecidableEq, Repr

/-! ### Bark -/

/-- A key slot (R268). -/
structure Key where
  key : BitVec 256
  salt : BitVec 32
  limitLog2 : Nat
  /-- station counter (R266) -/
  cnt : Nat := 0
  exhausted : Bool := false
  /-- bark.key_low raised -/
  low : Bool := false
  deriving DecidableEq, Repr

/-- Bark (spec/11). -/
structure Bark where
  /-- keys by KEY_INDEX (R268) -/
  keys : NMap Key := []
  /-- transmit slot per session with a key -/
  tx : NMap Nat := []
  deriving DecidableEq, Repr

/-! ### Canopy -/

/-- A shaper or policer (R275, R282): tokens in 1/64 byte. -/
structure Shaper where
  rate : Nat
  burst : Nat
  tokens : Int := 0
  at_ : Nat := 0
  /-- tokens become exactly 0 at the next release decision (R278) -/
  zero : Bool := false
  /-- set through its window, so that Save Configuration keeps it (R360) -/
  window : Bool := false
  deriving DecidableEq, Repr

/-- Start-time fair queueing of one egress point (R280). -/
structure Sfq where
  v : Nat := 0
  /-- finish tag F per class -/
  f : List Nat := [0, 0, 0, 0, 0, 0, 0, 0]
  /-- start tag of the frame at the head of each class queue, once tagged -/
  s : List (Option Nat) := [none, none, none, none, none, none, none, none]
  deriving DecidableEq, Repr

/-- Canopy (spec/12). -/
structure Canopy where
  /-- session shapers by SESSION_ID × 4 + kind; unlisted is unshaped -/
  sess : NMap Shaper := []
  /-- namespace shapers by NSID − 1 -/
  ns : NMap Shaper := []
  /-- policers by egress point 0 to 34 -/
  pol : NMap Shaper := []
  /-- CANOPY_SHP_TOKENS as loaded by READ -/
  shown : W32 := 0#32
  sfq : NMap Sfq := []
  deriving DecidableEq, Repr

/-! ### Ports, Timebase, MGMT -/

/-- An operating gate list (R252). -/
structure GateList where
  entries : List (BitVec 8 × Nat)
  cycle : Nat
  base : Nat
  deriving DecidableEq, Repr

/-- A sub-port (fabric, EAST, WEST), by egress point. -/
structure Port where
  /-- link up (R240) -/
  up : Bool := false
  /-- operating gate list -/
  gate : Option GateList := none
  /-- when the operating list took over (of `now`) -/
  gateAt : Nat := 0
  /-- list accepted by a commit, waiting for its first cycle start: the list and that time (Timebase ns) -/
  next : Option (Option GateList × Nat) := none
  /-- FMAC_IND fields (Table 10.2), by kind -/
  ind : NMap Nat := []
  deriving DecidableEq, Repr

/-- MMAC (R255, R256). -/
structure Mmac where
  ind : NMap Nat := []
  /-- MDIO operation in progress -/
  mdioBusy : Bool := false
  /-- frame being attempted in half duplex, with its collisions so far -/
  cur : Option QFrame := none
  /-- its transmit timestamp, seconds and nanoseconds, as the present attempt began (R249, R250) -/
  curAt : Nat × Nat := (0, 0)
  collisions : Nat := 0
  /-- end of the back-off -/
  backoff : Option Nat := none
  /-- carrier sense is asserted, by MGMT's own attempt too -/
  carrier : Bool := false
  /-- MGMT_PHY_RST_N as driven -/
  phyRstN : Bool := false
  /-- end of the 10 ms for which it stays low after RESET_N rises (R415) -/
  phyHold : Nat := 0
  /-- speed and duplex resolved by AUTO_POLL -/
  speed : Nat := 0
  full : Bool := false
  deriving DecidableEq, Repr

/-- The Timebase (R248 to R251). -/
structure Timebase where
  sec : Nat := 0
  ns : Nat := 0
  /-- fraction of a nanosecond, in 2^-32 ns -/
  frac : Nat := 0
  /-- TIME_TXTS queue: egress point, messageType, sequenceId, seconds, nanoseconds -/
  txts : List (Nat × Nat × Nat × Nat × Nat) := []
  /-- entry taken by the last read of TIME_TXTS_INFO -/
  taken : Option (Nat × Nat × Nat × Nat × Nat) := none
  /-- TIME_PPS_CAP: seconds, nanoseconds -/
  cap : Nat × Nat := (0, 0)
  /-- PPS_OUT is high until this time (of `now`) -/
  ppsHigh : Option Nat := none
  deriving DecidableEq, Repr

/-! ### Ring -/

/-- A neighbour (RING_NBR_E, RING_NBR_W). -/
structure Nbr where
  live : Bool := false
  state : BitVec 16 := 0#16
  station : BitVec 16 := 0#16
  /-- a heartbeat has been recorded since reset -/
  known : Bool := false
  conflict : Bool := false
  lastHb : Nat := 0
  deriving DecidableEq, Repr

/-- The RING block beyond its registers (R289 to R294). -/
structure Ring where
  east : Nbr := {}
  west : Nbr := {}
  /-- SEQ of the next heartbeat -/
  hbSeq : Nat := 0
  /-- BYP_HOLD_E and BYP_HOLD_W driven high, and when -/
  byp : Option Nat := none
  /-- HELD_E and HELD_W -/
  held : Bool := false
  /-- the pass-through runs (locked) -/
  passing : Bool := false
  /-- STATE forced by hardware (Table 13.1) -/
  forced : Option (BitVec 16) := none
  deriving DecidableEq, Repr

end Sys2Proof.Machine
end

