-- ==== Sys2Proof/Machine/StateSys.lean ====
section
/-!
DEFINITION. The system side of the state: twig engines (spec/04), the Pith pairs (spec/13), Sap (spec/15), Seed and the
flash (spec/16), events and Tally (spec/19), DRAM and TEST (spec/18), die links (spec/01), and the media that survive
a reset. Every field's default is its value at reset.
-/

namespace Sys2Proof.Machine

/-- A twig engine (R98 to R105). -/
structure Twig where
  /-- ready commands, oldest first -/
  deque : List Nat := []
  /-- started commands -/
  started : List Nat := []
  /-- no steal before this time (R102) -/
  backoff : Nat := 0
  /-- victims that failed attempts have tried since the last steal (R102, log entry 95) -/
  tried : Nat := 0
  /-- parked by Sap (R330) -/
  parked : Bool := false
  /-- Bough being vacated or reloaded (R105) -/
  vacating : Bool := false
  reloading : Bool := false
  /-- Bough fenced (R12) -/
  fenced : Bool := false
  /-- cycles of the Bough's clock, in eighths, that this engine did not count while parked -/
  cycOut : Nat := 0
  /-- cycle counter held while parked, in eighths -/
  cycHeld : Option Nat := none
  deriving DecidableEq, Repr

/-- Knot beyond the commands themselves (R97, R127). -/
structure Knot where
  nextFseq : Nat := 0
  /-- intake waits for a granule slot or a wide entry -/
  stalled : Bool := false
  /-- the free context credits are 0 (R100): at reset no engine runs -/
  exhausted : Bool := true
  deriving DecidableEq, Repr

/-! ### Pith -/

/-- Why a takeover runs: PITH_STATUS.LAST_CAUSE. -/
inductive TakeCause where
  | mismatch
  | watchdog
  | operator
  | activation
  | rehearsal
  deriving DecidableEq, Repr

/-- Phases of a takeover (Table 13.4, R300). -/
inductive TakePhase where
  | wake
  | boot
  | restore
  deriving DecidableEq, Repr

/-- A takeover under way. -/
structure Takeover where
  cause : TakeCause
  /-- planned (R300): the old pair runs until the new one is ready -/
  planned : Bool
  phase : TakePhase
  /-- the fence, or the start of a planned takeover -/
  from_ : Nat
  deriving DecidableEq, Repr

/-- State of a pair: 0 cold, 1 booting, 2 active, 3 fenced. -/
inductive PairSt where
  | cold
  | booting
  | active
  | fenced
  deriving DecidableEq, Repr

/-- Engine microcode reload (R302, R303): the Bough, the phase and its start. -/
structure Reload where
  tag : Nat
  bough : Nat
  /-- 0 vacating, 1 loading, 2 waiting to retry -/
  phase : Nat
  since : Nat
  deriving DecidableEq, Repr

/-- A Register Write interrupted by a fence (R378): command, values left in order from index `done`. -/
structure CutWrite where
  tag : Nat
  addr : Nat
  done : Nat
  values : List W32
  deriving DecidableEq, Repr

/-- The Pith pairs (R295 to R305). -/
structure Pith where
  a : PairSt := .cold
  b : PairSt := .cold
  /-- the active pair is B -/
  activeB : Bool := false
  take : Option Takeover := none
  takeovers : Nat := 0
  lastCause : Nat := 0
  rehearse : Nat := 0
  /-- no control pair (R299) -/
  noControl : Bool := false
  /-- last PITH_WDOG.KICK -/
  kickAt : Nat := 0
  /-- last full checkpoint -/
  ckptAt : Nat := 0
  /-- rehearsal that begins 1 ms after its frame was answered (R305) -/
  rehearseAt : Option Nat := none
  /-- the Bough step of a firmware activation that runs -/
  reload : Option Reload := none
  /-- engine microcode and firmware pending activation: the tag of the Firmware Commit -/
  pending : Option Nat := none
  cut : Option CutWrite := none
  /-- Firmware Image Download buffer: byte offset to byte -/
  download : NMap (List Byte) := []
  deriving DecidableEq, Repr

/-! ### Sap -/

/-- A power-managed resource's state (R328 to R333). -/
structure ResSt where
  sp : Nat := 0
  /-- idle since (of `now`) -/
  idle : Nat := 0
  /-- an exit runs until -/
  exiting : Option Nat := none
  /-- sap.tolerance_violated condition holds -/
  violated : Bool := false
  deriving DecidableEq, Repr

/-- Phases of the power-fail flush (Table 6.4). -/
inductive FlushPhase where
  | stop
  | vault
  | seal
  /-- sealed: every block but Sap held in reset (R340) -/
  | sealed
  deriving DecidableEq, Repr

/-- Sap beyond its registers. -/
structure Sap where
  /-- resource states: 0 engines, 0x100 + port, 0x200 + drive -/
  res : NMap ResSt := []
  /-- die slowed by droop: T, B0 to B3, RT -/
  slowed : List Bool := [false, false, false, false, false, false]
  /-- last sap.droop per die -/
  droopAt : List (Option Nat) := [none, none, none, none, none, none]
  /-- eighths of full rate by the thermal loop, 4 to 8 -/
  therm : List Nat := [8, 8, 8, 8, 8, 8]
  /-- hottest junction per die as last sampled -/
  temp : List Nat := [0, 0, 0, 0, 0, 0]
  /-- every sensor of the die is below the release level -/
  cool : List Bool := [true, true, true, true, true, true]
  /-- references lost: Ethernet 1, 2, DDR, system, PCIe 0 to 3 -/
  refLost : List Bool := [false, false, false, false, false, false, false, false]
  /-- power-fail response -/
  flush : Option FlushPhase := none
  /-- a thermal or reference cause holds (R340) -/
  stuck : Bool := false
  /-- stopped by the thermal stop until RESET_N (R338) -/
  dead : Bool := false
  /-- Ethernet shed (R339) -/
  shed : Bool := false
  /-- PWRFAIL_N is low; when it last rose -/
  pwrfailLow : Bool := false
  pwrfailHighAt : Nat := 0
  /-- DRAM ranks 1 and up in self-refresh -/
  selfRefresh : Bool := false
  /-- Boughs whose parked engines are being unparked (R330) -/
  unparking : List Nat := []
  /-- cycles skipped while slowed by droop, in eightieths (R335) -/
  skip : Nat := 0
  /-- last trip of a droop detector, per die -/
  tripAt : List Nat := [0, 0, 0, 0, 0, 0]
  /-- last step of the thermal loop, per die -/
  thermAt : List Nat := [0, 0, 0, 0, 0, 0]
  deriving DecidableEq, Repr

/-! ### Seed -/

/-- Phases of start-up (Table 16.3). -/
inductive Boot where
  /-- RESET_N is low -/
  | reset
  | clocks
  | selftest
  | image
  | base
  | drives
  | restore
  | serve
  | running
  | recovery
  /-- Trunk or Root die failed: every block held in reset (R348) -/
  | heldDead
  deriving DecidableEq, Repr

/-- Seed (spec/16). -/
structure Seed where
  boot : Boot := .reset
  /-- start of the phase -/
  since : Nat := 0
  straps : BitVec 6 := 0#6
  slot : Nat := 0
  /-- slot of the firmware that runs: SLOT, or the slot of a later activation (R302) -/
  fwSlot : Nat := 0
  fallback : Bool := false
  cause : Nat := 0
  skipped : Nat := 0
  fwRev : Nat := 0
  ctxFormat : Nat := 0
  applied : BitVec 16 := 0#16
  /-- held offset-0 writes, and the SEQ and WAIT records left: (kind, address, mask, value) -/
  held : List (Nat × W32) := []
  seq : List (Nat × Nat × W32 × W32) := []
  /-- the merged image: registers and values it wrote (R360) -/
  merged : List (Nat × W32) := []
  /-- the key-encryption key, unwrapped from the image -/
  kek : Option (BitVec 256) := none
  /-- recovery operation running: OP, slot, page -/
  recBusy : Option (Nat × Nat × Nat) := none
  recResult : Nat := 0
  /-- slots whose last CHECK passed since their last PROGRAM (R358) -/
  checked : List Nat := []
  /-- a flash write outside recovery: the command, the slot, CA (0 to 3) or 0xF for Save Configuration (R359) -/
  write : Option (Nat × Nat × Nat) := none
  /-- the bytes of that write -/
  image : List Byte := []
  /-- the other slot has been written or marked since this start (R360) -/
  dirtySlot : Bool := false
  /-- the WAIT record polled, since when -/
  waitSince : Nat := 0
  /-- DRIVE_WAIT_S has expired: drives that have not settled count as absent (R347) -/
  waited : Bool := false
  deriving DecidableEq, Repr

/-! ### Events and Tally -/

/-- One event source (R391). -/
structure Src where
  pend : Bool := false
  raises : Nat := 0
  time : Nat := 0
  detail : W32 := 0#32
  /-- deliverable to hosts and delivered since it last raised -/
  told : Bool := false
  deriving DecidableEq, Repr

/-- Tally beyond its registers (R396 to R402). -/
structure Tally where
  /-- block counters by bank × 16 + counter -/
  ctr : NMap Nat := []
  /-- engine counters by engine × 8 + n -/
  eng : NMap Nat := []
  /-- Cycle count (eighths) of the engine at which counter `8 * engine + n` last began to count cycles (the MODEL's own field, not the spec's; log entry 56) -/
  engFrom : NMap Nat := []
  /-- OVF bits by engine × 8 + n -/
  ovf : List Nat := []
  /-- sweep and trace ring words, by byte offset -/
  sweep : NMap W32 := []
  trace : NMap W32 := []
  sweepHead : Nat := 0
  traceHead : Nat := 0
  sweeps : Nat := 0
  /-- start of the last sweep -/
  sweepAt : Nat := 0
  skipped : Nat := 0
  dropped : Nat := 0
  lfsr : BitVec 32 := 1#32
  /-- last tally.ring_full and tally.trace_drop -/
  fullAt : Option Nat := none
  dropAt : Option Nat := none
  deriving DecidableEq, Repr

/-- DRAM beyond its registers (R386 to R388). -/
structure Dram where
  enabled : Bool := false
  trained : BitVec 8 := 0#8
  ue : Bool := false
  channel : Nat := 0
  rank : Nat := 0
  addr : Nat := 0
  /-- last dram.ce -/
  ceAt : Option Nat := none
  /-- start of the scrub pass that runs -/
  scrubAt : Nat := 0
  deriving DecidableEq, Repr

/-! ### What survives a reset -/

/-- What a power-fail flush put in the vault (R155, R156): the protected region. -/
structure Vault where
  entries : NMap Entry
  nextEntry : Nat
  ring : List Rec
  /-- where the next record starts, and the SEQ and place of the last CHECKPOINT -/
  pos : Nat
  nextSeq : Nat
  ckptSeq : Nat
  ckptPos : Nat
  nextFseq : Nat
  groves : List (Option Grove)
  /-- namespaces not yet released (R137) -/
  held : List Nat
  lost : List LostEntry
  lostTotal : Nat
  deriving DecidableEq, Repr

/-- Contents kept outside the block's reset: drives, flash, fuses (R346, R349).
 [DESIGN CHOICE, log entry 13; DESIGN CHOICE, log entry 87] -/
structure Media where
  /-- label records by drive and block of its label area, key 2 × drive + block (R151) -/
  labels : NMap Label := []
  /-- newest durable intent record per drive (R166) -/
  intents : NMap Intent := []
  /-- what the vault units of the last flush hold, if one was written, and the vault header of each drive (R156, R158) -/
  vault : Option Vault := none
  headers : NMap VaultHdr := []
  ckpt : Option Ckpt := none
  /-- flash bytes that are not 0xFF, by address (R349) -/
  flash : NMap Byte := []
  /-- the one-time image key store (R352, R357) -/
  imageKey : Option (BitVec 256) := none
  deriving DecidableEq, Repr

end Sys2Proof.Machine
end

