-- ==== Sys2Proof/Machine/State.lean ====
section
/-!
DEFINITION. The state of the EV9624: every register, buffer, table, queue, mode and pin that spec/ gives it, as plain
data, with the queue of waiting commands, and the state right after reset.

Registers with a plain read and write meaning are held in `Regs` by address; a register whose field shows a piece of
the machine (an occupancy, a cursor, a state) has no storage of its own and is computed from that piece
(Machine/View.lean), so that nothing has two homes.
-/

namespace Sys2Proof.Machine

/-- A commit group's snapshot that waits for its safe boundary (R380): who committed it, and the values it took. -/
structure Snap where
  path : Path
  vals : NMap W32
  deriving DecidableEq, Repr

/-- The management address space (spec/18): a sparse map from (virtual) register address to value. An address that is
not listed holds its reset value (Machine/RegTable.lean). A register behind a window (KNOT_AFF_DATA, CANOPY_SCH_*,
SAP_RES_CFG, TALLY_ENG_*, FMAC_GATE_DATA) has one virtual address per selection: address + 2^32 × (selection + 1).
 [DESIGN CHOICE, log entry 87] -/
structure Regs where
  /-- values in force -/
  val : NMap W32 := []
  /-- shadow copies of registers with class C fields (R380) -/
  shadow : NMap W32 := []
  /-- snapshots waiting, by COMMIT address × 8 + bit (R380) -/
  snaps : NMap Snap := []
  /-- latched partners of _LO registers, by their address (R141, R203, R259, R391) -/
  latch : NMap W32 := []
  /-- CHIP_VIOL_ADDR and the PATH, KIND and COUNT of CHIP_VIOL_INFO (R384) -/
  violAddr : W32 := 0#32
  violPath : Nat := 0
  violKind : Nat := 0
  violCount : Nat := 0
  deriving DecidableEq, Repr

/-- A frame whose transmission started: egress point, frame, time (R279). -/
structure Sent where
  point : Nat
  frame : Frame
  time : Nat
  deriving DecidableEq, Repr

/-- A Register Access response (R375): addresses, tag and payload. -/
structure RaResponse where
  dstMac : BitVec 48
  srcMac : BitVec 48
  vlan : Option (BitVec 16)
  payload : List Byte
  deriving DecidableEq, Repr

/-- The sideband target (R418). -/
structure Sideband where
  addr : BitVec 7 := 0x4E#7
  offset : BitVec 8 := 0#8
  /-- byte returned by the last read -/
  data : Byte := 0#8
  deriving DecidableEq, Repr

/-- The state of the block. -/
structure State where
  /-- nanoseconds of the 1 GHz Timebase clock since reset (the model's clock, spec/10 R248) -/
  now : Nat := 0
  regs : Regs := {}
  xylem : Xylem := {}
  bud : Bud := {}
  knot : Knot := {}
  /-- TW00 to TW63 that differ from a fresh engine, by index -/
  twigs : NMap Twig := []
  /-- cycles delivered by each Bough's engine clock since reset, in eighths (R399) -/
  boughCycles : List Nat := [0, 0, 0, 0]
  heart : Heartwood := {}
  camb : Cambium := {}
  sapw : Sapwood := {}
  /-- groves 0 to 3 -/
  groves : NMap Grove := []
  /-- next engine of the round robin of stripe assembly (R161) -/
  asmNext : Nat := 0
  /-- drive reads and shoots by number (R206) -/
  pieces : NMap Piece := []
  nextPiece : Nat := 0
  /-- D00 to D23 that differ from an absent drive, by index -/
  drives : NMap Drive := []
  crown : Crown := {}
  bark : Bark := {}
  canopy : Canopy := {}
  /-- sub-ports by egress point 0 to 33 -/
  ports : NMap Port := []
  mmac : Mmac := {}
  time : Timebase := {}
  ring : Ring := {}
  pith : Pith := {}
  sap : Sap := {}
  seed : Seed := {}
  /-- event sources that differ from a fresh one, by number -/
  evt : NMap Src := []
  /-- fixed ALERT_N causes (Table 19.2): pins 0 to 2 -/
  alertFixed : List Bool := [false, false, false]
  tally : Tally := {}
  dram : Dram := {}
  /-- 2-bit states of the die links L0 to L11 (R13): 0 down, 1 training, 2 up, 3 reduced -/
  links : List (BitVec 2) := [0, 0, 0, 0, 0, 0, 0, 0, 0, 0, 0, 0]
  /-- when each die link began the retrain that runs (R12) -/
  linkAt : List Nat := [0, 0, 0, 0, 0, 0, 0, 0, 0, 0, 0, 0]
  /-- TEST_BIST: DONE and PASS, bit per die -/
  bistDone : BitVec 6 := 0#6
  bistPass : BitVec 6 := 0#6
  sideband : Sideband := {}
  media : Media := {}
  /-- Asynchronous Event Requests that have an event to report and are about to complete (R395), in order -/
  aerDue : List Nat := []
  /-- counter of the free values (the model's own, spec says nothing): see Config -/
  fresh : Nat := 0
  /-- value returned by the last register read, on its path (an output) -/
  readData : W32 := 0#32
  /-- frames sent, newest first (an output) -/
  out : List Sent := []
  /-- Register Access responses, newest first (an output) -/
  ra : List RaResponse := []
  /-- commands waiting, first in, first out -/
  pending : List Instr := []
  deriving DecidableEq, Repr

/-- Reasons for which a command could stop the machine. The spec gives every command an effect, so none does.
 [DEDUCED, log entry 21] -/
inductive Fault where
  /-- Raised by no command: the EV9624 reports its faults through events, statuses and states (safe). -/
  | deviceFault
  deriving DecidableEq, Repr

/-- Reasons for which a command has no meaning in the model. [DEDUCED, log entry 21] -/
inductive Refusal where
  /-- Raised by an arm of `exec` whose command has no meaning yet; no arm raises it when the model is whole (safe). -/
  | notModelled (mnemonic : String)
  deriving DecidableEq, Repr

/-- The machine right after reset (R346): every register at its reset value (`Regs` lists nothing), every buffer,
table and queue empty, RESET_N still low (phase `reset` of Table 16.3), the media blank.
 [DESIGN CHOICE, log entry 12; DESIGN CHOICE, log entry 13] -/
def State.reset : State := {}

end Sys2Proof.Machine
end

