-- ==== Sys2Proof/Machine/Ops.lean ====
section
/-!
DEFINITION. The lowest named operations: registers in force and their shadow, time, free values, block
counters, and lookups of the parts of the state.
-/

namespace Sys2Proof.Machine

/-! ### Registers -/

/-- Value in force of the register at a (virtual) address. -/
def Regs.get (r : Regs) (a : Nat) : W32 := NMap.getD r.val a (resetOf a)

/-- Set the value in force; a value equal to the reset value is not listed. -/
def Regs.put (r : Regs) (a : Nat) (v : W32) : Regs :=
  { r with val := if v == resetOf a then NMap.erase r.val a else NMap.set r.val a v }

/-- Shadow copy of a register with class C fields (R380). -/
def Regs.getShadow (r : Regs) (a : Nat) : W32 := NMap.getD r.shadow a (resetOf a)

/-- Set the shadow copy. -/
def Regs.putShadow (r : Regs) (a : Nat) (v : W32) : Regs :=
  { r with shadow := if v == resetOf a then NMap.erase r.shadow a else NMap.set r.shadow a v }

/-- The canonical form of the register memory: keys rising, and nothing listed that equals its reset value. -/
def Regs.wf (r : Regs) : Bool :=
  NMap.sorted r.val && r.val.all (fun p => p.2 != resetOf p.1)
    && NMap.sorted r.shadow && r.shadow.all (fun p => p.2 != resetOf p.1)

/-- Value in force. -/
def State.reg (s : State) (a : Nat) : W32 := s.regs.get a

/-- Field [hi:lo] in force. -/
def State.fld (s : State) (a hi lo : Nat) : Nat := bits (s.reg a) hi lo

/-- One-bit field in force. -/
def State.flag (s : State) (a i : Nat) : Bool := bit (s.reg a) i

/-- Set a value in force. -/
def State.setReg (s : State) (a : Nat) (v : W32) : State := { s with regs := s.regs.put a v }

/-- Virtual address of a register behind a window (see `Regs`). -/
def virt (a sel : Nat) : Nat := a + 2 ^ 32 * (sel + 1)

/-- Is the block of this base enabled (ENABLE at offset 0x0000, bit 0)? -/
def State.on (s : State) (base : Nat) : Bool := s.flag base 0

/-! ### Named configuration -/

/-- XYLEM_MPL.MPL in ns (R48), within the hardware's 0.25 to 64 ms (R6). [DESIGN CHOICE, log entry 90] -/
def State.mpl (s : State) : Nat := min 64000 (max 250 (s.fld 0x10000008 16 0)) * 1000

/-- The station's endpoint ID (Table 2.16). -/
def State.stationEp (s : State) : W32 := s.reg 0x10000018

/-- RTO_BASE and RTO_MAX in ns (R41). -/
def State.rtoBase (s : State) : Nat := s.fld 0x1000000C 15 0 * 1000
def State.rtoMax (s : State) : Nat := s.fld 0x1000000C 31 16 * 1000

/-- RETRY_LIMIT, 0 treated as 1 (Table 2.14). -/
def State.retryLimit (s : State) : Nat := max 1 (s.fld 0x10000010 19 16)

/-! ### Time (log entry 1) -/

/-- Is the Timebase running (TIME_CTRL.ENABLE)? -/
def State.tbOn (s : State) : Bool := s.flag 0x17000000 0

/-- TIME_ADDEND, clamped (R248). -/
def State.addend (s : State) : Int :=
  let a := sInt 32 (s.reg 0x17000010).toNat
  if a > 4294967 then 4294967 else if a < -4294967 then -4294967 else a

/-- `d` cycles of the Timebase clock: each adds 1 ns plus TIME_ADDEND × 2^-32 ns (R248). -/
def Timebase.run (t : Timebase) (addend : Int) (d : Nat) : Timebase :=
  let total : Int := t.frac + (d : Int) * (2 ^ 32 + addend)
  let whole := (total / 2 ^ 32).toNat
  { t with frac := (total % 2 ^ 32).toNat
           ns := (t.ns + whole) % 1000000000
           sec := (t.sec + (t.ns + whole) / 1000000000) % 2 ^ 48 }

/-- Eighths of full rate at which a die's core logic runs (R333: the lower of droop and thermal slowing). -/
def State.dieRate (s : State) (die : Nat) : Nat :=
  let floorD := if die == 0 then s.fld 0x0200000C 11 8 else if die == 5 then s.fld 0x0200000C 19 16
    else s.fld 0x0200000C 15 12
  let d := if nth s.sap.slowed die false then floorD else 8
  min d (nth s.sap.therm die 8)

/-- Core logic clock of a die, in 100 MHz (Table 1.6): Crown, the Bough engines, Pith. [DEDUCED, log entry 72] -/
def dieClock (die : Nat) : Nat := if die == 0 then 16 else if die == 5 then 12 else 20

/-- Cycles skipped in `d` ns on the dies slowed by droop, in eightieths (R335). [DEDUCED, log entry 72] -/
def State.skipped (s : State) (d : Nat) : Nat :=
  ((List.range 6).map fun i => if nth s.sap.slowed i false then d * dieClock i * (8 - s.dieRate i) else 0).sum

/-- Let `d` nanoseconds pass: the clocks count (R248, R399), nothing else happens. [DESIGN CHOICE, log entry 1] -/
def State.advance (d : Nat) (s : State) : State :=
  { s with
    now := s.now + d
    time := if s.tbOn then s.time.run s.addend d else s.time
    sap := { s.sap with skip := s.sap.skip + s.skipped d }
    boughCycles := (List.range 4).map fun k => nth s.boughCycles k 0 + 2 * d * s.dieRate (k + 1) }

/-- Let time pass up to `t`, if it lies ahead. [DESIGN CHOICE, log entry 1] -/
def State.until (t : Nat) (s : State) : State := if s.now < t then s.advance (t - s.now) else s

/-- The Timebase time as recorded: 64-bit ns, 0 while it does not run (R248). [DESIGN CHOICE, log entry 1] -/
def State.tb (s : State) : Nat :=
  if s.tbOn then (s.time.sec * 1000000000 + s.time.ns) % 2 ^ 64 else 0

/-! ### Free values (log entry 2) -/

/-- A free value below `n` (0 where n is 0), and the state with the counter advanced. [DESIGN CHOICE, log entry 2] -/
def State.draw (s : State) (n : Nat) : Nat × State :=
  (if n == 0 then 0 else Config.free s.fresh % n, { s with fresh := s.fresh + 1 })

/-! ### Resources of Sap (R332) -/

/-- State of a power-managed resource of Sap: 0 engines, 0x100 + port, 0x200 + drive. -/
def State.resSt (s : State) (k : Nat) : ResSt := NMap.getD s.sap.res k {}

/-- The work of a resource is over: its idle time counts from now (R332). [DEDUCED, log entry 71] -/
def State.restFrom (k : Nat) (s : State) : State :=
  { s with sap := { s.sap with res := NMap.set s.sap.res k { s.resSt k with idle := s.now } } }

/-! ### Block counters (R396) -/

/-- Add to block counter `c` of a bank: 48 bits, wrapping. -/
def State.count (s : State) (bank c k : Nat) : State :=
  { s with tally := { s.tally with
      ctr := NMap.set s.tally.ctr (bank * 16 + c) ((NMap.getD s.tally.ctr (bank * 16 + c) 0 + k) % 2 ^ 48) } }

/-- Value of block counter `c` of a bank; Sap's counter 1 counts the skipped cycles (R342), DRAM's 3 and 4 its traffic
(R387). -/
def State.counter (s : State) (bank c : Nat) : Nat :=
  if bank == 118 && (c == 3 || c == 4) then Config.dramBytes (c == 4) s.now % 2 ^ 48
  else if bank == 2 && c == 1 then s.sap.skip / 80 % 2 ^ 48 else NMap.getD s.tally.ctr (bank * 16 + c) 0

/-- Cycle counter of an engine, in eighths of a cycle: it stands while the engine is parked (R399).
 [DEDUCED, log entry 56] -/
def State.cycles8 (s : State) (e : Nat) : Nat :=
  let t := NMap.getD s.twigs e {}
  t.cycHeld.getD (nth s.boughCycles (e / 16) 0 - t.cycOut)

/-! ### Lookup of parts with defaults -/

def State.twig (s : State) (e : Nat) : Twig := NMap.getD s.twigs e {}
def State.setTwig (s : State) (e : Nat) (t : Twig) : State := { s with twigs := NMap.set s.twigs e t }
def State.drive (s : State) (d : Nat) : Drive := NMap.getD s.drives d {}
def State.setDrive (s : State) (d : Nat) (v : Drive) : State := { s with drives := NMap.set s.drives d v }
def State.port (s : State) (p : Nat) : Port := NMap.getD s.ports p {}
def State.setPort (s : State) (p : Nat) (v : Port) : State := { s with ports := NMap.set s.ports p v }
def State.grove? (s : State) (g : Nat) : Option Grove := NMap.get? s.groves g
def State.setGrove (s : State) (g : Nat) (v : Grove) : State := { s with groves := NMap.set s.groves g v }
def State.modGrove (s : State) (g : Nat) (f : Grove → Grove) : State := { s with groves := NMap.modify s.groves g f }
def State.sess? (s : State) (i : Nat) : Option Session := NMap.get? s.bud.sess i
def State.setSess (s : State) (i : Nat) (v : Session) : State :=
  { s with bud := { s.bud with sess := NMap.set s.bud.sess i v } }
def State.modSess (s : State) (i : Nat) (f : Session → Session) : State :=
  { s with bud := { s.bud with sess := NMap.modify s.bud.sess i f } }
def State.qp? (s : State) (q : Nat) : Option Qp := NMap.get? s.bud.qps q
def State.setQp (s : State) (q : Nat) (v : Qp) : State := { s with bud := { s.bud with qps := NMap.set s.bud.qps q v } }
def State.modQp (s : State) (q : Nat) (f : Qp → Qp) : State :=
  { s with bud := { s.bud with qps := NMap.modify s.bud.qps q f } }
def State.cmd? (s : State) (t : Nat) : Option Cmd := NMap.get? s.bud.cmds t
def State.setCmd (s : State) (t : Nat) (c : Cmd) : State :=
  { s with bud := { s.bud with cmds := NMap.set s.bud.cmds t c } }
def State.modCmd (s : State) (t : Nat) (f : Cmd → Cmd) : State :=
  { s with bud := { s.bud with cmds := NMap.modify s.bud.cmds t f } }
def State.desc? (s : State) (r : Nat) : Option Desc := NMap.get? s.xylem.descs r
def State.setDesc (s : State) (r : Nat) (d : Desc) : State :=
  { s with xylem := { s.xylem with descs := NMap.set s.xylem.descs r d } }
def State.modDesc (s : State) (r : Nat) (f : Desc → Desc) : State :=
  { s with xylem := { s.xylem with descs := NMap.modify s.xylem.descs r f } }
def State.piece? (s : State) (p : Nat) : Option Piece := NMap.get? s.pieces p
def State.setPiece (s : State) (p : Nat) (v : Piece) : State := { s with pieces := NMap.set s.pieces p v }
def State.src (s : State) (n : Nat) : Src := NMap.getD s.evt n {}

end Sys2Proof.Machine
end

