-- ==== Sys2Proof/Machine/Routes.lean ====
section
/-!
DEFINITION. The routes between the dies over the die links L0 to L11 (spec/01: R8, R9, R12). A die is numbered as Table 18.1's
CHIP does: 0 the Trunk die, 1 to 4 Boughs B0 to B3, 5 the Root die. What a message may not cross now waits in a replay buffer,
so the command that it brings about comes later (log entry 89).
-/

namespace Sys2Proof.Machine

/-- State of a die link. -/
def State.link (s : State) (l : Nat) : BitVec 2 := nth s.links l 0#2

/-- Put a link into a state. -/
def State.setLink (l : Nat) (v : BitVec 2) (s : State) : State := { s with links := setNth s.links l v }

/-- The link of the Bough ring from Bough `k` to the next in rising index: L8 to L11. -/
def ringLink (k : Nat) : Nat := 8 + k % 4

/-- The way round the ring from Bough `a` to Bough `b` in the direction of rising index. -/
def risingWay (a b : Nat) : List Nat := (List.range ((b + 4 - a % 4) % 4)).map fun i => ringLink (a + i)

/-- The way round in the direction of falling index. -/
def fallingWay (a b : Nat) : List Nat := (risingWay b a).reverse

/-- The way R9 chooses first: the shorter one, to the opposite Bough the rising one; then the other. -/
def ringWays (a b : Nat) : List (List Nat) :=
  if (b + 4 - a % 4) % 4 ≤ 2 then [risingWay a b, fallingWay a b] else [fallingWay a b, risingWay a b]

/-- Is no link of a way down? -/
def State.wayUp (s : State) (w : List Nat) : Bool := w.all fun l => s.link l != 0#2

/-- The route between two Boughs (R9, R12): a down ring link sends the traffic the other way round.
 [DESIGN CHOICE, log entry 89] -/
def State.boughRoute (s : State) (a b : Nat) : Option (List Nat) := (ringWays a b).find? s.wayUp

/-- The route from Bough `k` to the Trunk die (`base` 0) or the Root die (`base` 4): its own link, or over the ring to the next
Bough in rising index whose link is not down, and over that link (R12). [DESIGN CHOICE, log entry 89] -/
def State.dieRoute (s : State) (base k : Nat) : Option (List Nat) :=
  ((List.range 4).filterMap fun i =>
    let b := (k + i) % 4
    if s.link (base + b) == 0#2 then none else (s.boughRoute k b).map (· ++ [base + b])).head?

/-- The Bough through which traffic between the Trunk die and the Root die passes: the one whose engine owns the command, or
B0 for traffic that no engine owns (R8); the next in rising index where that one reaches one of them no more.
 [DESIGN CHOICE, log entry 89] -/
def State.crossRoute (s : State) (k : Nat) : Option (List Nat) :=
  ((List.range 4).filterMap fun i =>
    match s.dieRoute 0 ((k + i) % 4), s.dieRoute 4 ((k + i) % 4) with
    | some t, some r => some (t ++ r)
    | _, _ => none).head?

/-- The links that traffic from die `a` to die `b` crosses, `k` being the Bough of the engine that owns it; none where no
route is left. -/
def State.dieWay (s : State) (k a b : Nat) : Option (List Nat) :=
  if a == b then some []
  else if a == 0 && b == 5 || a == 5 && b == 0 then s.crossRoute k
  else if a == 0 then s.dieRoute 0 (b - 1)
  else if a == 5 then s.dieRoute 4 (b - 1)
  else if b == 0 then s.dieRoute 0 (a - 1)
  else if b == 5 then s.dieRoute 4 (a - 1)
  else s.boughRoute (a - 1) (b - 1)

/-- Does traffic between two dies pass now: there is a route, and no link of it trains (R12)?
 [DESIGN CHOICE, log entry 89] -/
def State.flowsVia (s : State) (k a b : Nat) : Bool := (s.dieWay k a b).any fun w => w.all fun l => s.link l != 1#2

/-- The same for traffic that starts or ends on a Bough, or that no engine owns. -/
def State.flows (s : State) (a b : Nat) : Bool := s.flowsVia 0 a b

/-- The die of an engine and of a drive port (R7). -/
def engineDie (e : Nat) : Nat := e / 16 + 1
def driveDie (d : Nat) : Nat := d / 6 + 1

/-- The die that holds a register block (Table 1.1); a block with a part on each die is reached on the Root die.
 [DESIGN CHOICE, log entry 89] -/
def blockDie (a : Nat) : Nat :=
  match a / 0x1000000 with
  | 9 => 0 | 14 => 0 | 16 => 0 | 17 => 0 | 18 => 0 | 19 => 0 | 20 => 0 | 21 => 0 | 22 => 0 | 23 => 0
  | 10 => engineDie (a % 0x1000000 / 0x40000)
  | 15 => driveDie (a % 0x1000000 / 0x80000)
  | _ => 5

/-- Does a register access pass: from the requester's die to the register bridge on the Root die (R371), and from there to the
register's die? [DESIGN CHOICE, log entry 89] -/
def State.bridges (s : State) (path : Path) (a : Nat) : Bool :=
  s.flows (match path with | .frame => 0 | _ => if s.pith.activeB then 5 else 0) 5 && s.flows 5 (blockDie a)

end Sys2Proof.Machine
end

