-- ==== Sys2Proof/Machine/Flags.lean ====
section
/-!
DEFINITION. The status and interrupt flags: raising an event source, its delivery to hosts and their log (R391 to R395),
and the record of a rejected write (R385).
-/

namespace Sys2Proof.Machine

/-! ### Events -/

/-- Event sources named by block (Table 19.1): 64 × group + bit. -/
def evSrc (group b : Nat) : Nat := 64 * group + b

/-- EVT_ROUTE of a group. -/
def State.route (s : State) (g : Nat) : W32 := s.reg (0x03002000 + 4 * g)

/-- EN bit of a source. -/
def State.evEn (s : State) (n : Nat) : Bool :=
  s.flag (0x03001000 + 16 * (n / 64) + (if n % 64 < 32 then 8 else 12)) (n % 32)

/-- Is the source delivered to a route bit (8 HOST, 0 PITH, 4 to 7 ALERT), were it pending (R393)? -/
def State.routed (s : State) (n rb : Nat) : Bool := s.evEn n && s.on 0x03000000 && bit (s.route (n / 64)) rb

/-- Scope of an event (R394): 0 station, 1 namespace, 2 session. [DEDUCED, log entry 7] -/
def scopeOf (n : Nat) : Nat :=
  if 512 ≤ n && n < 768 || n == evSrc 5 8 then 1
  else if n == evSrc 4 16 || n == evSrc 4 19 || n == evSrc 4 20 || n == evSrc 4 21 || n == evSrc 4 1 || n == evSrc 4 2
    || n == evSrc 4 4 || n == evSrc 6 34 || n == evSrc 6 35 || n == evSrc 6 36 || n == evSrc 6 24 then 2
  else 0

/-- Log page that an event names (R395). -/
def pageOf (n : Nat) : Nat :=
  if n == evSrc 4 19 then 0xC0 else if 512 ≤ n && n < 768 && n % 64 == 8 then 0xC2 else 0xC3

/-- The sessions attached to a namespace of a grove. -/
def State.groveUsers (s : State) (g : Nat) : List Nat :=
  ((s.heart.ns.filter fun p => p.2.grove == g).flatMap fun p => p.2.attached).eraseDups

/-- The sessions attached to a namespace. -/
def State.nsUsers (s : State) (n : Nat) : List Nat := (NMap.get? s.heart.ns n).elim [] (·.attached)

/-- The sessions in an event's scope (R394): bit 31 of their Asynchronous Event Configuration is asked for all but
bud.qp_error and grove.data_lost. heartwood.map_lost carries no grove: it reaches every attached session (log entry 7).
 [DEDUCED, log entry 7] -/
def State.audience (s : State) (n : Nat) (detail : W32) : List Nat :=
  let open_ := s.bud.sess.filter fun p => p.2.st != .opening
  let inScope : Nat → Session → Bool := fun i x =>
    match scopeOf n with
    | 2 => i == bits detail 11 0
    | 1 => if n == evSrc 5 8 then s.heart.ns.any (fun q => q.2.attached.contains i)
           else if pageOf n == 0xC2 then (s.nsUsers detail.toNat).contains i
           else (s.groveUsers (n / 64 - 8)).contains i
    | _ => x.priv
  (open_.filter fun p => inScope p.1 p.2 && (bit p.2.aec 31 || pageOf n == 0xC0 || pageOf n == 0xC2)).map (·.1)

/-- Outstanding Asynchronous Event Requests of a session, oldest first. -/
def State.aers (s : State) (sid : Nat) : List Nat :=
  (s.bud.cmds.filter fun p => p.2.sid == sid && p.2.admin && p.2.opc == 0x0C && p.2.status.isNone
    && p.2.stage == .running).map (·.1)

/-- An Asynchronous Event Request of the session completes if an unreported entry's page is free to be named (R395). -/
def State.tryAer (sid : Nat) (s : State) : State :=
  match s.aers sid, s.sess? sid with
  | t :: _, some x =>
    let log := NMap.getD s.bud.hostLog sid {}
    match log.entries.find? fun e => !e.reported && !x.namedPages.contains e.page with
    | none => s
    | some e =>
      let dw0 := w32 (7 + place (e.source / 64) 8 8 + place e.page 16 8)
      let log := { log with entries := log.entries.map fun f => if f.page == e.page then { f with reported := true } else f }
      let s := (s.modCmd t fun c => { c with status := some { sct := 0, sc := 0, dw0 := dw0 } }).modSess sid
        fun x => { x with namedPages := x.namedPages ++ [e.page] }
      { s with bud := { s.bud with hostLog := NMap.set s.bud.hostLog sid log }, aerDue := s.aerDue ++ [t] }
  | _, _ => s

/-- Put an entry into a session's Host Event Log: the oldest of a full page is dropped (Table 19.3). -/
def HostLog.add (l : HostLog) (e : HostEntry) : HostLog :=
  let es := l.entries ++ [e]
  { l with entries := if es.length > 256 then es.drop 1 else es, total := l.total + 1 }

/-- A Host Event Log entry of a source (Table 19.3). -/
def mkEntry (n cnt time : Nat) (detail : W32) : HostEntry :=
  { time := time, source := n, count := cnt, scope := scopeOf n, detail := detail, page := pageOf n }

/-- One delivery of a source to one session (R395): an entry, or a count until the gap since its last entry is over.
 [DEDUCED, log entry 77] -/
def State.tell (n cnt : Nat) (time : Nat) (detail : W32) (s : State) (sid : Nat) : State :=
  let log := NMap.getD s.bud.hostLog sid {}
  let gap := s.fld 0x0300001C 15 0 * 1000000
  match NMap.get? log.gaps n with
  | some (last, k, _, _) =>
    if s.now < last + gap then
      let log := { log with gaps := NMap.set log.gaps n (last, satAdd k cnt 255, time, detail) }
      { s with bud := { s.bud with hostLog := NMap.set s.bud.hostLog sid log } }
    else
      let log := log.add (mkEntry n (min 255 (k + cnt)) time detail)
      let log := { log with gaps := NMap.set log.gaps n (s.now, 0, 0, 0#32) }
      State.tryAer sid { s with bud := { s.bud with hostLog := NMap.set s.bud.hostLog sid log } }
  | none =>
    let log := log.add (mkEntry n (min 255 cnt) time detail)
    let log := { log with gaps := NMap.set log.gaps n (s.now, 0, 0, 0#32) }
    State.tryAer sid { s with bud := { s.bud with hostLog := NMap.set s.bud.hostLog sid log } }

/-- Are host deliveries possible: not in recovery (R362), not during a power-fail flush (R395)? -/
def State.hostOk (s : State) : Bool := s.seed.boot != .recovery && s.sap.flush.isNone

/-- Deliver a pending source to hosts where its route allows it (R393, R394), `cnt` raises at once. -/
def State.deliver (n cnt : Nat) (s : State) : State :=
  if s.routed n 8 && s.hostOk then
    let x := s.src n
    let s := { s with evt := NMap.set s.evt n { x with told := true } }
    (s.audience n x.detail).foldl (State.tell n cnt x.time x.detail) s
  else s

/-- Raise a source (R391): PEND, RAISES saturating at 255, the Timebase time, DETAIL; then deliver it. -/
def State.raise (n : Nat) (detail : W32) (s : State) : State :=
  let x := s.src n
  let y : Src := { pend := true, raises := satAdd x.raises 1 255, time := s.tb, detail := detail, told := false }
  State.deliver n 1 { s with evt := NMap.set s.evt n y }

/-- Raise a source whose DETAIL is 0 (R392). -/
def State.raise0 (group b : Nat) (s : State) : State := s.raise (evSrc group b) 0#32

/-- DETAIL of a session event (R392). -/
def sessDetail (sid : Nat) (qpid : Option Nat) : W32 :=
  match qpid with
  | some q => w32 (sid % 4096 + (q % 16384) * 4096 + 2 ^ 26)
  | none => w32 (sid % 4096)

/-- DETAIL of an event of groups 8 to 11 (R392). -/
def groveDetail (slot drive : Nat) : W32 := w32 (slot % 32 + (drive % 32) * 256)

/-- A write or commit was rejected or refused (R381, R385): CHIP_VIOL_ADDR, CHIP_VIOL_INFO. -/
def State.violation (s : State) (a : Nat) (path : Path) (kind : Nat) (ev : Bool) : State :=
  let p := match path with | .frame => 0 | .admin => 1 | .pith => 2
  let s := { s with regs := { s.regs with violAddr := w32 a, violPath := p, violKind := kind,
                                          violCount := (s.regs.violCount + 1) % 65536 } }
  if ev then s.raise0 0 0 else s

end Sys2Proof.Machine
end

