-- ==== Sys2Proof/Machine/Gcm.lean ====
section
/-!
DEFINITION. Bark's tag (spec/11, R262): the Ahnath header as bytes (Table 2.2), GHASH of NIST SP 800-38D, and the
AES-256 GMAC over them. The AES block itself is `Config.aes256`.
-/

namespace Sys2Proof

open Sys2Proof.Machine

/-- The 48 bytes of an Ahnath header (Table 2.2). -/
def Pkt.header (p : Pkt) : List Byte :=
  beBytes 1 (p.ver.toNat * 16 + p.op.toNat) ++ beBytes 1 p.flags.toNat ++ beBytes 2 p.keyIndex.toNat
  ++ beBytes 4 p.dstEp.toNat ++ beBytes 4 p.srcEp.toNat ++ beBytes 8 p.reqId.toNat ++ beBytes 4 p.region.toNat
  ++ beBytes 2 p.gen.toNat ++ beBytes 6 p.offset.toNat ++ beBytes 2 p.length.toNat ++ beBytes 2 p.hops.toNat
  ++ beBytes 8 p.nonce.toNat ++ beBytes 4 p.aux.toNat

/-- INT of FLAGS (R23). -/
def Pkt.int (p : Pkt) : Bool := p.flags.toNat / 128 % 2 == 1

/-- AR of FLAGS (R23). -/
def Pkt.ar (p : Pkt) : Bool := p.flags.toNat / 32 % 2 == 1

/-- The session that KEY_INDEX names (R31). -/
def Pkt.sid (p : Pkt) : Nat := p.keyIndex.toNat / 2

/-- Multiplication in GF(2^128) of GHASH: `k` bits of `x` left, from its most significant one. -/
def gfLoop : Nat → BitVec 128 → BitVec 128 → BitVec 128 → BitVec 128
  | 0, _, _, z => z
  | k + 1, x, v, z =>
    gfLoop k (x <<< 1) ((v >>> 1) ^^^ (if v.getLsbD 0 then 0xE1#128 <<< 120 else 0#128))
      (if x.getLsbD 127 then z ^^^ v else z)

/-- Product in GF(2^128) (SP 800-38D). -/
def gfMul (x y : BitVec 128) : BitVec 128 := gfLoop 128 x y 0#128

/-- Cut bytes into 16-byte blocks, the last padded with zero bytes; `fuel` bounds their number. -/
def blocks16 : Nat → List Byte → List (BitVec 128)
  | 0, _ => []
  | _, [] => []
  | k + 1, l => BitVec.ofNat 128 (beNat (fitBytes 16 (l.take 16))) :: blocks16 k (l.drop 16)

/-- GHASH over the blocks. -/
def ghash (h : BitVec 128) (bs : List (BitVec 128)) : BitVec 128 :=
  bs.foldl (fun y b => gfMul (y ^^^ b) h) 0#128

/-- AES-256 GMAC over bytes, under key, 32-bit salt and 64-bit NONCE (R262). -/
def gmac (key : BitVec 256) (salt : BitVec 32) (nonce : W64) (a : List Byte) : BitVec 128 :=
  let h := Config.aes256 key 0#128
  let len := BitVec.ofNat 128 (a.length * 8 * 2 ^ 64)
  let j0 := BitVec.ofNat 128 (salt.toNat * 2 ^ 96 + nonce.toNat * 2 ^ 32 + 1)
  ghash h (blocks16 (a.length + 1) a ++ [len]) ^^^ Config.aes256 key j0

/-- Tag of a packet: header with HOPS taken as 0, then payload (R30, R262). -/
def Pkt.mac (p : Pkt) (key : BitVec 256) (salt : BitVec 32) : BitVec 128 :=
  gmac key salt p.nonce ((Pkt.header { p with hops := 0#16 }) ++ p.payload)

end Sys2Proof
end

