-- ==== Sys2Proof/Machine/Net.lean ====
section
/-!
DEFINITION. Operations of the network side that every sender and receiver shares: ports and their classes (spec/10),
the forwarding lookup (R222, R223), admission (R226), Bark's tagging (R263 to R267), and sending one packet.
-/

namespace Sys2Proof.Machine

/-! ### Ports -/

/-- Base of the FMAC-layout window that an egress point 0 to 33 belongs to (R238, Table 18.1).
 [DEDUCED, log entry 81] -/
def portBase (p : Nat) : Nat :=
  if p < 32 then 0x14000000 + p / 4 * 0x200000 else 0x15000000 + (p - 32) * 0x100000

/-- Address of FMAC_SUB_CFG of a sub-port, EAST or WEST. -/
def subBase (p : Nat) : Nat := portBase p + 0x1000 + (if p < 32 then p % 4 * 0x1000 else 0)

/-- Crown port index of an egress point (Table 9.1, R217). [DEDUCED, log entry 81] -/
def crownPort (p : Nat) : Nat := if p < 32 then p / 4 else p - 24

/-- Sub-ports that the mode of a fabric port provides (Table 10.1). -/
def State.subPorts (s : State) (f : Nat) : Nat :=
  match s.fld (0x14000004 + f * 0x200000) 1 0 with
  | 0 => 1 | 1 => 2 | 2 => 4 | _ => 0

/-- Does the sub-port exist in the present mode, its port enabled (R239)? MGMT: enabled, or in recovery (R358). -/
def State.portOn (s : State) (p : Nat) : Bool :=
  if p < 32 then s.on (portBase p) && p % 4 < s.subPorts (p / 4)
  else if p < 34 then s.on (portBase p)
  else if p == 34 then s.on 0x16000000 || s.seed.boot == .recovery
  else false

/-- CLASS of a port as it counts (Table 10.3): 0 CLOSED where it does not exist. -/
def State.portClass (s : State) (p : Nat) : Nat :=
  if !s.portOn p then 0
  else if p == 34 then (if s.seed.boot == .recovery then 2 else s.fld 0x16000000 9 8)
  else if s.seed.boot == .recovery then 0
  else s.fld (subBase p) 31 30

/-- MGMT runs with AUTO_POLL: MMAC_CTRL.AUTO_POLL, and always in recovery (R255, R358). [DEDUCED, log entry 9] -/
def State.autoOn (s : State) : Bool := s.flag 0x16000000 1 || s.seed.boot == .recovery

/-- Rate of an egress point in Mb/s (Tables 9.1, 10.1, R255). [DEDUCED, log entry 9] -/
def State.portMbps (s : State) (p : Nat) : Nat :=
  if p < 32 then (match s.fld (0x14000004 + p / 4 * 0x200000) 1 0 with | 0 => 800000 | 1 => 400000 | _ => 200000)
  else if p < 34 then 800000
  else if p == 34 then
    (match (if s.autoOn then s.mmac.speed else s.fld 0x16000004 1 0) with | 0 => 10 | 1 => 100 | _ => 1000)
  else if p == 35 then 25000 else 1600000

/-- The same in the 100 Mb/s units of the rate table, in which MGMT at 10 Mb/s counts as 1 (log entry 9).
 [DEDUCED, log entry 9] -/
def State.portRate (s : State) (p : Nat) : Nat := ceilDiv (s.portMbps p) 100

/-- Is a ring port taken as down for forwarding (R290)? -/
def State.ringDown (s : State) (p : Nat) : Bool :=
  let m := s.fld 0x15200000 1 0
  let n := if p == 32 then s.ring.east else s.ring.west
  (m == 1 || m == 2) && (!n.live || n.state == 4#16 || n.conflict)

/-- Is the port down for forwarding (R240, R290)? -/
def State.portDown (s : State) (p : Nat) : Bool :=
  if p < 34 then !(s.port p).up || (p ≥ 32 && s.ringDown p) else false

/-- Address of MAC_LO of a port (Tables 10.6, 10.7). -/
def addrBase (p : Nat) : Nat := if p == 34 then 0x16000104 else subBase p + 4

/-- MAC address of a port (R247). -/
def State.portMac (s : State) (p : Nat) : BitVec 48 :=
  BitVec.ofNat 48 ((s.fld (addrBase p + 4) 15 0) * 2 ^ 32 + (s.reg (addrBase p)).toNat)

/-- Recovery address of MGMT (R358). -/
def recoveryMac : BitVec 48 := BitVec.ofNat 48 (0x02 * 2 ^ 40 + Config.chipSerial.toNat % 2 ^ 40)

/-- IPv4 or IPv6 address of a port (R247). -/
def State.portIp (s : State) (p : Nat) (v6 : Bool) : BitVec 128 :=
  if v6 then BitVec.ofNat 128 ((List.range 4).foldl (fun n i => n * 2 ^ 32 + (s.reg (addrBase p + 12 + 4 * i)).toNat) 0)
  else BitVec.ofNat 128 (s.reg (addrBase p + 8)).toNat

/-- Count an indication kind of a port (Table 10.2, R244): the 2-bit field saturates, the block counter counts. -/
def State.indicate (s : State) (p kind : Nat) : State :=
  let bump : NMap Nat → NMap Nat := fun m => NMap.set m kind (min 3 (NMap.getD m kind 0 + 1))
  if p == 34 then ({ s with mmac := { s.mmac with ind := bump s.mmac.ind } }).count 116 kind 1
  else if p < 34 then
    (s.setPort p { s.port p with ind := bump (s.port p).ind }).count (if p < 32 then 106 + p / 4 else 82 + p) kind 1
  else s

/-- Traffic class that an arriving frame takes (R234, R247). -/
def State.arriveTc (s : State) (p : Nat) (f : Frame) : Nat :=
  let cfg := if p == 34 then s.reg 0x16000100 else s.reg (subBase p)
  match f.vlan with
  | [] => bits cfg 26 24
  | v :: _ => let pcp := v.toNat / 2 ^ 13; bits cfg (3 * pcp + 2) (3 * pcp)

/-! ### Frame lengths -/

/-- Frame bytes of an Ahnath packet from the destination address through the FCS (Table 2.1). -/
def frameLen (tagged v6 int : Bool) (payload : Nat) : Nat :=
  14 + (if tagged then 4 else 0) + (if v6 then 40 else 20) + 8 + 48 + payload + (if int then 16 else 0) + 4

/-- Cells a frame takes in the shared buffer, in bytes (R218, R231: a copy of a shared payload takes one). -/
def QFrame.cells (q : QFrame) : Nat := if q.shared.isSome then 256 else ceilDiv q.frame.len 256 * 256

/-! ### Shared buffer (R225, R226) -/

/-- Bytes waiting in an egress queue. -/
def State.queueBytes (s : State) (q : Nat) : Nat := ((NMap.getD s.crown.queues q []).map (·.frame.len)).sum

/-- MIN_KIB in bytes. -/
def State.minBytes (s : State) : Nat := s.fld 0x13000004 8 0 * 1024

/-- Size of the shared pool in bytes with the given MIN_KIB and ANS_MIB (R225); negative where the pools do not fit. -/
def State.sharedSize (s : State) (minKib : Nat) : Int :=
  ((96 * 1048576 : Nat) : Int) - (s.fld 0x10000014 6 0 * 1048576 : Nat)
    - (max 1 (s.fld 0x13000004 28 24) * 1048576 : Nat) - (320 * minKib * 1024 : Nat)

/-- Every frame that waits in an egress queue or in residue. -/
def State.allFrames (s : State) : List QFrame := s.crown.queues.flatMap (·.2) ++ s.crown.residue.flatMap (·.2)

/-- Does a copy of a shared payload still wait to leave (R231)? -/
def State.copiesWait (s : State) (piece : Nat) : Bool := s.allFrames.any fun f => f.shared == some piece

/-- Cells, in bytes, of shared payloads that the retain pool has released and copies still point at (R231), and of local frames
that wait in the buffer for room in a hold buffer (R264). -/
def State.looseCells (s : State) : Nat :=
  ((s.pieces.filter fun p => s.copiesWait p.1 && !s.xylem.retain.any fun x => x.isShoot && x.id == p.1).map
    fun p => p.2.nb * 4096).sum
  + (s.crown.holdWait.flatMap fun p => p.2.map fun h => ceilDiv h.frame.len 256 * 256).sum

/-- Free bytes of the shared pool: what queues hold above their minimum, answers above their reserve, and loose cells are
taken. -/
def State.sharedFree (s : State) : Nat :=
  let taken := (s.crown.queues.map fun p =>
    ((p.2.filter (fun f => !f.answer)).map (·.cells)).sum - s.minBytes).sum
  let ans := (s.crown.queues.map fun p => ((p.2.filter (·.answer)).map (·.cells)).sum).sum
  ((s.sharedSize (s.fld 0x13000004 8 0)) - (taken : Nat) - (s.looseCells : Nat) - (ans - max 1 (s.fld 0x13000004 28 24) * 1048576 : Nat)).toNat

/-- The admission test of R226 for a frame that is not an answer. -/
def State.admits (s : State) (q : Nat) : Bool :=
  s.queueBytes q < s.minBytes + s.sharedFree * 2 ^ s.fld 0x13000004 18 16 / 16

/-! ### Egress queues and their start tags (R279, R280) -/

/-- Virtual address of CANOPY_SCH_* of an egress point. -/
def State.weightOf (s : State) (point tc : Nat) : Nat :=
  let r := s.reg (virt (if tc < 4 then 0x12000104 else 0x12000108) point)
  bits r (8 * (tc % 4) + 7) (8 * (tc % 4))

/-- STRICT bit of a class; with CANOPY_CTRL.ENABLE 0 every class is served in strict order (Table 12.3). -/
def State.strictOf (s : State) (point tc : Nat) : Bool :=
  !s.on 0x12000000 || bit (s.reg (virt 0x1200010C point)) tc

/-- Length that Canopy charges for a frame (R274). -/
def State.chargeLen (s : State) (len : Nat) : Nat := len + s.fld 0x12000004 5 0

/-- The frame of a queue that starts next: answers first (R279). -/
def headOf (l : List QFrame) : Option QFrame := (l.find? (·.answer)).orElse fun _ => l.head?

/-- Take that frame out. -/
def dropHead (l : List QFrame) : List QFrame :=
  match l.findIdx? (·.answer) with
  | some i => l.eraseIdx i
  | none => l.drop 1

/-- Give the head frame of a weighted class its tags (R280). -/
def State.tagHead (s : State) (point tc : Nat) (wasEmpty : Bool) : State :=
  if s.strictOf point tc then s
  else match headOf (NMap.getD s.crown.queues (point * 8 + tc) []) with
    | none => s
    | some f =>
      let q := NMap.getD s.canopy.sfq point {}
      let st := if wasEmpty then q.v else nth q.f tc 0
      let fin := (st + (s.chargeLen f.frame.len * 256) / max 1 (s.weightOf point tc)) % 2 ^ 64
      { s with canopy := { s.canopy with
          sfq := NMap.set s.canopy.sfq point { q with f := setNth q.f tc fin, s := setNth q.s tc (some st) } } }

/-- Put a frame into its egress queue; a frame that finds it empty is tagged at once. -/
def State.enqueue (s : State) (point tc : Nat) (f : QFrame) : State :=
  let q := point * 8 + tc
  let l := NMap.getD s.crown.queues q []
  let s := { s with crown := { s.crown with queues := NMap.set s.crown.queues q (l ++ [f]) } }
  if l.isEmpty then s.tagHead point tc true else s

/-- Put a copy of a shared payload into the residue of its egress point (R232), or discard it when the list is full. -/
def State.toResidue (s : State) (point : Nat) (f : QFrame) : State :=
  let used := (s.crown.residue.map fun p => p.2.length).sum
  if used ≥ s.fld 0x13000010 17 0 then (s.raise0 6 5).count 105 5 1
  else { s with crown := { s.crown with
           residue := NMap.set s.crown.residue point (NMap.getD s.crown.residue point [] ++ [f]) } }

/-! ### Forwarding lookup -/

/-- Egress point of a Crown port 0 to 10 and sub-port. [DEDUCED, log entry 81] -/
def pointOf (port sub : Nat) : Nat := if port < 8 then 4 * port + sub else 24 + port

/-- Egress point for an endpoint (R222, R223, R233): PORT, or ALT_PORT while PORT is down or is the ring port the frame
came in on; a CLOSED port misses; a host is answered only on a bound port of its session. [DEDUCED, log entry 82] -/
def State.route? (s : State) (bound : Option (List (Option Nat))) (ep : W32) (arrived : Option Nat) :
    Option (Nat × Fwd) :=
  match NMap.get? s.crown.fwd ep.toNat with
  | none => none
  | some e =>
    let cand := [pointOf e.port e.sub] ++ (if e.alt == 0xF then [] else [pointOf e.alt e.altSub])
    let cand := cand.filter fun p => some p != arrived
    match (cand.find? fun p => !s.portDown p).orElse fun _ => cand.head? with
    | none => none
    | some p =>
      if s.portClass p == 0 then none
      else if e.kind == 0 && bound.any (fun l => !l.contains (some p)) then none
      else some (p, e)

/-! ### Tagging (spec/11) -/

/-- Integrity mode of an egress point (Table 11.1), code 3 treated as REQUIRE; BARK disabled tags and checks nothing. -/
def State.barkMode (s : State) (point : Nat) : Nat :=
  if !s.on 0x11000000 then 0
  else min 2 (s.fld 0x11000004 (2 * crownPort point + 1) (2 * crownPort point))

/-- The valid transmit slot of a session, if it has one (R268). -/
def State.txSlot (s : State) (sid : Nat) : Option Nat :=
  match NMap.get? s.bark.tx sid with
  | none => none
  | some i => match NMap.get? s.bark.keys (2 * sid + i) with
    | some k => if k.exhausted then none else some i
    | none => none

/-- Count one packet tagged under a key (R266, R267): low at 15/16, exhausted at the limit, switching to the other slot
where that holds a valid key. -/
def State.spendNonce (sid slot : Nat) (s : State) : State :=
  match NMap.get? s.bark.keys (2 * sid + slot) with
  | none => s
  | some k =>
    let lim := 2 ^ k.limitLog2
    let c := k.cnt + 1
    let k' := { k with cnt := c, low := k.low || c ≥ lim / 16 * 15, exhausted := k.exhausted || c ≥ lim }
    let s := { s with bark := { s.bark with keys := NMap.set s.bark.keys (2 * sid + slot) k' } }
    let s := if k'.low && !k.low then s.raise (evSrc 6 34) (sessDetail sid none) else s
    if k'.exhausted && !k.exhausted then
      let s := s.raise (evSrc 6 35) (sessDetail sid none)
      match NMap.get? s.bark.keys (2 * sid + (1 - slot)) with
      | some o => if o.exhausted then s else
          ({ s with bark := { s.bark with tx := NMap.set s.bark.tx sid (1 - slot) } }).raise (evSrc 6 36) (sessDetail sid none)
      | none => s
    else s

/-- What integrity makes of a packet of the station. -/
inductive Tagged where
  | ready (p : Pkt)
  /-- it must be tagged and the session has no valid transmit slot (R267): the slot named -/
  | refused (slot : Nat)
  deriving DecidableEq, Repr

/-- Tag a packet of a session for an egress point under the port's mode (R263, R266). -/
def State.tagPkt (s : State) (sid point : Nat) (p : Pkt) : Tagged × State :=
  let plain := { p with keyIndex := BitVec.ofNat 13 (2 * sid) }
  match s.barkMode point with
  | 0 => (.ready plain, s)
  | m =>
    match s.txSlot sid with
    | none => if m == 1 then (.ready plain, s) else (.refused ((NMap.get? s.bark.tx sid).getD 0), s)
    | some slot =>
      match NMap.get? s.bark.keys (2 * sid + slot) with
      | none => (.ready plain, s)
      | some k =>
        let q := { p with keyIndex := BitVec.ofNat 13 (2 * sid + slot), nonce := BitVec.ofNat 64 k.cnt
                          flags := p.flags ||| 0x80#8 }
        (.ready { q with tag := q.mac k.key k.salt }, (s.spendNonce sid slot).count 103 0 1)

/-! ### Sending one packet -/

/-- The frame that carries a packet out of an egress point to an entry's next hop (R17 to R20, R223). -/
def State.buildFrame (s : State) (point tc : Nat) (e : Fwd) (p : Pkt) : Frame :=
  let r := NMap.getD s.crown.paths e.path {}
  let p := if point == 32 || point == 33 then { p with hops := p.hops + 1#16 } else p
  let h := Config.sportHash p.srcEp p.dstEp (if s.flag 0x10000004 16 then none else some p.reqId)
  { len := frameLen r.tagged r.v6 p.int p.payload.length
    dstMac := r.mac
    srcMac := s.portMac point
    vlan := if r.tagged then [BitVec.ofNat 16 (tc * 8192 + r.vid.toNat)] else []
    ethertype := if r.v6 then 0x86DD#16 else 0x0800#16
    ip := some { v6 := r.v6, src := s.portIp point r.v6, dst := r.ip, ttl := s.fld 0x10000028 7 0, ecn := .ect0
                 flow := if r.v6 then BitVec.ofNat 20 h.toNat else 0#20 }
    udp := some { sport := BitVec.ofNat 16 (0xC000 + h.toNat), dport := BitVec.ofNat 16 (s.fld 0x10000004 15 0)
                  len := 56 + p.payload.length + (if p.int then 16 else 0)
                  csum := if r.v6 || s.flag 0x10000028 8 then .right else .zero }
    body := .ahnath p }

/-- What became of a packet handed to `send`. -/
inductive SendRes where
  /-- in its egress queue, or residue -/
  | sent
  /-- discarded by the lookup, as a loss (R222, R223) -/
  | lost
  /-- refused under R267: the slot -/
  | refused (slot : Nat)
  /-- its queue does not admit it: nothing has changed (R226) -/
  | waits
  deriving DecidableEq, Repr

/-- The bound ports of a session; none of a session that is not there. -/
def State.boundOf (s : State) (sid : Nat) : List (Option Nat) := (s.sess? sid).elim [] (·.ports)

/-- Where the lookup sends a packet of a session: `via` forces the egress point (R58), which must be bound too (R223). -/
def State.found (s : State) (sid : Nat) (ep : W32) (via : Option Nat) : Option (Nat × Fwd) :=
  match via with
  | some v => (s.route? none ep none).bind fun x =>
      if s.portClass v == 0 || x.2.kind == 0 && !(s.boundOf sid).contains (some v) then none else some (v, x.2)
  | none => s.route? (some (s.boundOf sid)) ep none

/-- Send a packet of the station for a session: lookup, tag, admission to the queue of its class (R222 to R226, R263).
Answers are always admitted; another packet whose queue does not admit it waits, but for a copy of a shared payload,
which becomes residue. `via` forces the egress point (R58), `stamp` asks for a transmit timestamp (R250). Nothing is sent
during a power-fail flush (R155). -/
def State.send (s : State) (sid : Nat) (p : Pkt) (tc : Nat) (answer : Bool) (req shared : Option Nat)
    (via : Option Nat) (stamp : Bool := false) : SendRes × State :=
  if s.sap.flush.isSome then (.waits, s) else
  match s.found sid p.dstEp via with
  | none => (.lost, (s.raise0 6 1).count 105 1 1)
  | some (point, e) =>
    if !answer && shared.isNone && !s.admits (point * 8 + tc) then (.waits, s)
    else match s.tagPkt sid point p with
      | (.refused k, s) => (.refused k, s)
      | (.ready p, s) =>
        let f : QFrame := { frame := s.buildFrame point tc e p, tc := tc, answer := answer, since := s.now
                            req := req, shared := shared, stamp := stamp }
        if !answer && shared.isSome && !s.admits (point * 8 + tc) then (.sent, s.toResidue point f)
        else (.sent, s.enqueue point tc f)

end Sys2Proof.Machine
end

