-- ==== Sys2Proof/Machine/Tele.lean ====
section
/-!
DEFINITION. Telemetry that follows commands (spec/19): filters (R401), engine counters (R399), sampling and trace
records (R402).
-/

namespace Sys2Proof.Machine

/-- Read kind, write kind or other, as the CLASS bits of a filter group them (R401). -/
def Cmd.cls (c : Cmd) : Nat :=
  if c.admin then 2 else if c.opc == 0x02 || c.opc == 0x05 then 0
  else if c.opc == 0x01 || c.opc == 0x08 || c.opc == 0x09 then 1 else 2

/-- Does filter set `f` match the command (R401)? -/
def State.matches (s : State) (f : Nat) (c : Cmd) : Bool :=
  let b := 0x04000100 + 0x20 * f
  let ctl := s.reg b
  let priv := bits ctl 1 0
  let cls := bits ctl 6 4
  let m := bits ctl 9 8
  let id := s.reg (b + 4)
  let nsid := (s.reg (b + 8)).toNat
  let lo := (s.reg (b + 0xC)).toNat + s.fld (b + 0x10) 15 0 * 2 ^ 32
  let hi := (s.reg (b + 0x14)).toNat + s.fld (b + 0x18) 15 0 * 2 ^ 32
  let okPriv := if priv == 1 then !c.admin else if priv == 2 then c.admin else true
  let okCls := cls == 0 || cls / 2 ^ c.cls % 2 == 1
  let okId := if m == 1 then bits id 11 0 == c.sid
    else if m == 2 then (s.sess? c.sid).any fun x => x.hostEp == id else true
  let okLba := if c.ranges.isEmpty then lo == 0 && hi == 2 ^ 48 - 1
    else c.ranges.any fun r => r.1 ≤ hi && lo < r.1 + r.2
  okPriv && okCls && okId && (nsid == 0 || nsid == c.nsid) && okLba

/-- Address of TALLY_ENG_CFGn of an engine. -/
def engCfg (e n : Nat) : Nat := virt (0x04000210 + 0x10 * n) e

/-- Codes of Table 19.6 that count cycles. -/
def cycleCode (k : Nat) : Bool := (1 ≤ k && k ≤ 4) || (0x30 ≤ k && k ≤ 0x34)

/-- Does a counter count cycles: enabled with such a code, not chained from the one below, and not front-starved cycles
under a filter (R399, R401)? [DEDUCED, log entry 56] -/
def State.cycleCounter (s : State) (e n : Nat) : Bool :=
  s.flag (engCfg e n) 31 && cycleCode (s.fld (engCfg e n) 7 0) && !(n > 0 && s.flag (engCfg e (n - 1)) 30)
    && !(s.flag (engCfg e n) 29 && s.fld (engCfg e n) 7 0 == 3)

/-- What a counter reads: the events it has counted and, where it counts cycles, an open number of the cycles delivered
since it began. [DEDUCED, log entry 56] -/
def State.engCount (s : State) (e n : Nat) : Nat :=
  let from_ := NMap.getD s.tally.engFrom (e * 8 + n) 0
  let most := (s.cycles8 e - from_) / 8
  (NMap.getD s.tally.eng (e * 8 + n) 0 +
    if s.cycleCounter e n then min most (Config.classCycles (e * 8 + n) from_ (s.cycles8 e)) else 0) % 2 ^ 48

/-- A counter begins to count cycles from now on, the counts being `eng`. -/
def State.engStart (s : State) (e n : Nat) (eng : NMap Nat) : State :=
  { s with tally := { s.tally with eng := eng, engFrom := NMap.set s.tally.engFrom (e * 8 + n) (s.cycles8 e) } }

/-- The settings of an engine's counters change from `s` to `u`: a counter that counted cycles keeps what it counted.
 [DEDUCED, log entry 56] -/
def State.engSettle (s : State) (e : Nat) (u : State) : State :=
  (List.range 6).foldl (fun u n =>
    if s.cycleCounter e n then u.engStart e n (NMap.set u.tally.eng (e * 8 + n) (s.engCount e n))
    else u.engStart e n u.tally.eng) u

/-- Counter `n` of engine `e` wraps: the chained one counts, or OVF is set and tally.engine_overflow raised (R399). -/
def State.engWrap : Nat → Nat → Nat → State → State
  | 0, _, _, s => s
  | fuel + 1, e, n, s =>
    if n < 5 && s.flag (engCfg e n) 30 then
      let k := e * 8 + n + 1
      if s.flag (engCfg e (n + 1)) 31 then
        let v := NMap.getD s.tally.eng k 0 + 1
        let s := { s with tally := { s.tally with eng := NMap.set s.tally.eng k (v % 2 ^ 48) } }
        if v ≥ 2 ^ 48 then State.engWrap fuel e (n + 1) s else s
      else s
    else
      let s := { s with tally := { s.tally with ovf := insertAsc (e * 8 + n) s.tally.ovf } }
      s.raise (evSrc 0 18) (w32 (e + n * 256))

/-- Add `k` to counter `n` of engine `e`. [DEDUCED, log entry 56] -/
def State.engAdd (e n k : Nat) (s : State) : State :=
  let i := e * 8 + n
  let v := NMap.getD s.tally.eng i 0 + k
  let s := { s with tally := { s.tally with eng := NMap.set s.tally.eng i (v % 2 ^ 48) } }
  if v ≥ 2 ^ 48 then State.engWrap 6 e n s else s

/-- An engine event of Table 19.6 happens `k` times, for a command or for none (R399, R401). [DEDUCED, log entry 56] -/
def State.engEvent (e code k : Nat) (c : Option Cmd) (s : State) : State :=
  (List.range 6).foldl (fun s n =>
    let cfg := s.reg (engCfg e n)
    let chained := n > 0 && s.flag (engCfg e (n - 1)) 30
    let ok := bit cfg 31 && !chained && bits cfg 7 0 == code
      && (!bit cfg 29 || c.any fun c => s.matches (bits cfg 25 24) c)
    if ok then s.engAdd e n k else s) s

/-- One step of the Galois LFSR with polynomial 0x8020_0003 (R402). -/
def lfsrStep (x : BitVec 32) : BitVec 32 :=
  if x.getLsbD 0 then (x >>> 1) ^^^ 0x80200003#32 else x >>> 1

/-- A tag or trace record was dropped: counted, tally.trace_drop at most once per second (R402, R404). -/
def State.traceDrop (s : State) : State :=
  let s := { s with tally := { s.tally with dropped := (s.tally.dropped + 1) % 65536 } }
  if s.tally.dropAt.any fun t => s.now < t + 1000000000 then s
  else ({ s with tally := { s.tally with dropAt := some s.now } }).raise0 0 17

/-- Sampling of one command that Bud accepts (R402): tag it where the LFSR and the filter say so. -/
def State.sample (tag t0 : Nat) (s : State) : State :=
  let r := s.reg 0x04000040
  if !bit r 31 then s
  else
    let x := lfsrStep s.tally.lfsr
    let s := { s with tally := { s.tally with lfsr := x } }
    match s.cmd? tag with
    | none => s
    | some c =>
      if x.toNat % 2 ^ bits r 28 24 == 0 && (!bit r 18 || s.matches (bits r 17 16) c) then
        if (s.bud.cmds.filter fun p => p.2.trace.isSome).length < 1024 then
          s.modCmd tag fun c => { c with trace := some (t0, []) }
        else s.traceDrop
      else s

/-- A tagged command passes stage `i` of Table 19.7 (the first time, but the last drive completion and last answer). -/
def State.stamp (tag i : Nat) (s : State) : State :=
  s.modCmd tag fun c =>
    match c.trace with
    | none => c
    | some (t0, l) =>
      if l.any (fun p => p.1 == i) && i != 7 && i != 9 then c
      else { c with trace := some (t0, (l.filter fun p => p.1 != i) ++ [(i, s.tb)]) }

/-- Bytes of a trace record (Table 19.7). -/
def traceBytes (c : Cmd) (t0 : Nat) (l : List (Nat × Nat)) (attached waited : Bool) : List Byte :=
  let st := c.status.getD { sct := 0, sc := 0 }
  let flags := b2n c.admin + 2 * b2n c.stolen + 4 * b2n attached + 8 * b2n waited + 16 * b2n c.retxAt.isSome
  let stage : Nat → Nat := fun i => match l.find? fun p => p.1 == i with
    | some p => min 0xFFFFFFFE (p.2 - t0)
    | none => 0xFFFFFFFF
  leBytes 2 c.sid ++ leBytes 2 c.qpid ++ leBytes 2 c.cid ++ leBytes 1 c.opc ++ leBytes 1 flags ++ leBytes 4 c.nsid
    ++ leBytes 6 c.slba ++ leBytes 2 0 ++ leBytes 4 c.nlb ++ leBytes 2 (st.sct * 256 + st.sc)
    ++ leBytes 1 (c.engine.getD 0xFF) ++ leBytes 1 0 ++ leBytes 8 t0
    ++ ((List.range 16).map stage).flatMap (leBytes 4) ++ leBytes 28 0

/-- Words of a byte string, little-endian; `fuel` bounds their number. -/
def leWords : Nat → List Byte → List W32
  | 0, _ => []
  | _, [] => []
  | k + 1, l => w32 (leNat (l.take 4)) :: leWords k (l.drop 4)

/-- Write the words of a record into a ring held as words by byte offset. -/
def putWords (m : NMap W32) (off : Nat) : List W32 → NMap W32
  | [] => m
  | w :: t => putWords (NMap.set m off w) (off + 4) t

/-- The end of a tagged command's completion: write its record, or drop it where the trace ring is full (R402).
 [DEDUCED, log entry 70] -/
def State.traceEnd (tag : Nat) (s : State) : State :=
  match s.cmd? tag with
  | none => s
  | some c =>
    match c.trace with
    | none => s
    | some (t0, l) =>
      let n := s.fld 0x0400000C 10 0 * 1048576 / 128
      let head := s.tally.traceHead
      let tail := s.fld 0x0400001C 23 0
      let nxt := if n == 0 then 0 else (head + 1) % n
      if n == 0 || nxt == tail then s.traceDrop
      else
        let attached := s.pieces.any fun p => p.2.shoot && (p.2.recips.drop 1).any fun r => r.tag == tag
        let waited := match l.find? (fun p => p.1 == 1), l.find? (fun p => p.1 == 2) with
          | some a, some b => a.2 != b.2
          | _, _ => false
        let ws := leWords 32 (traceBytes c t0 l attached waited)
        { s with tally := { s.tally with trace := putWords s.tally.trace (head * 128) ws, traceHead := nxt } }

end Sys2Proof.Machine
end

