-- ==== Sys2Proof/Machine/Xyl.lean ====
section
/-!
DEFINITION. Xylem (spec/02): request descriptors and their pools, the rate table, shapers at release (spec/12), the
retain pool, transmission, and the acknowledgements being gathered.
-/

namespace Sys2Proof.Machine

/-! ### Descriptors (R39) -/

/-- Does the descriptor come from the answer reserve (R39)? -/
def DescKind.reserved : DescKind → Bool
  | .completion _ _ _ => true
  | .notify _ => true
  | _ => false

/-- Drain rank of whoever waits for the descriptor (Table 21.2). -/
def DescKind.rank : DescKind → Nat
  | .completion _ _ _ => 2
  | .notify _ => 2
  | .dataWrite _ _ _ => 3
  | .dataRead _ _ => 7
  | _ => 8

/-- The command whose request packet it is, completions apart. -/
def DescKind.cmd? : DescKind → Option Nat
  | .dataWrite t _ _ => some t
  | .dataRead t _ => some t
  | .fragRead t _ => some t
  | .rangeRead t _ => some t
  | .bufRead t _ => some t
  | _ => none

/-- The queue pair it concerns, commands apart (R392). -/
def DescKind.qp? : DescKind → Option Nat
  | .completion q _ _ => some q
  | .notify q => some q
  | .entries q => some q
  | .shadow q _ => some q
  | .qcb q => some q
  | .status q => some q
  | _ => none

/-- Descriptors of the request pool in use (R39). -/
def State.poolUsed (s : State) : Nat := (s.xylem.descs.filter fun p => !p.2.kind.reserved).length

/-- Give a request its REQ_ID (R40) and its descriptor; xylem.descriptor_full when the pool is then full (Table 2.20). -/
def State.openDesc (d : Desc) (s : State) : State :=
  let r := s.xylem.nextReq
  let s := { s with xylem := { s.xylem with descs := NMap.set s.xylem.descs r d, nextReq := (r + 1) % 2 ^ 64 } }
  if !d.kind.reserved && s.poolUsed ≥ 180224 then s.raise0 4 6 else s

/-- A new request: PACED at once, or waiting for a descriptor of the request pool (R39). -/
def State.request (d : Desc) (s : State) : State :=
  if d.kind.reserved || s.poolUsed < 180224 then s.openDesc d
  else { s with xylem := { s.xylem with backlog := s.xylem.backlog ++ [d] } }

/-- The waiter that a freed descriptor goes to: lowest rank, then oldest (R423). -/
def nextWaiter (l : List Desc) : Option Nat :=
  let best := l.foldl (fun n d => min n d.kind.rank) 9
  l.findIdx? fun d => d.kind.rank == best

/-- Free a descriptor; a waiting request takes the place in the pool. -/
def State.freeDesc (r : Nat) (s : State) : State :=
  let s := { s with xylem := { s.xylem with
    descs := NMap.erase s.xylem.descs r, retain := s.xylem.retain.filter fun x => x.isShoot || x.id != r } }
  match nextWaiter s.xylem.backlog with
  | some i =>
    if s.poolUsed < 180224 then
      match s.xylem.backlog[i]? with
      | some d => State.openDesc d { s with xylem := { s.xylem with backlog := s.xylem.backlog.eraseIdx i } }
      | none => s
    else s
  | none => s

/-- Has the command a request packet that is not answered, or not yet created? -/
def State.owes (s : State) (tag : Nat) : Bool :=
  s.xylem.descs.any (fun p => p.2.kind.cmd? == some tag) || s.xylem.backlog.any fun d => d.kind.cmd? == some tag

/-! ### Lengths charged (R20, R53, R274) -/

/-- Frame bytes of a request, or for a READ those of its expected READ_RESP, from the entry that will carry it. -/
def State.descLen (s : State) (d : Desc) : Nat :=
  let bound := some (s.boundOf d.sid)
  let int := (s.txSlot d.sid).isSome
  let pay := if d.op == 2#4 then d.length else d.payload.length
  match s.route? bound d.dst none with
  | some (p, e) =>
    let r := NMap.getD s.crown.paths e.path {}
    frameLen r.tagged r.v6 (int && s.barkMode p != 0) pay
  | none => frameLen false false int pay

/-! ### The rate table (R51 to R53) -/

/-- Slot of an endpoint (R51). [DEDUCED, log entry 37] -/
def State.slotOf (s : State) (ep : W32) : Nat :=
  ((ep ^^^ s.reg 0x10000024).toNat * 0x9E3779B1) % 2 ^ 32 / 2 ^ 20

/-- RATE_START for a port rate (Table 2.18). -/
def State.rateStart (s : State) (portRate : Nat) : Nat := portRate * (s.fld 0x10000020 23 20 + 1) / 16

/-- The rate slot that paces traffic to an endpoint, with the port rate in force. [DEDUCED, log entry 37] -/
def State.rateSlot (s : State) (ep : W32) : RateSlot :=
  let pr := match s.route? none ep none with
    | some (p, _) => s.portRate p
    | none => 8000
  match NMap.get? s.xylem.rates (s.slotOf ep) with
  | some r => { r with portRate := pr }
  | none => { rate := s.rateStart pr, portRate := pr, releaseAt := s.now * 1000 }

/-- Replace the slot of an endpoint. [DEDUCED, log entry 37] -/
def State.setRate (s : State) (ep : W32) (r : RateSlot) : State :=
  { s with xylem := { s.xylem with rates := NMap.set s.xylem.rates (s.slotOf ep) r } }

/-- RATE_MIN. -/
def State.rateMin (s : State) : Nat := s.fld 0x1000001C 28 16

/-- A timeout halves RATE at once (R52). [DEDUCED, log entry 37] -/
def State.cutRate (ep : W32) (s : State) : State :=
  let r := s.rateSlot ep
  s.setRate ep { r with rate := max s.rateMin (r.rate / 2) }

/-- An answer of the slot's endpoint, with its CE echoes (R52). -/
def State.rateAnswer (ep : W32) (acked marked : Nat) (s : State) : State :=
  let r := s.rateSlot ep
  s.setRate ep { r with acked := r.acked + acked, marked := r.marked + marked }

/-! ### Shapers (R275, R276, Table 12.1) -/

/-- Tokens at a time: refilled, capped at BURST, or exactly 0 after a write (R276, R278). -/
def Shaper.level (x : Shaper) (now : Nat) : Int :=
  if x.zero then 0 else min (x.burst * 65536 : Nat) (x.tokens + (x.rate * 4 * (now - x.at_) / 5 : Nat))

/-- First time at which the shaper is eligible. -/
def Shaper.ready (x : Shaper) (now : Nat) : Nat :=
  let t := x.level now
  if x.rate == 0 || t ≥ 0 then now else now + ceilDiv ((-t).toNat * 5) (x.rate * 4)

/-- Charge a length. -/
def Shaper.charge (x : Shaper) (now len : Nat) : Shaper :=
  if x.rate == 0 then x else { x with tokens := x.level now - (len * 64 : Nat), at_ := now, zero := false }

/-- Session shaper kinds that a request is charged to (Table 12.1). -/
def DescKind.shaperKinds : DescKind → List Nat
  | .dataWrite _ _ _ => [0, 1]
  | .dataRead _ _ => [2, 3]
  | _ => []

/-- The shapers of a request that are in force: (session shaper numbers, namespace shaper numbers). -/
def State.shapersOf (s : State) (d : Desc) : List Nat × List Nat :=
  if !s.on 0x12000000 then ([], [])
  else (d.kind.shaperKinds.map (d.sid * 4 + ·),
    match d.kind.shaperKinds, d.kind.cmd? with
    | _ :: _, some t => (s.cmd? t).elim [] fun c => if c.nsid == 0 then [] else [c.nsid - 1]
    | _, _ => [])

/-- When every shaper of a list is eligible. -/
def shapersReady (m : NMap Shaper) (l : List Nat) (now : Nat) : Nat :=
  l.foldl (fun t i => max t ((NMap.get? m i).elim now fun x => x.ready now)) now

/-- Charge every shaper of a list. -/
def chargeAll (m : NMap Shaper) (l : List Nat) (now len : Nat) : NMap Shaper :=
  l.foldl (fun m i => NMap.modify m i fun x => x.charge now len) m

/-! ### Transmission -/

/-- The packet of a request (R21 to R24). -/
def State.pktOf (s : State) (r : Nat) (d : Desc) (retx : Bool) : Pkt :=
  { op := d.op, keyIndex := 0#13, dstEp := d.dst, srcEp := s.stationEp, reqId := BitVec.ofNat 64 r
    flags := (if retx then 0x40#8 else 0#8) ||| (if d.ar then 0x20#8 else 0#8) ||| (if d.last then 0x10#8 else 0#8)
    region := d.region, gen := d.gen, offset := d.offset, length := BitVec.ofNat 16 d.length, payload := d.payload }

/-- Keep the time of the last retransmission where the quiet rules need it (R49, R50, R76, R78). -/
def State.noteRetx (d : Desc) (s : State) : State :=
  let s := s.modSess d.sid fun x => { x with retxAt := some s.now }
  let s := match d.kind.cmd? with
    | some t => s.modCmd t fun c => { c with retxAt := some s.now }
    | none => s
  match d.kind with
  | .completion q slot _ => s.modQp q fun x =>
      { x with retxAt := some s.now
               heldSlots := (x.heldSlots.filter fun h => h.1 != slot) ++
                 [(slot, s.now, (x.heldSlots.find? fun h => h.1 == slot).elim false (·.2.2))] }
  | .notify q => s.modQp q fun x => { x with retxAt := some s.now, notifyHold := some (s.now + s.mpl) }
  | _ => s

/-- Size of the retain pool in bytes (R43). -/
def State.retainSize (s : State) : Nat := s.fld 0x10000014 6 0 * 1048576

/-! ### Pieces and their payload (R208, R210) -/

def State.modPiece (p : Nat) (f : Piece → Piece) (s : State) : State := { s with pieces := NMap.modify s.pieces p f }

/-- Does a request, sent or still waiting, carry the payload of a shoot? -/
def State.carries (s : State) (p : Nat) : Bool :=
  let of : Desc → Bool := fun d => match d.kind with | .dataWrite _ _ k => k == some p | _ => false
  s.xylem.descs.any (fun d => of d.2) || s.xylem.backlog.any of

/-- A piece leaves once nothing needs it: not attachable, and no packet that is not acknowledged carries its payload (R208,
R210). -/
def State.closePiece (p : Nat) (s : State) : State :=
  match s.piece? p with
  | none => s
  | some x =>
    if x.done && !x.attachable && !s.carries p && x.refetch.isNone then
      { s with pieces := NMap.erase s.pieces p
               xylem := { s.xylem with retain := s.xylem.retain.filter fun r => !(r.isShoot && r.id == p) } }
    else s

/-- A shoot stops being attachable (R208). -/
def State.endAttach (p : Nat) (s : State) : State :=
  (s.modPiece p fun x => { x with attachable := false }).closePiece p

/-- Close every shoot that nothing needs. -/
def State.closeShoots (s : State) : State :=
  (NMap.keys (s.pieces.filter fun p => p.2.shoot)).foldl (fun s p => s.closePiece p) s

/-- A payload can be dropped from a request once the packet has been on the wire, also while it waits to be sent again (R43). -/
def Desc.wired (d : Desc) : Bool := d.st == .sent || d.retries > 0 || d.retxAt.isSome

/-- Drop the oldest retained payloads until the pool holds no more than its size; `fuel` bounds their number. -/
def State.retainTrim : Nat → State → State
  | 0, s => s
  | k + 1, s =>
    if (s.xylem.retain.map (·.bytes)).sum ≤ s.retainSize then s
    else match s.xylem.retain with
      | [] => s
      | x :: t =>
        let hit : Nat × Desc → Bool := fun p => match p.2.kind with
          | .dataWrite _ _ sh => p.2.wired && (if x.isShoot then sh == some x.id else p.1 == x.id)
          | _ => false
        let s := { s with
          xylem := { s.xylem with
            retain := t
            descs := s.xylem.descs.map fun p =>
              if hit p then (p.1, { p.2 with dropped := true, payload := [] }) else p } }
        State.retainTrim k (if x.isShoot then s.endAttach x.id else s)

/-- Hold a payload in the retain pool (R43, R210). [DEDUCED, log entry 83] -/
def State.retain (id : Nat) (isShoot : Bool) (bytes : Nat) (s : State) : State :=
  let l := s.xylem.retain
  let s := if l.any fun x => x.id == id && x.isShoot == isShoot then s
    else { s with xylem := { s.xylem with retain := l ++ [{ id := id, isShoot := isShoot, bytes := bytes }] } }
  s.retainTrim s.xylem.retain.length

/-- The payload of a packet that leaves is retained, once for a shoot (R43, R210). -/
def State.keepPayload (r : Nat) (d : Desc) (s : State) : State :=
  match d.kind with
  | .dataWrite _ _ sh =>
    if sh.any fun p => s.xylem.retain.any fun x => x.isShoot && x.id == p then s else s.retain r false d.payload.length
  | _ => s

/-- Send a request: its descriptor is SENT and its timer armed, also where the lookup lost the packet (R41, R222). -/
def State.transmit (r : Nat) (s : State) : SendRes × State :=
  match s.desc? r with
  | none => (.waits, s)
  | some d =>
    let retx := d.retries > 0 || d.retxAt.isSome
    let shared : Option Nat := match d.kind with | .dataWrite _ _ x => x | _ => none
    match s.send d.sid (s.pktOf r d retx) d.tc d.kind.reserved (some r) shared d.viaPort with
    | (.waits, s) => (.waits, s)
    | (.refused k, s) => (.refused k, s)
    | (res, s) =>
      let d' : Desc := { d with st := .sent, sentAt := s.now, retxAt := if retx then some s.now else d.retxAt
                                interval := if d.interval == 0 then s.rtoBase else d.interval }
      let s := s.setDesc r d'
      let s := if retx then s.noteRetx d else s
      (res, s.keepPayload r d)

/-- Send what waits unsent in the answer reserve: completions and NOTIFYs of a session, or of all (R40, R267). -/
def State.sendReserved (sid : Option Nat) (s : State) : State :=
  if !s.xylem.started then s
  else (s.xylem.descs.filter fun p => p.2.kind.reserved && p.2.st == .paced && (sid.isNone || sid == some p.2.sid)).foldl
    (fun s p => (s.transmit p.1).2) s

/-- A request of the answer reserve: it is never paced (R46). [DEDUCED, log entry 42] -/
def State.answerRequest (d : Desc) (s : State) : State :=
  let r := s.xylem.nextReq
  let s := s.openDesc d
  if s.xylem.started then (s.transmit r).2 else s

/-! ### ACKs and NAKs (R45, R46) -/

/-- An answer packet: sent at once from the answer reserve, or discarded where it cannot be tagged (R267). -/
def State.sendAnswer (sid : Nat) (p : Pkt) (s : State) : State :=
  (s.send sid p Config.plainTc.toNat true none none none).2

/-- Send a gathered ACK (R26, R45). -/
def State.sendAck (n : Nat) (s : State) : State :=
  match NMap.get? s.xylem.acks n with
  | none => s
  | some a =>
    let s := { s with xylem := { s.xylem with acks := NMap.erase s.xylem.acks n } }
    let first := a.ids.headD 0#64
    let rest := a.ids.drop 1
    s.sendAnswer a.sid
      { op := 4#4, keyIndex := 0#13, dstEp := a.dst, srcEp := s.stationEp, reqId := first
        length := BitVec.ofNat 16 (8 * rest.length)
        aux := w32 (a.ce % 256 * 2 ^ 24 + a.ids.length % 256)
        payload := rest.flatMap fun i => beBytes 8 i.toNat }

/-- The fullest gathered ACK, the oldest of several. -/
def fullest (m : NMap AckGather) : Option Nat :=
  let top := m.foldl (fun n p => max n p.2.ids.length) 0
  (m.find? fun p => p.2.ids.length == top).map (·.1)

/-- Gather one acknowledgement; AR or ACK_MAX sends it, and a full pool sends its fullest first (R45, R46): an entry of the pool is
one gathering ACK, and the pool is full when a further one finds no entry. [DEDUCED, log entry 100] -/
def State.gatherAck (sid : Nat) (dst : W32) (slotBit : Bool) (id : W64) (ce ar : Bool) (s : State) : State :=
  let maxN := s.fld 0x10000010 15 8
  let same : Nat × AckGather → Bool := fun p => p.2.sid == sid && p.2.dst == dst && p.2.slotBit == slotBit
  let (n, s) := match s.xylem.acks.find? same with
    | some p => (p.1, s)
    | none =>
      let s := if s.xylem.acks.length ≥ 1024 then (fullest s.xylem.acks).elim s fun k => s.sendAck k else s
      let n := s.xylem.nextAck
      (n, { s with xylem := { s.xylem with
        nextAck := n + 1
        acks := NMap.set s.xylem.acks n { sid := sid, dst := dst, slotBit := slotBit, ids := [], ce := 0, since := s.now } } })
  let s := { s with xylem := { s.xylem with
    acks := NMap.modify s.xylem.acks n fun a => { a with ids := a.ids ++ [id], ce := a.ce + b2n ce } } }
  let k := (NMap.get? s.xylem.acks n).elim 0 fun a => a.ids.length
  if ar || k ≥ max 1 maxN then s.sendAck n else s

/-- Send a NAK for a packet (Table 2.5). -/
def State.sendNak (sid code : Nat) (p : Pkt) (ce : Bool) (s : State) : State :=
  s.sendAnswer sid
    { op := 5#4, keyIndex := 0#13, dstEp := p.srcEp, srcEp := s.stationEp, reqId := p.reqId, region := p.region
      gen := p.gen, offset := p.offset, aux := w32 (b2n ce * 2 ^ 24 + code) }

end Sys2Proof.Machine
end

