-- ==== Sys2Proof/Machine/Post.lean ====
section
/-!
DEFINITION. The life of a command around its engine: the Knot ledger (R91 to R97, R107), its end, its completion and
the NOTIFY words (R49, R50, R73 to R75), and the contexts it holds (R98 to R100).
-/

namespace Sys2Proof.Machine

/-! ### Kinds and conflicts (Table 4.1) -/

/-- Write kind. -/
def Cmd.isWrite (c : Cmd) : Bool := !c.admin && (c.opc == 1 || c.opc == 8 || c.opc == 9)

/-- Read kind. -/
def Cmd.isRead (c : Cmd) : Bool := !c.admin && (c.opc == 2 || c.opc == 5)

/-- Flush. -/
def Cmd.isFlush (c : Cmd) : Bool := !c.admin && c.opc == 0

/-- Do two lists of ranges share a block? -/
def overlap (a b : List (Nat × Nat)) : Bool :=
  a.any fun x => b.any fun y => x.1 < y.1 + y.2 && y.1 < x.1 + x.2

/-- Do two commands conflict (R92)? -/
def conflicts (a b : Cmd) : Bool := a.nsid == b.nsid && (a.isWrite || b.isWrite) && overlap a.ranges b.ranges

/-- In the ledger and not past its release point: a read's is its translation, when its locations are pinned. -/
def Cmd.holds (c : Cmd) : Bool :=
  c.fseq.isSome && c.status.isNone && c.stage != .released && !(c.isRead && !c.pins.isEmpty)

/-- Does a Flush cover commands of this namespace (R107)? -/
def State.flushCovers (s : State) (f : Cmd) (nsid : Nat) : Bool :=
  if f.nsid == 0xFFFFFFFF then (s.nsUsers nsid).contains f.sid else f.nsid == nsid

/-- Does `c`, entering the ledger, wait on the earlier command `e` (R92, R107)? -/
def State.mustWait (s : State) (c e : Cmd) : Bool :=
  e.holds && (if c.isFlush then e.isWrite && s.flushCovers c e.nsid else conflicts c e)

/-! ### The granule index and wide list (R96) -/

/-- The set of a granule. -/
def granSet (nsid g : Nat) : Nat :=
  ((nsid * 0x9E3779B1 + g % 2 ^ 32 * 0x85EBCA77 + g / 2 ^ 32 * 0xC2B2AE3D) % 2 ^ 32) / 2 ^ 18

/-- Granules a range touches: first and count. -/
def granSpan (r : Nat × Nat) : Nat × Nat := (r.1 / 256, (r.1 + r.2 - 1) / 256 + 1 - r.1 / 256)

/-- Does the command take a wide entry? -/
def State.goesWide (s : State) (c : Cmd) : Bool :=
  match c.ranges with
  | [r] => c.isFlush || (granSpan r).2 > max 1 (s.fld 0x08000008 4 0)
  | _ => true

/-- The granule sets it takes a slot of. -/
def State.gransOf (s : State) (c : Cmd) : List Nat :=
  match c.ranges with
  | [r] => if s.goesWide c then [] else (rangeFrom (granSpan r).1 (granSpan r).2).map (granSet c.nsid)
  | _ => []

/-- Ledger entries, wide entries and granule slots in use (Table 4.9). -/
def State.ledgerUsed (s : State) : Nat := (s.bud.cmds.filter fun p => p.2.fseq.isSome && p.2.status.isNone).length
def State.wideUsed (s : State) : Nat := (s.bud.cmds.filter fun p => p.2.wide && p.2.status.isNone).length
def State.gransUsed (s : State) : List Nat := s.bud.cmds.flatMap fun p => p.2.grans

/-- Is there room in the ledger for the command (R97)? -/
def State.canEnter (s : State) (c : Cmd) : Bool :=
  let used := s.gransUsed
  let mine := s.gransOf c
  s.ledgerUsed < 65536 && (if s.goesWide c then s.wideUsed < 256
    else mine.all fun g => (used.filter (· == g)).length + (mine.filter (· == g)).length ≤ 8)

/-- Enter one command (R91, R127): its FSEQ, and ready at once where it waits on nothing. [DEDUCED, log entry 55] -/
def State.enterLedger (tag : Nat) (s : State) : State :=
  match s.cmd? tag with
  | none => s
  | some c =>
    let waits := (s.bud.cmds.filter fun p => s.mustWait c p.2).map (·.1)
    let c' := { c with fseq := some s.knot.nextFseq, grans := s.gransOf c, wide := s.goesWide c, waits := waits
                       stage := if waits.isEmpty then .ready else .ledger }
    let s := { s.setCmd tag c' with knot := { s.knot with nextFseq := s.knot.nextFseq + 1, stalled := false } }
    let s := s.stamp tag 1
    if waits.isEmpty then s.stamp tag 2 else s

/-- The accepted I/O command fetched first that has not entered the ledger. -/
def State.nextIn (s : State) : Option (Nat × Cmd) :=
  s.bud.cmds.foldl (fun best p =>
    if p.2.admin || p.2.stage != .accepted || p.2.status.isSome then best
    else match best with
      | none => some p
      | some b => if p.2.order < b.2.order then some p else some b) none

/-- Home engine of a queue pair (KNOT_AFF_DATA). -/
def State.home (s : State) (q : Nat) : Nat := bits (s.reg (virt 0x08000104 q)) 5 0

/-- Enter accepted commands in fetch order until one finds no room (knot.overflow_stall), still reads its table, or waits for
the way from Bud over its engine's Bough to Knot (R8). -/
def State.runIntake : Nat → State → State
  | 0, s => s
  | k + 1, s =>
    match s.nextIn with
    | none => s
    | some (t, c) =>
      if c.needTable || !s.on 0x08000000 || !s.flowsVia (s.home c.qpid / 16) 0 5 then s
      else if s.canEnter c then State.runIntake k (s.enterLedger t)
      else if s.knot.stalled then s
      else { s with knot := { s.knot with stalled := true } }.raise0 5 0

/-- Intake over every accepted command. -/
def State.intake (s : State) : State := s.runIntake s.bud.cmds.length

/-- A command stops waiting on another; with nothing left to wait on it is ready (R92). -/
def Cmd.unwait (tag : Nat) (last : Bool) (c : Cmd) : Cmd :=
  { c with waits := without c.waits tag, stage := if last && c.stage == .ledger then .ready else c.stage }

/-- A command passed its release point or ended: who waits on it waits no more (R93). -/
def State.release (tag : Nat) (s : State) : State :=
  let free : Nat × Cmd → Bool := fun p => p.2.waits.contains tag && (without p.2.waits tag).isEmpty
  let woken := (s.bud.cmds.filter free).map (·.1)
  let wake : Nat × Cmd → Nat × Cmd := fun p => if p.2.waits.contains tag then (p.1, Cmd.unwait tag (free p) p.2) else p
  let s := { s with bud := { s.bud with cmds := s.bud.cmds.map wake } }
  woken.foldl (fun s t => s.stamp t 2) s

/-! ### Engines and contexts (R98 to R100) -/

/-- Window base of an engine (R113). -/
def twigBase (e : Nat) : Nat := 0x0A000000 + e * 0x40000

/-- Does the engine run (R99)? -/
def State.running (s : State) (e : Nat) : Bool :=
  let t := s.twig e
  s.on (twigBase e) && !t.parked && !t.vacating && !t.reloading && !t.fenced

/-- Running engines. -/
def State.runners (s : State) : List Nat := (List.range 64).filter s.running

/-- Contexts an engine holds: each from placement until its command's completion is settled (R39, R98). -/
def State.ctxUsed (s : State) (e : Nat) : Nat := (s.bud.cmds.filter fun p => p.2.engine == some e).length

/-- Free contexts of an engine that take placements. -/
def State.ctxFree (s : State) (e : Nat) : Nat := if s.running e then 1024 - s.ctxUsed e else 0

/-- Context credits reserved by fetches under way. -/
def State.ctxReserved (s : State) : Nat :=
  (s.bud.qps.map fun p => if (s.sess? p.2.sid).any (fun x => x.qpBase == p.1) then 0 else p.2.job.elim 0 (·.n)).sum

/-- Free context credits of the station (R98, R100). -/
def State.credits (s : State) : Nat :=
  1024 * s.runners.length - (s.ctxReserved + (s.bud.cmds.filter fun p => !p.2.admin).length)

/-- twig.contexts_exhausted on entering the state without a free credit (R100). -/
def State.noteCredits (s : State) : State :=
  if s.credits == 0 then
    if s.knot.exhausted then s else { s with knot := { s.knot with exhausted := true } }.raise0 5 1
  else { s with knot := { s.knot with exhausted := false } }

/-- Take a command out of its engine's deque and list of started commands; with the last one the engines' work ends (R332). -/
def State.unplace (tag : Nat) (s : State) : State :=
  let held := s.twigs.any fun p => p.2.deque.contains tag || p.2.started.contains tag
  let s := { s with twigs := s.twigs.map fun p =>
      if p.2.deque.contains tag || p.2.started.contains tag
      then
        let t := { p.2 with deque := without p.2.deque tag, started := without p.2.started tag }
        (p.1, if t.parked && t.deque.isEmpty && t.started.isEmpty && t.cycHeld.isNone
              then { t with cycHeld := some (s.cycles8 p.1) } else t)
      else p }
  if held && s.twigs.all (fun p => p.2.deque.isEmpty && p.2.started.isEmpty) then s.restFrom 0 else s

/-! ### NOTIFY (R28, R50, R75) -/

/-- Is a completion WRITE of the queue pair open? -/
def State.cqOpen (s : State) (q : Nat) : Bool :=
  s.xylem.descs.any fun p => match p.2.kind with | .completion x _ _ => x == q | _ => false

/-- Send the NOTIFY that is due, if every completion is acknowledged and no earlier NOTIFY holds it back. Its word is the payload
of a frame, most significant byte first (R3, R28). [DEDUCED, log entry 99] -/
def State.tryNotify (q : Nat) (s : State) : State :=
  match s.qp? q with
  | none => s
  | some x =>
    match s.sess? x.sid with
    | none => s
    | some y =>
      if x.notifyEn && x.notifyDue && x.st != .disabled && !x.notifyBusy && !s.cqOpen q && (x.notifyHold.all fun t => t ≤ s.now) then
        let s := s.modQp q fun x => { x with notifyBusy := true, notifyDue := false, unnotified := 0, notifyHold := none }
        s.answerRequest
          { kind := .notify q, sid := x.sid, dst := y.hostEp, op := 7#4, region := x.shHandle, gen := x.shGen
            offset := x.shOff + 8#48, length := 8, ar := true, tc := x.tc
            payload := beBytes 2 q ++ beBytes 2 x.cqTail ++ beBytes 4 0 }
      else s

/-! ### Completion (R49, R68, R73, R74) -/

/-- Does the status carry DNR 0 (R73)? -/
def Status.retry (st : Status) : Bool :=
  (st.sct == 0 && st.sc == 0) || (st.sct == 0 && st.sc == 0x22) || (st.sct == 7 && st.sc == 0x86)

/-- Success? -/
def Status.ok (st : Status) : Bool := st.sct == 0 && st.sc == 0

/-- The 16 bytes of a completion entry (R73). -/
def completionEntry (st : Status) (sqHead q cid : Nat) (phase : Bool) : List Byte :=
  let dw3 := cid + place (b2n phase) 16 1 + place st.sc 17 8 + place st.sct 25 3 + place (b2n !st.ok) 30 1
    + place (b2n !st.retry) 31 1
  leBytes 4 st.dw0.toNat ++ leBytes 4 st.dw1.toNat ++ leBytes 4 (sqHead + q * 65536) ++ leBytes 4 dw3

/-- A completion is posted, or will never be: the Aborts that wait for it are posted as the meaning ends (R109). -/
def State.unholdAborts (tag : Nat) (s : State) : State :=
  { s with aerDue := s.aerDue ++ (s.bud.cmds.filter fun p => p.2.after == some tag && !p.2.posted).map (·.1) }

/-- Does an Abort still wait for the completion of the command it ended (R109)? -/
def State.heldAbort (s : State) (c : Cmd) : Bool := (c.after.bind s.cmd?).any fun x => !x.posted && !x.discard

/-- A command leaves the station: its context credit is free and its trace record written (R98, R402).
 [DEDUCED, log entry 42] -/
def State.freeCmd (tag : Nat) (s : State) : State :=
  match s.cmd? tag with
  | none => s
  | some c =>
    let s := s.traceEnd tag
    let s := { s with bud := { s.bud with cmds := NMap.erase s.bud.cmds tag } }
    let s := if c.admin then s else s.modSess c.sid fun x => { x with ctx := x.ctx - 1 }
    (s.unholdAborts tag).noteCredits

/-- Post the completion of a finished command into the next slot (R74).
 [DESIGN CHOICE, log entry 8; DESIGN CHOICE, log entry 41] -/
def State.post (tag : Nat) (s : State) : State :=
  match s.cmd? tag with
  | none => s
  | some c =>
    match s.qp? c.qpid, s.sess? c.sid with
    | some q, some x =>
      let st := c.status.getD { sct := 0, sc := 0 }
      let slot := q.cqTail
      let wrap := slot + 1 ≥ q.cqSize
      let due := q.unnotified + 1 ≥ max 1 q.coalCount
      let s := s.setQp c.qpid { q with
        cqTail := if wrap then 0 else slot + 1
        phase := if wrap then !q.phase else q.phase
        unnotified := q.unnotified + 1
        unnotifiedSince := if q.unnotified == 0 then s.now else q.unnotifiedSince
        notifyDue := q.notifyDue || (q.notifyEn && due) }
      let s := if st.ok then s else s.modSess c.sid fun x =>
        { x with errors := ((c.cid, c.qpid, st.sct, st.sc) :: x.errors).take 64, errTotal := x.errTotal + 1 }
      let s := ((s.modCmd tag fun c => { c with posted := true }).unholdAborts tag).stamp tag 10
      s.answerRequest
        { kind := .completion c.qpid slot tag, sid := c.sid, dst := x.hostEp, op := 1#4, region := q.cqHandle
          gen := q.cqGen, offset := q.cqOff + BitVec.ofNat 48 (16 * slot), length := 16, ar := true, tc := q.tc
          payload := completionEntry st q.sqHead c.qpid c.cid q.phase }
    | _, _ => s.freeCmd tag

/-- Post a finished command's completion once every request packet of it is answered and the quiet rule allows (R49).
 [DESIGN CHOICE, log entry 41] -/
def State.tryPost (tag : Nat) (s : State) : State :=
  match s.cmd? tag with
  | none => s
  | some c =>
    if c.status.isNone || c.posted || s.owes tag || s.heldAbort c then s
    else if c.discard then s.freeCmd tag
    else if c.retxAt.all fun t => t + s.mpl ≤ s.now then s.post tag
    else s

/-- Requests of a command that were never sent go; those sent before stay until answered or failed (R38). -/
def State.dropUnsent (tag : Nat) (s : State) : State :=
  let s := { s with xylem := { s.xylem with backlog := s.xylem.backlog.filter fun d => d.kind.cmd? != some tag } }
  (((s.xylem.descs.filter fun p => p.2.kind.cmd? == some tag && p.2.st == .paced && p.2.retries == 0
    && p.2.retxAt.isNone).map (·.1)).foldl (fun s r => s.freeDesc r) s).closeShoots

/-- Staging that a pull reserved and did not release is freed (R38, R94). -/
def State.dropStaged (tag : Nat) (s : State) : State :=
  { s with sapw := { s.sapw with entries := s.sapw.entries.filter fun p => !(p.2.owner == some tag && !p.2.released) } }

/-- A command ends with a status: its waiters are released, its ledger place, pins and unreleased staging are freed,
and its completion is posted when it may be (R49, R93). The locations of a read stay known, unpinned, for packets that are
still sent again (R43, Table 4.5). [DEDUCED, log entry 42; DEDUCED, log entry 98] -/
def State.finish (tag : Nat) (st : Status) (s : State) : State :=
  match s.cmd? tag with
  | none => s
  | some c =>
    if c.status.isSome then s
    else
      let c' := { c with status := some st, stage := .finished, unpinned := true, got := [], pulled := [], grans := []
                         wide := false, waits := [], stalled := false, short := false, entries := [] }
      let s := (s.setCmd tag c').unplace tag
      let s := match c.engine with
        | some e => s.engEvent e 0x11 1 (some c)
        | none => s
      let s := if st.ok then s else (s.dropUnsent tag).dropStaged tag
      ((s.release tag).intake).tryPost tag

/-- End with success. -/
def State.finishOk (tag : Nat) (s : State) : State := s.finish tag { sct := 0, sc := 0 }

/-- End with an error status and DW0 0. -/
def State.fail (tag sct sc : Nat) (s : State) : State := s.finish tag { sct := sct, sc := sc }

/-- Status of a command that ends well: DW0 is COUNT for Register Read (R376), the NSID for a namespace created. -/
def Cmd.okStatus (c : Cmd) : Status :=
  { sct := 0, sc := 0
    dw0 := if c.admin && c.opc == 0xC4 then w32 (bits c.cdw11 8 0)
      else if c.admin && c.opc == 0x0D && bits c.cdw10 3 0 == 0 then w32 c.nsid else 0#32 }

/-- A command whose host transfers are all handed over ends when the last of them is answered (R49). -/
def State.checkDone (tag : Nat) (s : State) : State :=
  match s.cmd? tag with
  | none => s
  | some c => if c.status.isNone && c.handed && !s.owes tag then s.finish tag c.okStatus else s.tryPost tag

/-- The Asynchronous Event Requests that events answered are posted (R395). -/
def State.postAers (s : State) : State :=
  let due := s.aerDue
  due.foldl (fun s t => s.tryPost t) { s with aerDue := [] }

/-- Every meaning ends here: posting may itself raise an event that answers one more request. -/
def State.settle (s : State) : State := s.postAers.postAers

end Sys2Proof.Machine
end

