-- ==== Sys2Proof/Machine/Act.lean ====
section
/-!
DEFINITION. The two shapes that every meaning has: a condition under which the command has its effect, and the state after
it. A command whose condition fails names nothing that is waiting to happen and has no effect (log entry 4).
-/

namespace Sys2Proof.Machine

/-- The state that a command leaves: its effect `t` with the register file `r`, the completions of event requests posted,
and the queue of waiting commands as it was in `s`. -/
def State.endWith (t : State) (r : Regs) (s : State) : State := { t.settle with regs := r, pending := s.pending }

/-- The same for a command that writes no register. -/
def State.done (t s : State) : State := t.endWith s.regs s

/-- The effect of an operation that writes no register: the register file is that of `s`. -/
def State.keepRegs (s u : State) : State := { u with regs := s.regs }

/-- A command that writes no register. [DESIGN CHOICE, log entry 4] -/
def act (ok : Bool) (t s : State) : Host.Outcome State Fault Refusal := .next (if ok then t.done s else s)

/-- A command that leaves the register file as `r`. [DESIGN CHOICE, log entry 4] -/
def actR (ok : Bool) (r : Regs) (t s : State) : Host.Outcome State Fault Refusal :=
  .next (if ok then t.endWith r s else s)

end Sys2Proof.Machine
end

