-- ==== Sys2Proof/Machine/Canopy.lean ====
section
/-!
DEFINITION. The shaper window of Canopy (spec/12): R277, R278, R283.
-/

namespace Sys2Proof.Machine

/-! ### Shapers -/

/-- A rate and a burst as the bounds leave them, with how many of the two were clamped (R277). -/
def State.clampQos (s : State) (rate burst : Nat) : Nat × Nat × Nat :=
  let b := s.reg 0x12000008
  let c := s.reg 0x1200000C
  let r := if rate == 0 then 0 else max (bits b 15 0) (min (bits b 31 16) rate)
  let k := max (bits c 15 0) (min (bits c 31 16) burst)
  (r, k, b2n (r != rate) + b2n (k != burst))

/-- canopy.qos_clamped, once per clamp; the session in DETAIL (0 for a namespace shaper, log entry 20).
 [DESIGN CHOICE, log entry 20] -/
def State.noteClamps (sid n : Nat) (s : State) : State :=
  (List.range n).foldl (fun s _ => (s.raise (evSrc 6 24) (sessDetail sid none)).count 104 5 1) s

/-- Write RATE and BURST of one of a session's shapers, through the window or as Session QoS (R278). -/
def State.writeSessShaper (win : Bool) (i rate burst : Nat) (s : State) : State :=
  let (r, b, n) := s.clampQos rate burst
  ({ s with canopy := { s.canopy with
    sess := NMap.set s.canopy.sess i { rate := r, burst := b, zero := true, at_ := s.now, window := win } } }).noteClamps
    (i / 4) n

/-- Write RATE and BURST of a namespace's shaper (R278). -/
def State.writeNsShaper (i rate burst : Nat) (s : State) : State :=
  let (r, b, n) := s.clampQos rate burst
  ({ s with canopy := { s.canopy with
    ns := NMap.set s.canopy.ns i { rate := r, burst := b, zero := true, at_ := s.now, window := true } } }).noteClamps 0 n

/-- Does CANOPY_SHP_SEL name a shaper? -/
def State.shaperSel (s : State) : Bool := !s.flag 0x12000020 31 || s.fld 0x12000020 13 0 < 4096

/-- The selected shaper; an unlisted one is unshaped. -/
def State.selShaper (s : State) : Shaper :=
  let i := s.fld 0x12000020 13 0
  NMap.getD (if s.flag 0x12000020 31 then s.canopy.ns else s.canopy.sess) i { rate := 0, burst := 0 }

/-- CANOPY_SHP_OP.WRITE. [DESIGN CHOICE, log entry 20] -/
def State.shaperWrite (s : State) : State :=
  let i := s.fld 0x12000020 13 0
  let r := s.reg 0x12000024
  if !s.shaperSel then s
  else if s.flag 0x12000020 31 then s.writeNsShaper i (bits r 31 16) (bits r 15 0)
  else s.writeSessShaper true i (bits r 31 16) (bits r 15 0)

/-- CANOPY_SHP_CFG as READ loads it. -/
def State.shaperCfg (s : State) : W32 := w32 (s.selShaper.rate % 65536 * 65536 + s.selShaper.burst % 65536)

/-- CANOPY_SHP_OP.READ: the tokens, in bytes. -/
def State.shaperRead (s : State) : State :=
  { s with canopy := { s.canopy with shown := BitVec.ofInt 32 (s.selShaper.level s.now / 64) } }

/-- SHAPER_READ (R283). -/
def execShaperRead (s : State) : Host.Outcome State Fault Refusal :=
  actR s.shaperSel (s.regs.put 0x12000024 s.shaperCfg) s.shaperRead s

/-- SHAPER_WRITE (R278). -/
def execShaperWrite (s : State) : Host.Outcome State Fault Refusal := act s.shaperSel s.shaperWrite s

end Sys2Proof.Machine
end

