-- ==== Sys2Proof/Machine/ImageOps.lean ====
section
/-!
DEFINITION. The configuration flash and the Chronik image (spec/16: R349 to R355, R360): the directory, the check of a slot,
overlays and configuration records, and their merge.
-/

namespace Sys2Proof.Machine

/-! ### Flash (Table 16.4) -/

/-- Bytes of the flash; an erased byte is 0xFF. -/
def State.flashBytes (s : State) (a n : Nat) : List Byte :=
  (List.range n).map fun i => NMap.getD s.media.flash (a + i) 0xFF#8

/-- Put bytes into the flash. -/
def putFlash (m : NMap Byte) (a : Nat) (l : List Byte) : NMap Byte :=
  (l.zipIdx).foldl (fun m p => if p.1 == 0xFF#8 then NMap.erase m (a + p.2) else NMap.set m (a + p.2) p.1) m

/-- First byte of a slot, and its size. -/
def slotBase (slot : Nat) : Nat := if slot == 0 then 0x10000 else 0x2000000
def slotSize : Nat := 0x01FF0000

/-- The slot that holds a flash page, if one does. -/
def slotOfPage (page : Nat) : Option Nat :=
  let a := page * 4096
  if 0x10000 ≤ a && a < 0x2000000 then some 0
  else if 0x2000000 ≤ a && a < 0x3FF0000 then some 1 else none

/-! ### Directory (Table 16.5) -/

/-- A directory record: DSEQ, NEXT and SAVE_CTR. -/
structure Dir where
  seq : Nat
  next : Nat
  saveCtr : Nat
  deriving DecidableEq, Repr

/-- A directory copy, if its magic and CRC are right. -/
def State.dirCopy (s : State) (k : Nat) : Option Dir :=
  let l := s.flashBytes (k * 0x1000) 64
  if le l 0 4 == 0x44495231 && le l 60 4 == (Config.crc32c (l.take 60)).toNat
  then some { seq := le l 4 8, next := le l 12 1 % 2, saveCtr := le l 16 8 } else none

/-- The copy in force, and its number: valid, with the higher DSEQ (R350). -/
def State.dir (s : State) : Option (Nat × Dir) :=
  match s.dirCopy 0, s.dirCopy 1 with
  | some a, some b => if a.seq ≥ b.seq then some (0, a) else some (1, b)
  | some a, none => some (0, a)
  | none, some b => some (1, b)
  | none, none => none

/-- The bytes of a directory record. -/
def Dir.bytes (d : Dir) : List Byte :=
  let l := leBytes 4 0x44495231 ++ leBytes 8 d.seq ++ leBytes 1 d.next ++ leBytes 3 0 ++ leBytes 8 d.saveCtr ++ leBytes 36 0
  l ++ leBytes 4 (Config.crc32c l).toNat

/-- Write the other copy with DSEQ + 1. -/
def State.writeDir (next saveCtr : Nat) (s : State) : State :=
  let (k, seq) := match s.dir with | some (k, d) => (1 - k, d.seq + 1) | none => (0, 1)
  { s with media := { s.media with
      flash := putFlash s.media.flash (k * 0x1000) ({ seq := seq, next := next, saveCtr := saveCtr : Dir }).bytes } }

/-! ### Images (Tables 16.6 to 16.8) -/

/-- A configuration record. -/
structure ImgRec where
  kind : Nat
  addr : Nat
  mask : W32
  value : W32
  deriving DecidableEq, Repr

/-- An overlay: INDEX, ALWAYS, SAVED, records. -/
structure Overlay where
  index : Nat
  always : Bool
  saved : Bool
  recs : List ImgRec
  deriving DecidableEq, Repr

/-- Records laid out from an offset of an image. -/
def recsAt (img : List Byte) (off n : Nat) : List ImgRec :=
  (List.range n).map fun i =>
    let o := off + 16 * i
    { kind := le img o 1, addr := le img (o + 4) 4, mask := w32 (le img (o + 8) 4), value := w32 (le img (o + 12) 4) }

/-- OVL_OFF entries that are present. -/
def ovlOffs (img : List Byte) : List Nat :=
  ((List.range 16).map fun i => le img (84 + 4 * i) 4).filter (· != 0)

/-- The overlay at an offset. -/
def overlayAt (img : List Byte) (off : Nat) : Overlay :=
  let fl := le img (off + 3) 1
  { index := le img (off + 2) 1, always := fl % 2 == 1, saved := fl / 2 % 2 == 1
    recs := recsAt img (off + 16) (le img (off + 4) 4) }

/-- Does an overlay lie in the image, with its magic, records and CRC right (R354)? -/
def overlayOk (img : List Byte) (len off : Nat) : Bool :=
  let n := le img (off + 8) 4
  off + 16 ≤ len && le img off 2 == 0x4F56 && le img (off + 2) 1 < 16 && 16 ≤ n && off + n ≤ len
    && 16 + 16 * le img (off + 4) 4 ≤ n
    && le img (off + 12) 4 == (Config.crc32c (slice img off 12 ++ leBytes 4 0 ++ slice img (off + 16) (n - 16))).toNat

/-- No two entries alike. -/
def distinct (l : List Nat) : Bool := l.eraseDups.length == l.length

/-- GMAC tag of an image under the image key (R352). -/
def imageTag (key : BitVec 256) (img : List Byte) (serial : Nat) : BitVec 128 :=
  gmac key 0x4348524B#32 (BitVec.ofNat 64 serial) (img.take 240 ++ leBytes 16 0 ++ img.drop 256)

/-- Everything of the header but the tag (R352). -/
def headerOk (img : List Byte) (len : Nat) : Bool :=
  let part : Nat → Bool := fun o => le img o 4 + le img (o + 4) 4 ≤ len
  le img 0 4 == 0x4B524843 && le img 4 2 == 1 && len % 4096 == 0 && 4096 ≤ len && len ≤ slotSize
    && part 24 && part 32 && part 40 && le img 48 1 ≤ 16

/-- The image in a slot, if it passes its check (R352). -/
def State.slotImage (s : State) (slot : Nat) : Option (List Byte) :=
  let base := slotBase slot
  let head := s.flashBytes base 256
  let len := le head 16 4
  if !headerOk head len then none
  else
    let img := s.flashBytes base len
    let offs := ovlOffs img
    match s.media.imageKey with
    | none => none
    | some key =>
      if offs.all (overlayOk img len) && distinct (offs.map fun o => (overlayAt img o).index)
          && be img 240 16 == (imageTag key img (le img 8 8)).toNat
      then some img else none

/-- Fields of a header. -/
def imgCtx (img : List Byte) : Nat := le img 6 2
def imgFwRev (img : List Byte) : Nat := le img 20 4
def imgBase (img : List Byte) : List ImgRec := recsAt img (le img 40 4) (le img 44 4 / 16)

/-- The overlays that MODE_SEL selects, ascending (R355), and the mask of them. -/
def overlaysOf (img : List Byte) (mode : Nat) : List Overlay :=
  let sel := le img (52 + 2 * mode) 2
  let all := (ovlOffs img).map (overlayAt img)
  (List.range 16).filterMap fun i =>
    (all.find? fun o => o.index == i).bind fun o => if o.always || sel / 2 ^ i % 2 == 1 then some o else none

def appliedMask (l : List Overlay) : BitVec 16 := BitVec.ofNat 16 ((l.map fun o => 2 ^ o.index).sum)

/-- Every record in the order of R355. -/
def recordsOf (img : List Byte) (mode : Nat) : List ImgRec := imgBase img ++ (overlaysOf img mode).flatMap (·.recs)

/-- Is a SET or SEQ record skipped (R356): no block, SEED or TEST, the read-only offset 0x0000 of CHIP, PITH, DLINK or
DRAM, or an RO field named by its mask? [DEDUCED, log entry 28] -/
def recSkipped (r : ImgRec) : Bool :=
  let b := blockOf r.addr
  !inMap r.addr || b == 1 || b == 26 || r.addr % 4 != 0
    || (r.addr % 0x1000000 == 0 && [0, 5, 24, 25].contains b)
    || (r.kind != 3 && (regAt r.addr).any fun d => r.mask &&& d.ro != 0#32)

/-- The merged SET values (R355): each register's pending value starts from its reset value. [DEDUCED, log entry 28] -/
def mergeSets (l : List ImgRec) : NMap W32 :=
  l.foldl (fun m r =>
    if r.kind == 1 && !recSkipped r then
      let old := NMap.getD m r.addr (resetOf r.addr)
      NMap.set m r.addr ((old &&& ~~~r.mask) ||| (r.value &&& r.mask))
    else m) []

/-- The SEQ and WAIT records, in order. -/
def seqOf (l : List ImgRec) : List (Nat × Nat × W32 × W32) :=
  (l.filter fun r => (r.kind == 2 && !recSkipped r) || (r.kind == 3 && !recSkipped r)).map fun r => (r.kind, r.addr, r.mask, r.value)

/-- How many records are skipped at the merge. -/
def skippedOf (l : List ImgRec) : Nat := (l.filter fun r => 1 ≤ r.kind && r.kind ≤ 3 && recSkipped r).length

/-- The wrapped key-encryption key of an image, unwrapped (R353, R269). -/
def imgKek (img : List Byte) (key : BitVec 256) : Option (BitVec 256) :=
  if le img 188 1 == 1 then
    (Config.keyUnwrap key (slice img 148 40)).map fun l => BitVec.ofNat 256 (beNat (fitBytes 32 l))
  else none

end Sys2Proof.Machine
end

