-- ==== Sys2Proof/Machine/Map.lean ====
section
/-!
DEFINITION. Heartwood's map and its caches (spec/05: R117 to R124, R128) and Cambium's ring (R130 to R133, R425).
-/

namespace Sys2Proof.Machine

/-! ### The map -/

/-- Key of a block. -/
def mapKey (nsid lba : Nat) : Nat := nsid * 2 ^ 48 + lba

/-- Current record of a block (Table 5.3). -/
def State.loc (s : State) (nsid lba : Nat) : Loc := NMap.getD s.heart.map (mapKey nsid lba) .unmapped

/-- Map with a block's record replaced; UNMAPPED is not listed. -/
def putLoc (m : NMap Loc) (k : Nat) (l : Loc) : NMap Loc := if l == .unmapped then NMap.erase m k else NMap.set m k l

/-- The window of an LBA as a key of the translation cache and of leaf pages (R118, R122). -/
def windowKey (nsid lba : Nat) : Nat := nsid * 2 ^ 33 + lba / 256

/-- Page keys: the leaf page of a window, the directory page of 512 windows. -/
def leafKey (nsid lba : Nat) : Nat := windowKey nsid lba * 2
def dirKey (nsid lba : Nat) : Nat := (nsid * 2 ^ 33 + lba / 131072) * 2 + 1

/-- Blocks a page describes: namespace, first LBA, count. -/
def pageSpan (key : Nat) : Nat × Nat × Nat :=
  let w := key / 2
  (w / 2 ^ 33, w % 2 ^ 33 * (if key % 2 == 0 then 256 else 131072), if key % 2 == 0 then 256 else 131072)

/-- Map entries of the blocks a page describes. -/
def State.pageImage (s : State) (key : Nat) : NMap Loc :=
  let (ns, lo, n) := pageSpan key
  s.heart.map.filter fun p => mapKey ns lo ≤ p.1 && p.1 < mapKey ns lo + n

/-- One extent: every block of the window in the same state, data at consecutive offsets. -/
def uniform (l : NMap Loc) (first : Nat) : Bool :=
  match l with
  | [] => false
  | (_, .data seg off) :: _ => l.length == 256 && l.all fun p => p.2 == .data seg (off + (p.1 - first))
  | (_, .staged _ _) :: _ => false
  | (_, x) :: _ => l.length == 256 && l.all fun p => p.2 == x

/-- TYPE of a window's directory entry, from the records of its blocks (Table 5.1): 0 unmapped, 1 direct, 2 leaf page. -/
def typeOf (l : NMap Loc) (nsid lba : Nat) : Nat :=
  if l.isEmpty then 0 else if uniform l (mapKey nsid (lba / 256 * 256)) then 1 else 2

/-- TYPE of a window in its directory entry (Table 5.1). [DEDUCED, log entry 58] -/
def State.windowType (s : State) (nsid lba : Nat) : Nat := typeOf (s.pageImage (leafKey nsid lba)) nsid lba

/-- Do the records of two neighbouring blocks belong to one extent record (R119)? -/
def locJoins (x y : Loc) : Bool :=
  match x, y with
  | .data a o, .data a' o' => a == a' && o' == o + 1
  | .staged a o, .staged a' o' => a == a' && o' == o + 1
  | _, _ => x == y

/-- START of the extent record that holds block `i` of the window whose first LBA is `lo`. -/
def State.recStart (s : State) (nsid lo : Nat) : Nat → Nat
  | 0 => 0
  | i + 1 => if locJoins (s.loc nsid (lo + i)) (s.loc nsid (lo + i + 1)) then s.recStart nsid lo i else i + 1

/-- Tag of the translation-cache entry that translates a block (R122): its TYPE 1 window, or its extent record; an unmapped
window has none. -/
def State.tcTag (s : State) (nsid lba : Nat) : Option Nat :=
  match s.windowType nsid lba with
  | 0 => none
  | 1 => some (windowKey nsid lba * 257 + 256)
  | _ => some (windowKey nsid lba * 257 + s.recStart nsid (lba / 256 * 256) (lba % 256))

/-- Does a page hold a STAGED record (R121)? -/
def State.pagePinned (s : State) (key : Nat) : Bool :=
  key % 2 == 0 && (s.pageImage key).any fun p => match p.2 with | .staged _ _ => true | _ => false

/-- Pages the page cache holds at most (Table 5.11). -/
def State.pageRoom (s : State) : Nat := s.fld 0x07000004 10 0 * 262144

/-- The page that a full cache evicts: the least recently used clean page without a STAGED record (R124). -/
def State.evictable (s : State) : Option Nat :=
  (s.heart.pages.foldl (fun best p =>
    if p.2.dirty.isSome || p.2.writing.isSome || s.pagePinned p.1 then best
    else match best with
      | none => some p
      | some b => if p.2.used < b.2.used then some p else some b) none).map (·.1)

/-- Bring a page into the page cache, or use it again; evict for room where the cache is full (R124). -/
def State.usePage (key : Nat) (s : State) : State :=
  let clock := s.heart.useClock + 1
  let s := if !NMap.has s.heart.pages key && s.heart.pages.length ≥ s.pageRoom then
      match s.evictable with
      | some k => { s with heart := { s.heart with pages := NMap.erase s.heart.pages k } }
      | none => s
    else s
  let pg := NMap.getD s.heart.pages key {}
  { s with heart := { s.heart with useClock := clock, pages := NMap.set s.heart.pages key { pg with used := clock } } }

/-- Is there room for the page, or will a write-back have to finish first (R124)? -/
def State.pageFits (s : State) (key : Nat) : Bool :=
  NMap.has s.heart.pages key || s.heart.pages.length < s.pageRoom || s.evictable.isSome

/-- A change dirties a page; the SEQ that first did so is kept (R123, R132). -/
def State.dirtyPage (key seq : Nat) (s : State) : State :=
  let s := s.usePage key
  { s with heart := { s.heart with pages := NMap.modify s.heart.pages key fun p =>
      { p with dirty := some (p.dirty.getD seq)
               again := if p.writing.isSome then some (p.again.getD seq) else none } } }

/-- The translation-cache set of a window (R122). -/
def tcSetOf (nsid lba : Nat) : Nat := (Config.tcSet nsid (lba / 256)).toNat

/-- Use the entry of a block in the translation cache, the oldest way making room (R122). -/
def State.useTag (nsid lba : Nat) (s : State) : State :=
  match s.tcTag nsid lba with
  | none => s
  | some k =>
    let set := tcSetOf nsid lba
    { s with heart := { s.heart with tc := NMap.set s.heart.tc set ((k :: without (NMap.getD s.heart.tc set []) k).take 8) } }

/-- A window has changed: entries of it that no longer name a record of it are gone (R123). -/
def State.tcPrune (nsid lba : Nat) (s : State) : State :=
  let set := tcSetOf nsid lba
  let lo := lba / 256 * 256
  let good : Nat → Bool := fun k => k / 257 != windowKey nsid lba
    || (if k % 257 == 256 then s.windowType nsid lba == 1
        else s.windowType nsid lba == 2 && s.recStart nsid lo (k % 257) == k % 257)
  { s with heart := { s.heart with tc := NMap.set s.heart.tc set ((NMap.getD s.heart.tc set []).filter good) } }

/-- The directory entry points to the page no more (R118): the page is dead. [DEDUCED, log entry 58] -/
def State.dropPage (key : Nat) (s : State) : State :=
  { s with heart := { s.heart with pages := NMap.erase s.heart.pages key, pageLoc := NMap.erase s.heart.pageLoc key } }

/-- One block's record changes: map, translation cache, page and dirty state together (R123). -/
def State.setLoc (nsid lba seq : Nat) (l : Loc) (s : State) : State :=
  let t0 := s.windowType nsid lba
  let s := { s with heart := { s.heart with map := putLoc s.heart.map (mapKey nsid lba) l } }
  let t1 := s.windowType nsid lba
  let s := (s.tcPrune nsid lba).useTag nsid lba
  let s := if t1 == 2 then s.dirtyPage (leafKey nsid lba) seq else if t0 == 2 then s.dropPage (leafKey nsid lba) else s
  if t0 != t1 || t1 == 1 then s.dirtyPage (dirKey nsid lba) seq else s

/-- Change each block of a run where `keep` allows it, to `f i`. -/
def State.setRun (nsid lba n seq : Nat) (keep : Nat → Loc → Bool) (f : Nat → Loc) (s : State) : State :=
  (List.range n).foldl (fun s i => if keep i (s.loc nsid (lba + i)) then s.setLoc nsid (lba + i) seq (f i) else s) s

/-- Mapped blocks of a namespace: DATA, ZERO, STAGED and LOST count for NUSE (R120). -/
def State.nuse (s : State) (nsid : Nat) : Nat :=
  (s.heart.map.filter fun p => p.1 / 2 ^ 48 == nsid && p.2 != .dealloc).length

/-- Live blocks of a segment of a grove (R172). -/
def State.live (s : State) (g seg : Nat) : Nat :=
  (s.heart.map.filter fun p => ((NMap.get? s.heart.ns (p.1 / 2 ^ 48)).any fun n => n.grove == g)
    && (match p.2 with | .data a _ => a == seg | _ => false)).length
  + (s.heart.pageLoc.filter fun p => p.2.1 == seg
      && (NMap.get? s.heart.ns (p.1 / 2 / 2 ^ 33)).any fun n => n.grove == g).length

/-- The block whose data lives at a location: namespace and LBA. -/
def State.owner (s : State) (g seg off : Nat) : Option (Nat × Nat) :=
  (s.heart.map.find? fun p => p.2 == .data seg off
    && (NMap.get? s.heart.ns (p.1 / 2 ^ 48)).any fun n => n.grove == g).map fun p => (p.1 / 2 ^ 48, p.1 % 2 ^ 48)

/-- The map page that lives at a location. -/
def State.pageOwner (s : State) (g seg off : Nat) : Option Nat :=
  (s.heart.pageLoc.find? fun p => p.2 == (seg, off)
    && (NMap.get? s.heart.ns (p.1 / 2 / 2 ^ 33)).any fun n => n.grove == g).map (·.1)

/-! ### Protection information (R120, R167 to R169) -/

/-- A stored block: 4,096 bytes of data and its 16 bytes of protection information. [PRESUMED, log entry 60] -/
def sealed (data : List Byte) (app ref : Nat) : List Byte :=
  data ++ beBytes 8 (Config.guard64 data).toNat ++ beBytes 2 app ++ beBytes 6 ref

/-- Does a stored block pass the check of its guard? [PRESUMED, log entry 60] -/
def guardOk (blk : List Byte) : Bool := be blk 4096 8 == (Config.guard64 (blk.take 4096)).toNat

/-- Does it pass the check of its reference tag? [PRESUMED, log entry 60] -/
def refOk (blk : List Byte) (ref : Nat) : Bool := be blk 4106 6 == ref % 2 ^ 48

/-- The drive-read checks of a block at a location, where it is live (R168, R169); dead blocks and padding have none (R185). -/
def State.liveOk (s : State) (g seg off : Nat) (blk : List Byte) : Bool :=
  match s.owner g seg off with
  | some (_, lba) => guardOk blk && refOk blk lba
  | none => match s.pageOwner g seg off with
    | some _ => guardOk blk && refOk blk (seg * 131072 + off)
    | none => true

/-- The LBA that a reading command pinned at a location that is live no more (R126). -/
def State.pinOwner (s : State) (g seg off : Nat) : Option Nat :=
  (s.bud.cmds.filter fun p => (NMap.get? s.heart.ns p.2.nsid).any fun n => n.grove == g).findSome? fun p =>
    (p.2.pins.find? fun x => x.2 == .data seg off).map (·.1)

/-- The drive-read checks of a block that a read asks for: host blocks against their LBA, live or pinned, and map blocks
against their location (R168, R169). -/
def State.blockOk (s : State) (g seg off : Nat) (blk : List Byte) : Bool :=
  s.liveOk g seg off blk && ((s.owner g seg off).isSome || (s.pageOwner g seg off).isSome
    || (s.pinOwner g seg off).all fun lba => guardOk blk && refOk blk lba)

/-- The header checks of a map page brought in: a leaf page's CRC32C, NSID and window (R119, R123). -/
def pageOk (key : Nat) (blk : List Byte) : Bool :=
  key % 2 == 1 || (le blk 0 4 == (pageSpan key).1 && le blk 4 5 == (pageSpan key).2.1 / 256
    && le blk 12 4 == (Config.crc32c (blk.take 12 ++ leBytes 4 0 ++ (blk.take 4096).drop 16)).toNat)

/-- A hole block (R193). -/
def holeBlock : List Byte := List.replicate 4106 0#8 ++ List.replicate 6 0xFF#8

/-- What a read of a block without data returns (Table 5.3). [DEDUCED, log entry 84] -/
def unmappedBlock : List Byte := List.replicate 4096 0#8 ++ List.replicate 16 0xFF#8

/-- A block of zeros, its protection information made for its LBA. [DEDUCED, log entry 84] -/
def zeroBlock (lba : Nat) : List Byte := sealed (List.replicate 4096 0#8) 0 (lba % 2 ^ 48)

/-! ### The ring (R130, R131, R133, R425) -/

/-- Units of 16 bytes of a record (Tables 5.6, 5.7). -/
def recUnits : RecBody → Nat
  | .extentCommit _ p => 1 + ceilDiv (8 + 16 * p.length) 16
  | .zero _ _ _ _ => 3
  | .deallocate _ r => 1 + ceilDiv (8 + 12 * r.length) 16
  | .relocate p => 1 + ceilDiv (24 * p.length) 16
  | .lost _ _ _ _ => 2
  | .pageWritten _ _ _ _ _ _ => 2
  | .segmentState _ _ _ => 2
  | .nsRecord _ _ => 34
  | .rebuildCursor _ _ _ _ _ => 2
  | .checkpoint _ => 2
  | .pad => 1

/-- Ring size and occupied units. -/
def State.ringUnits (s : State) : Nat := s.fld 0x06000004 10 0 * 65536
def State.ringUsed (s : State) : Nat := (s.camb.ring.map (·.units)).sum

/-- Ring occupancy, per cent. -/
def State.ringPct (s : State) : Nat := if s.ringUnits == 0 then 0 else min 100 (s.ringUsed * 100 / s.ringUnits)

/-- Units that a PAD record fills before a record that would run over the end of the ring (R131). -/
def State.padUnits (s : State) (u : Nat) : Nat := if s.camb.pos + u > s.ringUnits then s.ringUnits - s.camb.pos else 0

/-- Records that may use the last 1 MiB (R425), carried-forward copies apart. -/
def RecBody.reserve : RecBody → Bool
  | .pageWritten _ _ _ _ _ _ => true
  | .checkpoint _ => true
  | _ => false

/-- Is there room for a record: ordinary ones stall while free space is at or below the reserve (R133, R425)? -/
def State.ringRoom (s : State) (body : RecBody) (fwd : Bool) : Bool :=
  let free := s.ringUnits - s.ringUsed
  let need := recUnits body + s.padUnits (recUnits body)
  if fwd || body.reserve then need ≤ free else free > 65536 && need ≤ free - 65536

/-- The root image that a CHECKPOINT records (R429): the map as the root tables and the pages that they reach on the drives
give it; a delete that is not recorded leaves its namespace as it was. [DEDUCED, log entry 68] -/
def State.rootImage (s : State) (seq tail : Nat) : Ckpt :=
  { seq := seq, tail := tail, map := s.heart.rooted, pageLoc := s.heart.rootedLoc
    ns := s.heart.ns.map fun p =>
      (p.1, if p.2.deleting then { p.2 with attached := p.2.was, was := [], deleting := false, notReady := false } else { p.2 with notReady := false }) }

/-- Put one record at the head of the ring. -/
def State.putRec (grove nsid units : Nat) (body : RecBody) (cont : Cont) (s : State) : State :=
  let r : Rec := { seq := s.camb.nextSeq, grove := grove, nsid := nsid, units := units, pos := s.camb.pos, body := body
                   cont := cont }
  { s with camb := { s.camb with
      nextSeq := s.camb.nextSeq + 1, ring := s.camb.ring ++ [r]
      pos := if s.camb.pos + units ≥ s.ringUnits then 0 else s.camb.pos + units } }

/-- Append a record now: a PAD fills the ring to its end first where the record does not fit before it (R131), and a CHECKPOINT
takes its root image; cambium.ring_high and compaction at HIGH_PCT (R132). -/
def State.pushRec (grove nsid : Nat) (body : RecBody) (cont : Cont) (s : State) : State :=
  let pad := s.padUnits (recUnits body)
  let s := if pad == 0 then s else s.putRec 0 0 pad .pad .none
  let s := match body with
    | .checkpoint tail => { s with camb := { s.camb with
        images := NMap.set s.camb.images s.camb.nextSeq (s.rootImage s.camb.nextSeq tail) } }
    | _ => s
  let s := s.putRec grove nsid (recUnits body) body cont
  if s.ringPct ≥ s.fld 0x06000008 7 0 && !s.camb.compacting then
    { s with camb := { s.camb with compacting := true } }.raise0 5 16
  else s

/-- Record an append that waits for ring space: cambium.ring_full_stall on entering that wait (R133, R141). -/
def State.noteStall (s : State) : State :=
  let wait := s.on 0x06000000 && !s.camb.waiting.isEmpty
  if wait == s.camb.stalled then s
  else
    let s := { s with camb := { s.camb with stalled := wait } }
    if wait then s.raise0 5 17 else s

/-- The runs of the first `n` numbers that a test holds of: first and count. -/
def holdRuns (ok : Nat → Bool) : Nat → List (Nat × Nat) → List (Nat × Nat)
  | 0, acc => acc
  | k + 1, acc =>
    if !ok k then holdRuns ok k acc
    else match acc with
      | (f, n) :: t => if f == k + 1 then holdRuns ok k ((k, n + 1) :: t) else holdRuns ok k ((k, 1) :: acc)
      | [] => holdRuns ok k [(k, 1)]

/-- The parts of the pieces of a Commit or Relocate whose blocks stand where the pieces expect them (R128); whole pieces where
the parts are more than a record takes. -/
def State.heldPieces (s : State) (nsid : Nat) (from_ : MovePiece → Nat → Loc) (l : List MovePiece) : List MovePiece :=
  let runs : MovePiece → List (Nat × Nat) := fun m => holdRuns (fun i => s.loc nsid (m.slba + i) == from_ m i) m.nlb []
  let parts := l.flatMap fun m => (runs m).map fun r =>
    { m with slba := m.slba + r.1, nlb := r.2, fromB := m.fromB + r.1, off := m.off + r.1 }
  if parts.length ≤ 64 then parts else l.filter fun m => !(runs m).isEmpty

/-- The body of a record as it is appended: the pieces whose condition holds at the append (R128). -/
def State.bodyNow (s : State) (nsid : Nat) : RecBody → RecBody
  | .extentCommit f l => .extentCommit f (s.heldPieces nsid (fun m i => .staged m.fromA (m.fromB + i)) l)
  | .relocate l => .relocate (s.heldPieces nsid (fun m i => .data m.fromA (m.fromB + i)) l)
  | b => b

/-- Has a record of pieces none left? -/
def RecBody.hollow : RecBody → Bool
  | .extentCommit _ l => l.isEmpty
  | .relocate l => l.isEmpty
  | _ => false

/-- A stripe's commit record is durable; with the last one it is committed, and in the window while P or Q is not (R162). -/
def State.stripeRecorded (gi n : Nat) (s : State) : State :=
  s.modGrove gi fun g => { g with stripes := NMap.modify g.stripes n fun x =>
    let k := x.committing - 1
    if k == 0 then { x with committing := 0, committed := true, lagging := !(x.pDone && x.qDone) }
    else { x with committing := k } }

/-- Append a record now with the pieces that still hold; with none left there is nothing to record. -/
def State.pushHeld (grove nsid : Nat) (body : RecBody) (cont : Cont) (s : State) : State :=
  let b := s.bodyNow nsid body
  if b.hollow then (match cont with | .stripe gi n => s.stripeRecorded gi n | _ => s) else s.pushRec grove nsid b cont

/-- Append a record, or let it wait for ENABLE or for room (R133, R140). -/
def State.append (grove nsid : Nat) (body : RecBody) (cont : Cont) (s : State) : State :=
  let held := !s.on 0x06000000
  let behind := !body.reserve && s.camb.waiting.any fun w => !w.2.2.1.reserve
  if !held && !behind && s.ringRoom body false then s.pushHeld grove nsid body cont
  else State.noteStall { s with camb := { s.camb with waiting := s.camb.waiting ++ [(grove, nsid, body, cont)] } }

/-- The append that goes next: the oldest one that may use the reserve, else the oldest of all (R133, R425). -/
def State.nextAppend (s : State) : Option (Nat × Nat × RecBody × Cont) :=
  match s.camb.waiting.find? fun w => w.2.2.1.reserve with
  | some w => some w
  | none => s.camb.waiting.head?

/-- Append what waits, in order, while there is room; `fuel` bounds the number. -/
def State.drainAppends : Nat → State → State
  | 0, s => s
  | k + 1, s =>
    match s.nextAppend with
    | none => s.noteStall
    | some w =>
      if s.on 0x06000000 && s.ringRoom w.2.2.1 false then
        State.drainAppends k (State.pushHeld w.1 w.2.1 w.2.2.1 w.2.2.2
          { s with camb := { s.camb with waiting := s.camb.waiting.erase w } })
      else s.noteStall

/-- Append what waits. -/
def State.resumeAppends (s : State) : State := s.drainAppends (s.camb.waiting.length + 1)

/-- SEQ of the last durable record (R140). -/
def State.headSeq (s : State) : Nat :=
  match s.camb.ring.find? fun r => !r.durable with
  | some r => r.seq - 1
  | none => s.camb.nextSeq - 1

/-- SEQ of the oldest record kept. -/
def State.tailSeq (s : State) : Nat := s.camb.ring.head?.elim (s.camb.nextSeq - 1) (·.seq)

/-! ### Namespace records on their way (R115, R116, R429) -/

/-- NAMESPACE records appended and not yet durable, oldest first: NSID, action, the namespace. -/
def State.nsRecords (s : State) : List (Nat × Nat × Option Namespace) :=
  let ring := s.camb.ring.filterMap fun (r : Rec) => match r.body with
    | .nsRecord a n => if r.durable then none else some (r.nsid, a, n)
    | _ => none
  let wait := s.camb.waiting.filterMap fun (w : Nat × Nat × RecBody × Cont) => match w.2.2.1 with
    | .nsRecord a n => some (w.2.1, a, n)
    | _ => none
  ring ++ wait

/-- The namespace as the newest record leaves it. -/
def State.nsNewest (s : State) (nsid : Nat) : Option Namespace :=
  match (s.nsRecords.filter fun r => r.1 == nsid).getLast? with
  | some r => if r.2.1 == 1 then none else r.2.2
  | none => NMap.get? s.heart.ns nsid

end Sys2Proof.Machine
end

