-- ==== Sys2Proof/Machine/DriveOps.lean ====
section
/-!
DEFINITION. Grove geometry (R142 to R147, R170), the Rootlets' queues (R321), and GF(2^8) arithmetic of P and Q (R145).
-/

namespace Sys2Proof.Machine

/-! ### Geometry (R142 to R147, R170) -/

/-- First block of the segment area of a conventional member (R143). -/
def segBase : Nat := 5767168

/-- C: blocks per chunk. -/
def Grove.c (g : Grove) : Nat := 16 * 2 ^ g.chunk

/-- W: data blocks per stripe (R146). -/
def Grove.w (g : Grove) : Nat := (g.n - 2) * g.c

/-- Slot of P of a stripe (R144). -/
def Grove.pSlot (g : Grove) (s : Nat) : Nat := g.n - 1 - s % g.n

/-- Slot of Q. -/
def Grove.qSlot (g : Grove) (s : Nat) : Nat := (g.pSlot s + 1) % g.n

/-- Slot of data chunk `d`. -/
def Grove.dSlot (g : Grove) (s d : Nat) : Nat := (g.qSlot s + 1 + d) % g.n

/-- Data chunk that lies on a slot, none for P and Q. -/
def Grove.chunkAt (g : Grove) (s slot : Nat) : Option Nat :=
  (List.range (g.n - 2)).find? fun d => g.dSlot s d == slot

/-- Segments of a zone set (R170). -/
def Grove.k (g : Grove) : Nat := if g.zoned then g.zone.2.1 / (64 * g.c) else 1

/-- First block of the chunks of a stripe on a member (R144, R170). -/
def Grove.chunkLba (g : Grove) (s : Nat) : Nat :=
  let seg := s / 64
  let j := s % 64
  if g.zoned then seg / g.k * g.zone.1 + (seg % g.k * 64 + j) * g.c else segBase + s * g.c

/-- The zone that a stripe's chunks lie in, on a zoned grove. [DEDUCED, log entry 86] -/
def Grove.zoneOf (g : Grove) (s : Nat) : Option Nat := if g.zoned then some (s / 64 / g.k) else none

/-- Stripe, data chunk and block within it of a segment's OFF (R146). -/
def Grove.place (g : Grove) (seg off : Nat) : Nat × Nat × Nat :=
  (64 * seg + off / g.w, off % g.w / g.c, off % g.c)

/-- OFF of block `b` of data chunk `d` of a stripe. -/
def Grove.offOf (g : Grove) (s d b : Nat) : Nat := s % 64 * g.w + d * g.c + b

/-- Reserve segments RS (R147). -/
def Grove.rs (g : Grove) : Nat := max 16 (ceilDiv (g.segCount * g.reservePct) 100)

/-- Usable data capacity, blocks. -/
def Grove.usable (g : Grove) : Nat := (g.segCount - g.rs) * 64 * g.w

/-- Free segments. -/
def Grove.freeSegs (g : Grove) : Nat := g.segCount - g.segs.length

/-- Zone sets that a stream is still to write: the one that holds its segment, until the last segment of it is sealed (R171). -/
def Grove.heldSets (g : Grove) : List Nat :=
  [g.host, g.reloc, g.map].filterMap fun x => x.seg.bind fun a =>
    if a % g.k != g.k - 1 || (NMap.get? g.segs a).any (fun y => y.st == 0) then some (a / g.k) else none

/-- Slots not working. -/
def Grove.down (g : Grove) : Nat := (g.members.filter fun m => m.st != .working).length

/-- STATE of GROVE_GEOM: 1 optimal, 2 degraded, 3 offline; a grove under resynchronization is not optimal (R197). -/
def Grove.state (g : Grove) : Nat := if g.offline then 3 else if g.down > 0 || g.resync.isSome then 2 else 1

/-- Is stripe `s` rebuilt on a slot whose rebuild runs (R186, R190)? -/
def Grove.rebuiltAt (g : Grove) (slot s : Nat) : Bool :=
  let at_ : Rebuild → Bool := fun r => r.slot == slot && (match r.jointFrom with
    | none => s < r.cursor
    | some j => if r.wrap then s < r.cursor || j ≤ s else j ≤ s && s < r.cursor)
  g.rbA.any at_ || g.rbB.any at_

/-- The first and the second rebuild, while they run: those of an offline grove have stopped (R195, R203). -/
def Grove.running (g : Grove) : Option Rebuild × Option Rebuild := if g.offline then (none, none) else (g.rbA, g.rbB)

/-- Can a stripe be read from a slot (R186)? -/
def Grove.readable (g : Grove) (slot s : Nat) : Bool :=
  match g.members[slot]? with
  | some m => m.st == .working || (m.st == .rebuilding && g.rebuiltAt slot s)
  | none => false

/-- Does a slot take writes: its member or the spare taken into it (R183)? -/
def Grove.writable (g : Grove) (slot : Nat) : Bool := (g.members[slot]?).any fun m => m.st != .failed

/-- Drive of a slot. -/
def Grove.driveOf (g : Grove) (slot : Nat) : Nat := (g.members[slot]?).elim 0xFF (·.drive)

/-- The slot a drive holds as a working member or a taken spare. -/
def Grove.slotOf (g : Grove) (d : Nat) : Option Nat := g.members.findIdx? fun m => m.drive == d && m.st != .failed

/-- The grove and slot of a drive, if it is a working member or a taken spare. -/
def State.memberOf (s : State) (d : Nat) : Option (Nat × Nat) :=
  s.groves.findSome? fun p => (p.2.slotOf d).map fun i => (p.1, i)

/-! ### Parity window -/

/-- LAG_EN and LAG_MAX (Table 6.10). -/
def State.lagOn (s : State) : Bool := s.flag 0x0B000004 31
def State.lagMax (s : State) : Nat := max 1 (s.fld 0x0B000004 8 0)

/-- Stripes of a grove in the window. -/
def Grove.window (g : Grove) : Nat := (g.stripes.filter fun p => p.2.lagging).length

/-- The Pruner's mode (Table 6.8): 0 idle, 1 background, 2 urgent, 3 stalled. -/
def State.prunerMode (s : State) (g : Grove) : Nat :=
  let f := g.freeSegs
  if f ≤ 6 then 3
  else if f * 100 < s.fld 0x0C000004 15 8 * g.segCount then 2
  else if f * 100 < s.fld 0x0C000004 7 0 * g.segCount then 1
  else 0

/-! ### Rootlet queues (R321) -/

/-- Window base of a Rootlet (R326). -/
def rootBase (d : Nat) : Nat := 0x0F000000 + d * 0x80000

/-- Power-loss-protected class (R320). -/
def State.plp (s : State) (d : Nat) : Bool := !(s.drive d).info.vwc && !s.flag (rootBase d) 1

/-- Does a later write of the same zone wait behind this command? -/
def Drive.holdsUp (v : Drive) (c : DriveCmd) : Bool :=
  c.zone.isSome && v.queue.any fun x => x.isWrite && x.zone == c.zone && c.lba < x.lba

/-- Class of a command that waits at a drive, at this moment (R163, R321; N20 of Table 17.3). -/
def State.clsOf (s : State) (v : Drive) (c : DriveCmd) : Nat :=
  match c.cls, c.purpose with
  | some k, _ => k
  | none, .parity g _ _ =>
    if !s.lagOn || (s.grove? g).any (fun x => x.window * 2 ≥ s.lagMax) || v.holdsUp c then 0 else 1
  | none, _ => 0

/-- May the Rootlet issue commands to its drive? -/
def State.driveOpen (s : State) (d : Nat) : Bool :=
  let v := s.drive d
  let r := s.resSt (0x200 + d)
  v.st == .ready && !v.resetting && !v.disabling && !v.quiescing && r.sp < 3 && r.exiting.isNone

/-- Has the write of a stripe to a slot been handed to its Rootlet, or will there be none? -/
def Stripe.handed (g : Grove) (n slot : Nat) (x : Stripe) : Bool :=
  x.abandoned || x.missing.contains slot || (match g.chunkAt n slot with
    | some d => x.issued.contains d
    | none => x.pqIssued)

/-- A write to a zone goes only after those of every lower stripe of the zone: ascending LBA (R171). -/
def State.zoneTurn (s : State) (c : DriveCmd) : Bool :=
  let turn : Nat → Nat → Nat → Bool := fun gi n slot => (s.grove? gi).all fun g =>
    g.stripes.all fun p => p.1 ≥ n || g.zoneOf p.1 != g.zoneOf n || p.2.handed g p.1 slot
  match c.zone, c.purpose with
  | none, _ => true
  | _, .chunk gi n slot => turn gi n slot
  | _, .parity gi n q => (s.grove? gi).all fun g => turn gi n (if q then g.qSlot n else g.pSlot n)
  | _, _ => true

/-- Does the one-write-per-zone rule let the command go (R171)? [DEDUCED, log entry 86] -/
def State.zoneFree (s : State) (v : Drive) (c : DriveCmd) : Bool :=
  match c.zone with
  | none => true
  | some z => !c.isWrite || (!(v.atDrive.any fun x => x.isWrite && x.zone == some z)
      && !(v.queue.any fun x => x.isWrite && x.zone == some z && x.lba < c.lba) && s.zoneTurn c)

/-- The waiting command that is issued next, if any may be. -/
def State.nextDrive (s : State) (d : Nat) : Option DriveCmd :=
  let v := s.drive d
  let ok := v.queue.filter fun c => s.zoneFree v c
  if v.atDrive.length ≥ v.limit then none
  else match ok.find? fun c => s.clsOf v c == 0 with
    | some c => some c
    | none =>
      if (v.atDrive.filter fun c => c.cls == some 1).length < max 1 (s.fld (rootBase d + 0x18) 7 0) then ok.head?
      else none

/-- The lowest in-flight slot of a drive that no command holds (R312). [DEDUCED, log entry 66] -/
def Drive.freeSlot (v : Drive) : Nat := ((List.range 4096).find? fun i => !v.atDrive.any fun c => c.slot == i).getD 0

/-- Issue waiting commands while the drive takes them; `fuel` bounds their number. -/
def State.pumpDrive : Nat → Nat → State → State
  | 0, _, s => s
  | k + 1, d, s =>
    if !s.driveOpen d then s
    else match s.nextDrive d with
      | none => s
      | some c =>
        let v := s.drive d
        let b := rootBase d + 0x14
        let c' : DriveCmd :=
          { c with cls := some (s.clsOf v c), issuedAt := s.now, cmdMs := s.fld b 15 0,
                   abortMs := s.fld b 31 16, slot := v.freeSlot }
        let s := s.setDrive d { v with queue := v.queue.filter fun x => x.id != c.id, atDrive := v.atDrive ++ [c'] }
        State.pumpDrive k d (s.count (78 + d) 0 1)

/-- Issue what may go to a drive. -/
def State.kickDrive (d : Nat) (s : State) : State := s.pumpDrive (s.drive d).queue.length d

/-- Hand a command to a Rootlet. -/
def State.toDrive (d : Nat) (c : DriveCmd) (s : State) : State :=
  let v := s.drive d
  let s := s.setDrive d { v with queue := v.queue ++ [{ c with id := v.nextCmd }], nextCmd := v.nextCmd + 1 }
  s.kickDrive d

/-- Commands of a drive, at it or waiting. -/
def Drive.all (v : Drive) : List DriveCmd := v.atDrive ++ v.queue

/-! ### Bytes of P and Q (R145) -/

/-- Multiply by g = 0x02 in GF(2^8) with polynomial 0x11D. -/
def gfX (a : Byte) : Byte := if a.getLsbD 7 then (a <<< 1) ^^^ 0x1D#8 else a <<< 1

/-- Product in GF(2^8): `k` bits of `b` from its most significant one. -/
def gf8Loop : Nat → Byte → Byte → Byte → Byte
  | 0, _, _, z => z
  | k + 1, a, b, z => gf8Loop k a (b <<< 1) (if b.getLsbD 7 then gfX z ^^^ a else gfX z)

def gf8 (a b : Byte) : Byte := gf8Loop 8 a b 0#8

/-- Powers. -/
def gfPow (a : Byte) : Nat → Byte
  | 0 => 1#8
  | k + 1 => gf8 a (gfPow a k)

/-- Inverse. -/
def gfInv (a : Byte) : Byte := gfPow a 254

/-- g^i. -/
def gPow (i : Nat) : Byte := gfPow 2#8 i

/-- Bytes in a stored block. -/
def blockLen : Nat := 4112

/-- Sum of two blocks. -/
def xorB (a b : List Byte) : List Byte := List.zipWith (· ^^^ ·) a b

/-- A block times a constant. -/
def mulB (k : Byte) (a : List Byte) : List Byte := a.map (gf8 k)

/-- A block of zero bytes. -/
def zeroB : List Byte := List.replicate blockLen 0#8

/-- P over data blocks (chunk index and block). -/
def sumP (l : List (Nat × List Byte)) : List Byte := l.foldl (fun a p => xorB a p.2) zeroB

/-- Q over data blocks. -/
def sumQ (l : List (Nat × List Byte)) : List Byte := l.foldl (fun a p => xorB a (mulB (gPow p.1) p.2)) zeroB

/-- Missing data block `d` through P. -/
def viaP (have_ : List (Nat × List Byte)) (p : List Byte) : List Byte := xorB p (sumP have_)

/-- Missing data block `d` through Q. -/
def viaQ (have_ : List (Nat × List Byte)) (d : Nat) (q : List Byte) : List Byte :=
  mulB (gfInv (gPow d)) (xorB q (sumQ have_))

/-- Missing data block `x`, block `y` missing too, through P and Q. -/
def viaPQ (have_ : List (Nat × List Byte)) (x y : Nat) (p q : List Byte) : List Byte :=
  mulB (gfInv (gPow x ^^^ gPow y)) (xorB (xorB q (sumQ have_)) (mulB (gPow y) (xorB p (sumP have_))))

end Sys2Proof.Machine
end

