-- ==== Sys2Proof/Machine/PieceOps.lean ====
section
/-!
DEFINITION. Reads: host buffers (R71), drive-read pieces and shoots (R205 to R212), reconstruction (R191), lost data
(R193, R194), and what each finished read serves.
-/

namespace Sys2Proof.Machine

/-! ### Host buffers (R71, R72) -/

/-- Bytes of a block at the host: LBA format 0 or 1. -/
def State.hostBlock (s : State) (nsid : Nat) : Nat :=
  if (NMap.get? s.heart.ns nsid).any (fun n => n.flbas == 1) then 4112 else 4096

/-- Transfer length of a command. -/
def State.xferLen (s : State) (c : Cmd) : Nat := c.nlb * s.hostBlock c.nsid

/-- The runs of host memory behind bytes [off, off + len) of the data, fragment by fragment. -/
def walkFrags : List Frag → Nat → Nat → List Frag
  | [], _, _ => []
  | f :: t, off, len =>
    if len == 0 then []
    else if off ≥ f.len then walkFrags t (off - f.len) len
    else
      let n := min len (f.len - off)
      { f with offset := f.offset + BitVec.ofNat 48 off, len := n } :: walkFrags t 0 (len - n)

/-- The same for either form of data pointer. -/
def hostRuns (c : Cmd) (off len : Nat) : List Frag :=
  if c.dfmt == 1 then walkFrags c.frags off len
  else [{ handle := c.dpHandle, gen := c.dpGen, offset := c.dpOff + BitVec.ofNat 48 off, len := len }]

/-- Cut a run into packets of at most 8,192 bytes; `fuel` bounds their number. -/
def cutRun : Nat → Frag → List Frag
  | 0, _ => []
  | k + 1, f =>
    if f.len == 0 then []
    else if f.len ≤ 8192 then [f]
    else { f with len := 8192 } :: cutRun k { f with offset := f.offset + 8192#48, len := f.len - 8192 }

/-- The packets that carry bytes [off, off + len) of a command's data. -/
def packets (c : Cmd) (off len : Nat) : List Frag :=
  (hostRuns c off len).flatMap fun f => cutRun (f.len / 8192 + 1) f

/-- One data packet of a command: a WRITE with its bytes, or a READ (R22, R23). -/
def State.dataDesc (s : State) (tag : Nat) (c : Cmd) (f : Frag) (off : Nat) (pay : Option (List Byte))
    (shoot : Option Nat) : Desc :=
  let last := off + f.len == s.xferLen c
  { kind := if pay.isSome then .dataWrite tag off shoot else .dataRead tag off
    sid := c.sid, dst := (s.sess? c.sid).elim 0#32 (·.hostEp), op := if pay.isSome then 1#4 else 2#4
    region := f.handle, gen := f.gen, offset := f.offset, length := f.len, payload := pay.getD [], ar := last
    last := last, tc := (s.qp? c.qpid).elim 0 (·.tc) }

/-- Hand bytes of a command's data to Xylem as WRITEs. -/
def State.pushData (tag off : Nat) (bytes : List Byte) (shoot : Option Nat) (s : State) : State :=
  match s.cmd? tag with
  | none => s
  | some c =>
    let ps := packets c off bytes.length
    let s := match c.engine with
      | some e => s.engEvent e 0x23 ps.length (some c)
      | none => s
    let s := s.stamp tag 8
    (ps.foldl (fun (x : Nat × State) f =>
      (x.1 + f.len, x.2.request (x.2.dataDesc tag c f x.1 (some (slice bytes (x.1 - off) f.len)) shoot))) (off, s)).2

/-- Ask the host for bytes of a command's data by READs (R134, R92). -/
def State.pullData (tag off len : Nat) (s : State) : State :=
  match s.cmd? tag with
  | none => s
  | some c =>
    let s := s.stamp tag 8
    ((packets c off len).foldl (fun (x : Nat × State) f =>
      (x.1 + f.len, x.2.request (x.2.dataDesc tag c f x.1 none none))) (off, s)).2

/-! ### Serving blocks -/

/-- A stored block as the host sees it: format 0 without its protection information (R167). -/
def asHost (bs : Nat) (blk : List Byte) : List Byte := if bs == 4112 then blk else blk.take 4096

/-- All host bytes of a command that have been pulled, in order. -/
def Cmd.pulledBytes (c : Cmd) (len : Nat) : List Byte :=
  (c.pulled.foldl (fun acc p => acc.take p.1 ++ p.2 ++ acc.drop (p.1 + p.2.length)) (List.replicate len 0#8)).take len

/-- A Compare with both sides in hand ends: SCT 0x2, SC 0x85 where they differ. [DEDUCED, log entry 84] -/
def State.tryCompare (tag : Nat) (s : State) : State :=
  match s.cmd? tag with
  | none => s
  | some c =>
    let bs := s.hostBlock c.nsid
    let len := c.nlb * bs
    if c.status.isSome || c.opc != 5 || c.got.length < c.nlb || (c.pulled.map (·.2.length)).sum < len then s
    else
      let stored := (List.range c.nlb).flatMap fun i => asHost bs ((c.got.find? fun p => p.1 == i).elim [] (·.2))
      if stored == c.pulledBytes len then s.finishOk tag else s.fail tag 2 0x85

/-- Blocks of a reading command are in hand, or lost. With the last one the command has all its data and pins nothing more
(R126); with one lost it ends, naming the first lost LBA of its range (R138). [DEDUCED, log entry 98] -/
def State.gotBlocks (tag : Nat) (l : List (Nat × List Byte)) (s : State) : State :=
  let s := s.modCmd tag fun c =>
    let all := c.got.length + l.length ≥ c.nlb
    { c with got := c.got ++ l, handed := c.opc == 2 && all && c.lostAt.isNone, unpinned := all }
  match s.cmd? tag with
  | none => s
  | some c =>
    match c.lostAt with
    | none => s
    | some lba => if c.got.length ≥ c.nlb then s.finish tag { sct := 7, sc := 0x84, dw0 := w32 lba } else s

/-- Blocks of a command are in hand: a Read hands them to Xylem, a Compare keeps them. -/
def State.serve (tag at0 : Nat) (blks : List (List Byte)) (shoot : Option Nat) (s : State) : State :=
  match s.cmd? tag with
  | none => s
  | some c =>
    if c.status.isSome then s
    else
      let bs := s.hostBlock c.nsid
      let idx := rangeFrom at0 blks.length
      let keep : List (Nat × List Byte) := if c.opc == 5 then idx.zip blks else idx.map fun i => (i, [])
      let s := s.gotBlocks tag keep
      if c.opc == 5 then s.tryCompare tag
      else s.pushData tag (at0 * bs) (blks.flatMap (asHost bs)) shoot

/-- A block whose record is not DATA, as a read returns it (Table 5.3). -/
def State.direct (s : State) (lba : Nat) : Loc → List Byte
  | .zero => zeroBlock lba
  | .staged e off => ((NMap.get? s.sapw.entries e).bind fun x => (x.blocks[off]?).bind id).getD unmappedBlock
  | _ => unmappedBlock

/-! ### Segments and pins -/

/-- Is a segment pinned by a command or a shoot (R126, R208)? -/
def State.segPinned (s : State) (g seg : Nat) : Bool :=
  s.bud.cmds.any (fun p => !p.2.unpinned && (NMap.get? s.heart.ns p.2.nsid).any (fun n => n.grove == g)
    && p.2.pins.any fun x => match x.2 with | .data a _ => a == seg | _ => false)
  || s.pieces.any fun p => p.2.attachable && p.2.grove == g && p.2.seg == seg

/-- Mark a segment suspect (R191, R193). -/
def State.suspect (g seg : Nat) (s : State) : State :=
  s.modGrove g fun x => { x with segs := NMap.modify x.segs seg fun y => { y with suspect := true } }

/-! ### Lost data (R125, R138, R193, R194) -/

/-- Consecutive runs of a list of (NSID, LBA, seg, off), as (NSID, SLBA, count, seg, off). -/
def lostRuns : List (Nat × Nat × Nat × Nat) → List (Nat × Nat × Nat × Nat × Nat)
  | [] => []
  | (n, l, a, o) :: t =>
    match lostRuns t with
    | (n', l', k, a', o') :: u =>
      if n == n' && l' == l + 1 && a == a' && o' == o + 1 then (n, l, k + 1, a, o) :: u
      else (n, l, 1, a, o) :: (n', l', k, a', o') :: u
    | [] => [(n, l, 1, a, o)]

/-- Add an entry to the Lost Data Ranges page: a full page drops its oldest (R194). [DEDUCED, log entry 85] -/
def State.logLost (e : LostEntry) (s : State) : State :=
  let l := s.sapw.lost ++ [e]
  { s with sapw := { s.sapw with lost := if l.length > 1023 then l.drop 1 else l, lostTotal := s.sapw.lostTotal + 1 } }

/-- Mark a run lost: its LOST record, its entry of page 0xC2 and grove.data_lost. [DEDUCED, log entry 85] -/
def State.markLost (g : Nat) (cause : Nat) (r : Nat × Nat × Nat × Nat × Nat) (s : State) : State :=
  let (n, l, k, a, o) := r
  let s := s.append g n (.lost l k cause (some (a, o))) .none
  let s := s.logLost { nsid := n, slba := l, nlb := k, cause := cause, grove := g, seg := a, time := s.tb }
  let s := s.modGrove g fun x => { x with lostBlocks := x.lostBlocks + k }
  (s.suspect g a).raise (evSrc (8 + g) 8) (w32 n)

/-- A map page that cannot be reconstructed (R125): what it held is LOST at once, and a LOST record says so; a page that DRAM
still holds is not lost but dirty. [DEDUCED, log entry 85] -/
def State.losePage (g key : Nat) (s : State) : State :=
  if NMap.has s.heart.pages key then s.dirtyPage key s.camb.nextSeq
  else
    let (n, l, k) := pageSpan key
    let m := min k ((NMap.get? s.heart.ns n).elim 0 (·.nsze) - l)
    let s := s.append g n (.lost l m 2 none) .none
    let s := s.setRun n l m s.camb.nextSeq (fun _ x => match x with | .staged _ _ => false | _ => true) fun _ => .lost
    let s := s.logLost { nsid := n, slba := l, nlb := m, cause := 2, grove := g, seg := 0xFFFFFFFF, time := s.tb }
    let s := s.modGrove g fun x => { x with lostBlocks := x.lostBlocks + m }
    (s.usePage key).raise0 5 8

/-! ### Staging entries -/

/-- Slots and headers of the region (R152). -/
def State.storeSlots (s : State) : Nat :=
  (s.fld 0x0D000004 6 0 * 1024 - 16 - s.fld 0x06000004 10 0) * 1048576 / 4112
def State.slotsUsed (s : State) : Nat := (s.sapw.entries.map fun p => p.2.blocks.length).sum
def State.slotsFree (s : State) : Nat := s.storeSlots - s.slotsUsed
def State.headersFree (s : State) : Nat := 262144 - s.sapw.entries.length

/-- Take a staging entry. -/
def State.newEntry (e : Entry) (s : State) : Nat × State :=
  (s.sapw.nextEntry, { s with sapw := { s.sapw with
    entries := NMap.set s.sapw.entries s.sapw.nextEntry e, nextEntry := s.sapw.nextEntry + 1 } })

/-- The queue of a stream. -/
def Grove.stream (g : Grove) : Stream → StreamSt
  | .host => g.host
  | .reloc => g.reloc
  | .map => g.map
def Grove.setStream (g : Grove) (k : Stream) (x : StreamSt) : Grove :=
  match k with
  | .host => { g with host := x }
  | .reloc => { g with reloc := x }
  | .map => { g with map := x }

/-- A released entry's blocks wait for their place in the open stripe of its stream (R159); those of a resynchronization go
before others of the Pruner, but not into an entry that has begun (R199). -/
def State.queueEntry (n : Nat) (s : State) : State :=
  match NMap.get? s.sapw.entries n with
  | none => s
  | some e => s.modGrove e.grove fun g =>
      let x := g.stream e.stream
      let now := (List.range e.blocks.length).map fun i => (n, i)
      let first : Nat × Nat → Bool := fun b => (NMap.get? s.sapw.entries b.1).any fun y => y.ahead || y.placed > 0
      g.setStream e.stream { x with
        queue := if e.ahead then x.queue.takeWhile first ++ now ++ x.queue.dropWhile first else x.queue ++ now }

/-- Is there a header and a slot per block for an entry (R152)? -/
def State.entryFits (s : State) (e : Entry) : Bool := e.blocks.length ≤ s.slotsFree && s.headersFree > 0

/-- Stage an entry of the Pruner or the map stream; it waits where the region has no room for it (R152). -/
def State.stageOwn (e : Entry) (s : State) : State :=
  if s.sapw.queued.isEmpty && s.entryFits e then
    let (n, s) := s.newEntry e
    s.queueEntry n
  else { s with sapw := { s.sapw with queued := s.sapw.queued ++ [e] } }

/-- Stage what waits for room, oldest first; `fuel` bounds the number. -/
def State.stageQueued : Nat → State → State
  | 0, s => s
  | k + 1, s =>
    match s.sapw.queued with
    | [] => s
    | e :: t =>
      if s.entryFits e then
        let (n, s) := State.newEntry e { s with sapw := { s.sapw with queued := t } }
        State.stageQueued k (s.queueEntry n)
      else s

/-- Stage blocks for the RELOC stream: each block with where it came from (R154, R175). -/
def State.stageReloc (g : Nat) (ahead : Bool) (l : List ((Nat × Nat × Nat × Nat) × List Byte)) (s : State) : State :=
  if l.isEmpty then s
  else s.stageOwn { stream := .reloc, grove := g, released := true, blocks := l.map fun p => some p.2
                    src := l.map fun p => p.1, ahead := ahead }

/-! ### Pieces -/

/-- Blocks of a piece: stored block at block offset `b` of its chunk. -/
def Piece.at (p : Piece) (b : Nat) : Option (List Byte) := (p.data[b - p.b0]?).bind id

/-- The staged copy of a block of a stripe that has not left the window: read instead of reconstructing (R191). -/
def State.stagedCopy (s : State) (g : Grove) (stripe d b : Nat) : Option (List Byte) :=
  match NMap.get? g.stripes stripe with
  | none => none
  | some x =>
    match x.blocks[d * g.c + b]? with
    | none => if x.closed then some zeroB else none
    | some (e, i) => (NMap.get? s.sapw.entries e).bind fun y => (y.blocks[i]?).bind id

/-- Restore a dropped payload once every read of it is done; the packet is PACED again (R43). -/
def State.refetched (r : Nat) (s : State) : State :=
  let mine := s.pieces.filter fun p => p.2.refetch == some r
  match s.desc? r with
  | none => { s with pieces := s.pieces.filter fun p => p.2.refetch != some r }
  | some d =>
    if !d.refetch || !mine.all fun p => p.2.done then s
    else
      let s' := { s with pieces := s.pieces.filter fun p => p.2.refetch != some r }
      match d.kind with
      | .dataWrite tag off _ =>
        match s.cmd? tag with
        | none => s'
        | some c =>
          let bs := s.hostBlock c.nsid
          let g := (NMap.get? s.heart.ns c.nsid).bind fun n => s.grove? n.grove
          let first := off / bs
          let n := (off + d.length - 1) / bs + 1 - first
          let lost : Nat → Bool := fun i =>
            match c.pins.find? fun p => p.1 == c.slba + i, g with
            | some (_, .data seg o), some g =>
              let (st, dd, b) := g.place seg o
              mine.any fun p => p.2.stripe == st && p.2.d == dd && p.2.lost.contains b
            | _, _ => false
          match (rangeFrom first n).find? lost with
          | some i => s'.finish tag { sct := 7, sc := 0x84, dw0 := w32 (c.slba + i) }
          | none =>
            let blk : Nat → List Byte := fun i =>
              match c.pins.find? fun p => p.1 == c.slba + i, g with
              | some (_, .data seg o), some g =>
                let (st, dd, b) := g.place seg o
                ((mine.find? fun p => p.2.stripe == st && p.2.d == dd && p.2.b0 ≤ b && b < p.2.b0 + p.2.nb).bind
                  fun p => p.2.at b).getD unmappedBlock
              | some (l, x), _ => s.direct l x
              | none, _ => unmappedBlock
            let all := ((List.range n).map (· + first)).flatMap fun i => asHost bs (blk i)
            s'.modDesc r fun d =>
              { d with payload := slice all (off - first * bs) d.length, dropped := false, refetch := false, st := .paced }
      | _ => s'

/-- Cause of a lost mark: 3 while the stripe awaits its resynchronization (R193, R200). -/
def Grove.lostCause (g : Grove) (stripe : Nat) : Nat := if g.resync.any fun r => r.todo.contains stripe then 3 else 1

/-- A piece of a rebuilt payload takes its blocks from the shoot that it attached to (R213, Table 8.1). -/
def State.feedPiece (q : Nat) (p : Piece) (s : State) : State :=
  match s.piece? q with
  | none => s
  | some x =>
    let s := s.modPiece q fun x => { x with
      data := (rangeFrom x.b0 x.nb).map fun b => p.at b, lost := (rangeFrom x.b0 x.nb).filter fun b => p.lost.contains b
      done := true, doneAt := s.now }
    x.refetch.elim s fun r => s.refetched r

/-- One recipient gets its blocks, or learns that one is lost (R138, R212). [DEDUCED, log entry 59] -/
def State.serveRecip (p : Piece) (shoot : Option Nat) (r : Recip) (s : State) : State :=
  match r.piece, s.cmd? r.tag with
  | some q, _ => s.feedPiece q p
  | none, none => s
  | none, some c =>
    let s := s.stamp r.tag 7
    if c.status.isSome then s
    else match (rangeFrom r.b0 r.nb).find? fun b => p.lost.contains b with
    | some b =>
      let lba := c.slba + r.at0 + (b - r.b0)
      (s.modCmd r.tag fun c => { c with lostAt := some (c.lostAt.elim lba (min lba)) }).gotBlocks r.tag
        ((rangeFrom r.at0 r.nb).map fun i => (i, []))
    | none => s.serve r.tag r.at0 ((rangeFrom r.b0 r.nb).map fun b => (p.at b).getD unmappedBlock) shoot

/-- Is a Read or Compare at its translation: started, nothing pinned, nothing served? -/
def Cmd.translating (c : Cmd) : Bool :=
  c.isRead && c.stage == .running && c.status.isNone && c.pins.isEmpty

/-- A map page of an offline grove cannot be read: the commands that need it end with 7/84 and their first LBA in it; nothing
is marked lost (R195). -/
def State.failTranslating (key : Nat) (s : State) : State :=
  let (n, l, k) := pageSpan key
  (s.bud.cmds.filter fun p => p.2.translating && p.2.nsid == n && p.2.slba < l + k && l < p.2.slba + p.2.nlb).foldl
    (fun s p => s.finish p.1 { sct := 7, sc := 0x84, dw0 := w32 (max p.2.slba l) }) s

/-- Every block of a piece is in hand or lost: mark what is lost, and serve (R193, R195, R210). -/
def State.finishPiece (p : Nat) (s : State) : State :=
  match s.piece? p with
  | none => s
  | some x =>
    match s.grove? x.grove with
    | none => s
    | some g =>
      let slot := g.dSlot x.stripe x.d
      let live := (x.lost.filterMap fun b =>
        let off := g.offOf x.stripe x.d b
        (s.owner x.grove x.seg off).map fun o => (o.1, o.2, x.seg, off))
      let pages := x.lost.filterMap fun b => s.pageOwner x.grove x.seg (g.offOf x.stripe x.d b)
      let s := if g.offline || x.lost.isEmpty then s
        else
          let s := (lostRuns live).foldl (fun s r => s.markLost x.grove (g.lostCause x.stripe) r) s
          (pages.foldl (fun s k => if x.page == some k then s else s.losePage x.grove k) s).suspect x.grove x.seg
      let s := if x.repaired then
          (s.suspect x.grove x.seg).raise (evSrc (8 + x.grove) 7) (groveDetail slot (g.driveOf slot))
        else s
      let s := s.modPiece p fun y =>
        { y with done := true, doneAt := s.now, attachable := y.attachable && y.lost.isEmpty }
      let bytes := (x.data.map fun b => (b.getD []).length).sum
      let s := x.recips.foldl (fun s r => s.serveRecip x (if x.shoot then some p else none) r) s
      let s := if x.copy then
          s.stageReloc x.grove false ((rangeFrom x.b0 x.nb).filterMap fun b =>
            let off := g.offOf x.stripe x.d b
            match x.at b, s.owner x.grove x.seg off with
            | some blk, some (n, l) => some ((n, l, x.seg, off), blk)
            | some blk, none => (s.pageOwner x.grove x.seg off).map fun k => ((0, k, x.seg, off), blk)
            | none, _ => none)
        else s
      let s := match x.page with
        | some k =>
          if x.lost.isEmpty then s.usePage k
          else if g.offline then s.failTranslating k
          else s.losePage x.grove k
        | none => s
      let s := match x.refetch with
        | some r => s.refetched r
        | none => s
      (if x.shoot then s.retain p true bytes else s).closePiece p

/-- Nothing more is awaited of a piece: finish it. -/
def State.checkPiece (p : Nat) (s : State) : State :=
  match s.piece? p with
  | none => s
  | some x =>
    if !x.done && ((List.range x.nb).all fun i => ((x.data[i]?).bind id).isSome || x.lost.contains (x.b0 + i))
    then s.finishPiece p else s

/-- A block of a piece is in hand. -/
def State.gotBlock (p b : Nat) (blk : List Byte) (s : State) : State :=
  (s.modPiece p fun x => { x with data := setNth x.data (b - x.b0) (some blk) }).checkPiece p

/-- A block of a piece is lost. -/
def State.lostBlock (p b : Nat) (s : State) : State :=
  (s.modPiece p fun x => { x with lost := if x.lost.contains b then x.lost else x.lost ++ [b] }).checkPiece p

/-- Does a block pass as block `b` of a piece: no hole block, and the checks of R168, R169 and R123? -/
def State.pieceOk (s : State) (x : Piece) (g : Grove) (b : Nat) (blk : List Byte) : Bool :=
  blk != holeBlock && s.blockOk x.grove x.seg (g.offOf x.stripe x.d b) blk && x.page.all fun k => pageOk k blk

/-- Solve for a block whose reconstruction reads are all answered (Table 7.3). -/
def State.solve (p b : Nat) (s : State) : State :=
  match s.piece? p with
  | none => s
  | some x =>
    match s.grove? x.grove with
    | none => s
    | some g =>
      let st := x.stripe
      let got : Nat → Option (List Byte) := fun slot =>
        (x.recon.find? fun r => r.1 == b && r.2.1 == slot).bind fun r => r.2.2.bind id
      let data := (List.range (g.n - 2)).filter (· != x.d)
      let good : Nat → Option (List Byte) := fun d =>
        (got (g.dSlot st d)).bind fun blk =>
          if blk != holeBlock && s.liveOk x.grove x.seg (g.offOf st d b) blk then some blk else none
      let have_ := data.filterMap fun d => (good d).map fun blk => (d, blk)
      let miss := data.filter fun d => (good d).isNone
      let pB := got (g.pSlot st)
      let qB := got (g.qSlot st)
      let tries : List (List Byte) :=
        match miss, pB, qB with
        | [], some p, some q => [viaP have_ p, viaQ have_ x.d q]
        | [], some p, none => [viaP have_ p]
        | [], none, some q => [viaQ have_ x.d q]
        | [y], some p, some q => [viaPQ have_ x.d y p q]
        | _, _, _ => []
      let repaired := x.bad.contains b || miss.any fun d => g.readable (g.dSlot st d) st
      let s := s.modPiece p fun x => { x with recon := x.recon.filter (fun r => r.1 != b) }
      match tries.find? fun blk => s.pieceOk x g b blk with
      | some blk => (s.modPiece p fun x => { x with repaired := x.repaired || repaired }).gotBlock p b blk
      | none => s.lostBlock p b

/-- Are the reconstruction reads of a block all answered? -/
def Piece.reconDone (x : Piece) (b : Nat) : Bool := x.recon.all fun r => r.1 != b || r.2.2.isSome

/-- A drive read of blocks for a piece or its reconstruction. -/
def readCmd (purpose : Purpose) (lba nb cls : Nat) : DriveCmd :=
  { id := 0, purpose := purpose, isWrite := false, lba := lba, nb := nb, cls := some cls }

/-- A block is unavailable: take it from staging, or read what reconstructs it (R191). `rep`: for another reason than
a failed slot. -/
def State.missBlock (p b : Nat) (rep : Bool) (s : State) : State :=
  match s.piece? p with
  | none => s
  | some x =>
    match s.grove? x.grove with
    | none => s
    | some g =>
      match s.stagedCopy g x.stripe x.d b with
      | some blk => s.gotBlock p b blk
      | none =>
        let own := g.dSlot x.stripe x.d
        let others := (List.range g.n).filter (· != own)
        let ok : Nat → Bool := fun sl => g.readable sl x.stripe
        let s := s.modPiece p fun x =>
          { x with bad := if rep then x.bad ++ [b] else x.bad
                   recon := x.recon ++ others.map fun sl => (b, sl, if ok sl then none else some none) }
        let s := (others.filter ok).foldl (fun s sl =>
          s.toDrive (g.driveOf sl) (readCmd (.recon p b sl) (g.chunkLba x.stripe + b) 1 x.cls)) s
        if (s.piece? p).any fun x => x.reconDone b then s.solve p b else s

/-- Start a piece: one drive read where its slot can be read at the stripe, reconstruction otherwise (R186). -/
def State.startPiece (x : Piece) (e : Option (Nat × Nat)) (s : State) : State :=
  let p := s.nextPiece
  let x := { x with data := List.replicate x.nb none }
  let s := { s with pieces := NMap.set s.pieces p x, nextPiece := p + 1 }
  match s.grove? x.grove with
  | none => s
  | some g =>
    let slot := g.dSlot x.stripe x.d
    if g.readable slot x.stripe then
      let s := match e with
        | some (eng, tag) => (s.engEvent eng 0x22 1 (s.cmd? tag)).stamp tag 6
        | none => s
      s.toDrive (g.driveOf slot) (readCmd (.piece p 0) (g.chunkLba x.stripe + x.b0) x.nb x.cls)
    else (rangeFrom x.b0 x.nb).foldl (fun s b => s.missBlock p b false) s

/-! ### Map pages (R122 to R125) -/

/-- Grove of a namespace. -/
def State.groveOf (s : State) (nsid : Nat) : Nat := (NMap.get? s.heart.ns nsid).elim 0 (·.grove)

/-- The windows of a range, by their first LBA in it. -/
def windowsOf (slba nlb : Nat) : List Nat := (List.range ((slba + nlb - 1) / 256 + 1 - slba / 256)).map fun i => (slba / 256 + i) * 256

/-- The blocks of a range that lie in the window of `lba`. -/
def windowPart (slba nlb lba : Nat) : List Nat :=
  let lo := max slba (lba / 256 * 256)
  rangeFrom lo (min (slba + nlb) (lba / 256 * 256 + 256) - lo)

/-- Does the translation cache hold every entry that translates these blocks of a window? [DEDUCED, log entry 58] -/
def State.tcHit (s : State) (nsid : Nat) (blocks : List Nat) : Bool :=
  blocks.all fun b => (s.tcTag nsid b).any fun k => (NMap.getD s.heart.tc (tcSetOf nsid b) []).contains k

/-- Is a map page on its grove only? -/
def State.pageAway (s : State) (key : Nat) : Bool := !NMap.has s.heart.pages key && NMap.has s.heart.pageLoc key

/-- The pages that the lookups of a command need from the grove, tier by tier (Table 5.4): none of a window in the translation
cache or with its leaf page in DRAM; else its directory page, then its leaf page. [DEDUCED, log entry 58] -/
def State.pagesMissing (s : State) (c : Cmd) : List Nat :=
  (windowsOf c.slba c.nlb).flatMap fun lba =>
    let leaf := leafKey c.nsid lba
    let two := s.windowType c.nsid lba == 2
    if s.tcHit c.nsid (windowPart c.slba c.nlb lba) || (two && !s.pageAway leaf) then []
    else (if two then [dirKey c.nsid lba, leaf] else [dirKey c.nsid lba]).filter s.pageAway

/-- The page that a change of a window's blocks is made in: its leaf page, or the directory page of a TYPE 0 or 1 window. -/
def State.changePage (s : State) (nsid lba : Nat) : Nat :=
  if s.windowType nsid lba == 2 then leafKey nsid lba else dirKey nsid lba

/-- The pages on an online grove that a change of these runs of blocks needs and DRAM does not hold (R122).
 [DEDUCED, log entry 58] -/
def State.changeMissing (s : State) (nsid : Nat) (runs : List (Nat × Nat)) : List Nat :=
  if (s.grove? (s.groveOf nsid)).all (·.offline) then []
  else ((runs.flatMap fun r => windowsOf r.1 r.2).map (s.changePage nsid)).filter s.pageAway

/-- Has the page cache room for the pages that a change of these runs makes or touches, or must a write-back finish first (R124)?
 [DEDUCED, log entry 58] -/
def State.changeFits (s : State) (nsid : Nat) (runs : List (Nat × Nat)) : Bool :=
  (runs.flatMap fun r => windowsOf r.1 r.2).all fun lba =>
    s.pageFits (leafKey nsid lba) && s.pageFits (dirKey nsid lba)

/-- Read a map page from its grove, unless a read of it is out or the page cache has no room for it (R124). -/
def State.readPage (nsid key : Nat) (s : State) : State :=
  let g := s.groveOf nsid
  match NMap.get? s.heart.pageLoc key, s.grove? g with
  | some (seg, off), some x =>
    if s.pieces.any (fun p => p.2.page == some key && !p.2.done) || !s.pageFits key then s
    else
      let (st, d, b) := x.place seg off
      s.startPiece { grove := g, seg := seg, stripe := st, d := d, b0 := b, nb := 1, recips := [], page := some key } none
  | _, _ => s

end Sys2Proof.Machine
end

