-- ==== Sys2Proof/Machine/StripeOps.lean ====
section
/-!
DEFINITION. Stripes on their way to the members (spec/06): filling and closing, intent records, chunk, P and Q writes,
commit, the parity-lag window and the freeing of staging; the byte layouts of map pages, labels, summaries and intent
records.
-/

namespace Sys2Proof.Machine

/-! ### Byte layouts -/

/-- Put a CRC32C over a page whose CRC field is 0, at byte `i`. -/
def withCrc (i : Nat) (page : List Byte) : List Byte :=
  page.take i ++ leBytes 4 (Config.crc32c page).toNat ++ page.drop (i + 4)

/-- STATE, SEG and OFF of a record (Table 5.3). -/
def locCode : Loc → Nat × Nat × Nat
  | .unmapped => (0, 0, 0)
  | .data a o => (1, a, o)
  | .zero => (2, 0, 0)
  | .dealloc => (3, 0, 0)
  | .lost => (4, 0, 0)
  | .staged e o => (5, e, o)

/-- SEG and OFF as one 8-byte field (Tables 5.1, 5.2). -/
def locWord (a o : Nat) : List Byte := leBytes 8 (a * 2 ^ 17 + o)

/-- Runs of a window: first block, count, record; built from its last block down. -/
def windowRuns (loc : Nat → Loc) : Nat → List (Nat × Nat × Loc) → List (Nat × Nat × Loc)
  | 0, acc => acc
  | k + 1, acc =>
    let l := loc k
    match acc with
    | (f, n, x) :: t =>
      if f == k + 1 && locJoins l x then windowRuns loc k ((k, n + 1, l) :: t) else windowRuns loc k ((k, 1, l) :: acc)
    | [] => windowRuns loc k [(k, 1, l)]

/-- A leaf page (R119, Table 5.2). -/
def leafBytes (nsid w : Nat) (loc : Nat → Loc) : List Byte :=
  let rs := windowRuns loc 256 []
  let recs := rs.flatMap fun r =>
    let (st, a, o) := locCode r.2.2
    leBytes 8 (r.1 * 2 ^ 56 + (r.2.1 - 1) * 2 ^ 48 + st * 2 ^ 45 + a * 2 ^ 17 + o)
  withCrc 12 (fitBytes 4096 (leBytes 4 nsid ++ leBytes 5 w ++ leBytes 1 (rs.length - 1) ++ leBytes 6 0 ++ recs))

/-- The map entries of a window. -/
def windowOf (m : NMap Loc) (nsid lba : Nat) : NMap Loc :=
  m.filter fun p => mapKey nsid lba ≤ p.1 && p.1 < mapKey nsid lba + 256

/-- What the directory entry of a window holds as the directory page is written: the map entries that it reaches, and the
location of its leaf page. Of a window whose leaf page was never written it keeps what it last held (R118, R132). -/
def State.dirEntry (s : State) (nsid lba : Nat) : NMap Loc × Option (Nat × Nat) :=
  if s.windowType nsid lba != 2 then (windowOf s.heart.map nsid lba, none)
  else match NMap.get? s.heart.pageLoc (leafKey nsid lba) with
    | some p => (windowOf s.heart.onDrive nsid lba, some p)
    | none => (windowOf s.heart.rooted nsid lba, NMap.get? s.heart.rootedLoc (leafKey nsid lba))

/-- The windows of a directory page that reach anything, now or as the page was last written. -/
def State.dirWindows (s : State) (key : Nat) : List Nat :=
  let (n, lo, k) := pageSpan key
  let mine : List Nat → List Nat := fun l => (l.filter fun x => mapKey n lo ≤ x && x < mapKey n lo + k).map fun x => x % 2 ^ 48 / 256 * 256
  (mine (s.heart.map.map (·.1)) ++ mine (s.heart.rooted.map (·.1))).eraseDups

/-- What a page holds of the map as it is written, and the locations of a directory page's leaf pages. -/
def State.pageHolds (s : State) (key : Nat) : NMap Loc × NMap (Nat × Nat) :=
  if key % 2 == 0 then (s.pageImage key, [])
  else
    let n := (pageSpan key).1
    (s.dirWindows key).foldl (fun (a : NMap Loc × NMap (Nat × Nat)) w =>
      let (m, p) := s.dirEntry n w
      (m.foldl (fun (b : NMap Loc) (x : Nat × Loc) => NMap.set b x.1 x.2) a.1, p.elim a.2 fun q => NMap.set a.2 (leafKey n w) q)) ([], [])

/-- A map page as it is written back: a leaf page, or a directory page of 512 entries (R117, R118). -/
def State.pageBytes (s : State) (key : Nat) : List Byte :=
  let (n, lo, _) := pageSpan key
  if key % 2 == 0 then leafBytes n (lo / 256) fun i => s.loc n (lo + i)
  else (List.range 512).flatMap fun i =>
    let lba := lo + 256 * i
    match s.dirEntry n lba with
    | (_, some (a, o)) => leBytes 8 (2 * 2 ^ 62 + a * 2 ^ 17 + o)
    | ([], none) => leBytes 8 0
    | ((_, l) :: _, none) =>
      let (st, a, o) := locCode l
      leBytes 8 (1 * 2 ^ 62 + st * 2 ^ 59 + a * 2 ^ 17 + o)

/-- KIND of a record (Table 5.7). -/
def RecBody.kind : RecBody → Nat
  | .extentCommit _ _ => 1
  | .zero _ _ _ _ => 2
  | .deallocate _ _ => 3
  | .relocate _ => 4
  | .lost _ _ _ _ => 5
  | .pageWritten _ _ _ _ _ _ => 6
  | .segmentState _ _ _ => 7
  | .nsRecord _ _ => 8
  | .rebuildCursor _ _ _ _ _ => 9
  | .checkpoint _ => 10
  | .pad => 15

/-- The body of a record (Table 5.7), little-endian (R118); the level of a PAGE_WRITTEN is 0 for a leaf page, 1 for a directory
page. [DESIGN CHOICE, log entry 104] -/
def RecBody.bytes (seq : Nat) : RecBody → List Byte
  | .extentCommit f l => leBytes 8 f ++ l.flatMap fun m => leBytes 6 m.slba ++ leBytes 2 m.nlb ++ locWord m.seg m.off
  | .zero f a n d => leBytes 8 f ++ leBytes 6 a ++ leBytes 4 n ++ leBytes 1 (b2n d) ++ leBytes 5 0
  | .deallocate f l => leBytes 8 f ++ l.flatMap fun x => leBytes 6 x.1 ++ leBytes 4 x.2 ++ leBytes 2 0
  | .relocate l => l.flatMap fun m => leBytes 6 m.slba ++ leBytes 2 m.nlb ++ locWord m.fromA m.fromB ++ locWord m.seg m.off
  | .lost a n c _ => leBytes 6 a ++ leBytes 4 n ++ leBytes 1 c
  | .pageWritten key a o _ _ _ => leBytes 1 (key % 2) ++ leBytes 5 (key / 2 % 2 ^ 33) ++ locWord a o
  | .segmentState seg st live => leBytes 4 seg ++ leBytes 1 st ++ leBytes 4 live
  | .nsRecord act n =>
    let x : Namespace := n.getD { grove := 0, nsze := 0, ncap := 0, flbas := 0, dps := 0 }
    leBytes 1 act ++ leBytes 6 x.nsze ++ leBytes 6 x.ncap ++ leBytes 1 x.flbas ++ leBytes 1 x.dps ++ leBytes 1 0
      ++ leBytes 512 ((x.attached.map (2 ^ ·)).sum)
  | .rebuildCursor slot spare failed c fl => leBytes 1 slot ++ leBytes 1 spare ++ leBytes 1 failed ++ leBytes 8 c ++ leBytes 1 fl
  | .checkpoint tail => leBytes 8 (Config.rootImageAt seq).toNat ++ leBytes 6 tail
  | .pad => []

/-- A record as it lies in the ring (R131, Table 5.6). -/
def Rec.bytes (r : Rec) : List Byte :=
  withCrc 12 (fitBytes (16 * r.units) (leBytes 1 r.body.kind ++ leBytes 1 0 ++ leBytes 2 r.units ++ leBytes 6 r.seq
    ++ leBytes 2 (r.grove * 2 ^ 13 + r.nsid) ++ leBytes 4 0 ++ r.body.bytes r.seq))

/-- Pages of a segment summary (R172). -/
def summaryPages (seg : Nat) : Nat → List (Nat × Nat × Nat × Nat) → List (List Byte)
  | 0, _ => []
  | _, [] => []
  | k + 1, l =>
    let now := l.take 255
    let body := now.flatMap fun p => leBytes 4 p.1 ++ leBytes 6 p.2.1 ++ leBytes 2 p.2.2.1 ++ leBytes 4 p.2.2.2
    withCrc 12 (fitBytes 4096 (leBytes 4 seg ++ leBytes 2 now.length ++ leBytes 6 0 ++ leBytes 4 0 ++ body))
      :: summaryPages seg k (l.drop 255)

/-- Runs of a segment's contents: NSID, SLBA, length, OFF. -/
def summaryRuns : List (Nat × Nat × Nat) → List (Nat × Nat × Nat × Nat)
  | [] => []
  | (n, l, o) :: t =>
    match summaryRuns t with
    | (n', l', k, o') :: u =>
      if n == n' && l' == l + 1 && o' == o + 1 && k < 65535 then (n, l, k + 1, o) :: u else (n, l, 1, o) :: (n', l', k, o') :: u
    | [] => [(n, l, 1, o)]

/-- An intent record's block (Table 6.5). -/
def intentBytes (g : Nat) (i : Intent) : List Byte :=
  let r := i.ranges.flatMap fun x => leBytes 4 x.1 ++ leBytes 1 x.2.1 ++ leBytes 1 x.2.2.1 ++ leBytes 1 x.2.2.2 ++ leBytes 1 0
  withCrc 4092 (fitBytes 4096 (leBytes 4 0x49544E31 ++ leBytes 8 i.iseq ++ leBytes 1 g ++ leBytes 1 i.ranges.length
    ++ leBytes 1 (b2n i.plp) ++ leBytes 1 0 ++ r))

/-- A label's block (Table 6.3). -/
def labelBytes (l : Label) : List Byte :=
  withCrc 4092 (fitBytes 4096 (leBytes 4 0x4C424C31 ++ leBytes 8 l.lseq ++ leBytes 2 l.station ++ leBytes 1 l.grove
    ++ leBytes 1 l.slot ++ leBytes 1 l.n ++ leBytes 1 l.chunk ++ leBytes 1 (b2n l.zoned) ++ leBytes 1 l.reservePct
    ++ leBytes 8 l.cap ++ leBytes 8 l.ckpt ++ (fitBytes 24 (l.members.map (BitVec.ofNat 8 ·) ++ List.replicate 24 0xFF#8))
    ++ leBytes 1 l.spareFor))

/-! ### Segments -/

/-- Write a SEGMENT_STATE record (R172). -/
def State.segRecord (g seg st : Nat) (cont : Cont) (s : State) : State :=
  s.append g 0 (.segmentState seg st (s.live g seg)) cont

/-- Send Zone Open 1, Zone Finish 2 or Zone Reset 4 of a zone set to every member. -/
def Grove.zoneAll (x : Grove) (g u action : Nat) (s : State) : State :=
  x.members.foldl (fun s m => if m.st == .failed then s else
    s.toDrive m.drive { id := 0, purpose := .zone g u action, isWrite := false, lba := 0, nb := 0 }) s

/-- Seal a segment: its state, its record, its summary into the MAP stream (R159, R172); Zone Finish when it ends a
zone set (R171). -/
def State.sealSeg (g seg : Nat) (s : State) : State :=
  match s.grove? g with
  | none => s
  | some x =>
    match NMap.get? x.segs seg with
    | none => s
    | some y =>
      if y.st != 0 then s
      else
        let s := s.setGrove g { x with segs := NMap.set x.segs seg { y with st := 1, sealedAt := x.sealCount }
                                       sealCount := x.sealCount + 1 }
        let s := s.segRecord g seg 1 .none
        let runs := summaryRuns y.summary
        let pages := summaryPages seg (runs.length + 1) runs
        let s := if pages.isEmpty then s
          else s.stageOwn { stream := .map, grove := g, released := true
                            blocks := pages.map fun p => some (sealed p 0 0), src := pages.map fun _ => (1, seg, 0, 0) }
        if x.zoned && seg % x.k == x.k - 1 then x.zoneAll g (seg / x.k) 2 s else s

/-- Close the stripe that a stream fills, with padding (R160); its 64th stripe seals the segment. -/
def State.closeCur (g : Nat) (k : Stream) (s : State) : State :=
  match s.grove? g with
  | none => s
  | some x =>
    let st := x.stream k
    match st.cur with
    | none => s
    | some n =>
      let x := { x with stripes := NMap.modify x.stripes n fun y => { y with closed := true } }
      let s := s.setGrove g (x.setStream k { st with cur := none })
      if n % 64 == 63 then s.sealSeg g (n / 64) else s

/-! ### Filling (R159) -/

/-- What a block of an entry is, for a segment summary: NSID and LBA, or 0 and the page key. -/
def Entry.content (e : Entry) (i : Nat) : Nat × Nat :=
  match e.stream with
  | .host => (e.nsid, e.lba + i)
  | .reloc => (e.src[i]?).elim (0, 0) fun x => (x.1, x.2.1)
  | .map => (e.src[i]?).elim (0, 0) fun x => if x.1 == 0 then (0, x.2.1) else (0, 2 ^ 64 - 1)

/-- Move one queued block into the open stripe. -/
def State.placeOne (g : Nat) (k : Stream) (s : State) : State :=
  match s.grove? g with
  | none => s
  | some x =>
    let st := x.stream k
    match st.cur, st.queue with
    | some n, (e, i) :: rest =>
      let len := (NMap.get? x.stripes n).elim 0 fun y => y.blocks.length
      let c := (NMap.get? s.sapw.entries e).elim (0, 0) (·.content i)
      let off := n % 64 * x.w + len
      let x := { x with
        stripes := NMap.modify x.stripes n fun y => { y with blocks := y.blocks ++ [(e, i)], lastAdd := s.now }
        segs := NMap.modify x.segs (n / 64) fun y => { y with summary := y.summary ++ [(c.1, c.2, off)] } }
      let s := s.setGrove g (x.setStream k { st with queue := rest })
      let s := { s with sapw := { s.sapw with entries := NMap.modify s.sapw.entries e fun y =>
        { y with placed := y.placed + 1, stripes := if y.stripes.contains (n * 4 + g) then y.stripes else y.stripes ++ [n * 4 + g] } } }
      if len + 1 ≥ x.w then s.closeCur g k else s
    | _, _ => s

/-- Fill the open stripe of a stream from its queue; `fuel` bounds the blocks. -/
def State.fill : Nat → Nat → Stream → State → State
  | 0, _, _, s => s
  | f + 1, g, k, s =>
    match s.grove? g with
    | none => s
    | some x =>
      let st := x.stream k
      if st.cur.isSome && !st.queue.isEmpty then State.fill f g k (s.placeOne g k) else s

/-! ### Intent records (R166) -/

/-- Holders: the two lowest slots whose members are working. -/
def Grove.holderDrives (g : Grove) : List Nat := ((g.members.filter fun m => m.st == .working).map (·.drive)).take 2

/-- Ranges of one stream, segment by segment: in each from its lowest stripe still in flight, up to the bound. -/
def Grove.ranges (g : Grove) (k : Stream) (bound : Nat) : List (Nat × Nat × Nat × Nat) :=
  let code := match k with | .host => 0 | .reloc => 1 | .map => 2
  let mine := (g.stripes.filter fun p => p.2.stream == k).map (·.1)
  let of : Nat → List Nat := fun a => (mine.filter fun n => n / 64 == a).map (· % 64)
  let next := (g.stream k).next
  let ahead := (g.stream k).seg.elim [] fun cur => ((rangeFrom (64 * cur) (bound - 64 * cur)).map (· / 64)).eraseDups
  (mine.map (· / 64) ++ ahead).eraseDups.map fun a =>
    if ahead.contains a then
      (a, code, (of a).foldl min (if (g.stream k).seg == some a then min 63 (next - 1) else 0),
        if a == (bound - 1) / 64 then (of a).foldl max ((bound - 1) % 64) else 63)
    else (a, code, (of a).foldl min 63, 63)

/-- Write a new intent record with the given bounds to both holders. -/
def State.writeIntent (g : Nat) (b : Nat × Nat × Nat) (s : State) : State :=
  match s.grove? g with
  | none => s
  | some x =>
    let i : Intent :=
      { iseq := x.iseq + 1, plp := x.members.all fun m => m.st == .failed || s.plp m.drive, bounds := b
        ranges := (x.ranges .host b.1 ++ x.ranges .reloc b.2.1 ++ x.ranges .map b.2.2).take 32, left := x.holderDrives }
    let s := s.setGrove g { x with iseq := i.iseq, intent := some i, holders := x.holderDrives }
    x.holderDrives.foldl (fun s d => s.toDrive d
      { id := 0, purpose := .intent g i.iseq, isWrite := true, lba := 256 + i.iseq % 256, nb := 1, head := true
        data := [sealed (intentBytes g i) 0 (256 + i.iseq % 256)], fua := true }) s

/-- Bounds of the three streams. -/
def Grove.bounds (g : Grove) : Nat × Nat × Nat := (g.host.bound, g.reloc.bound, g.map.bound)

/-- A stripe at or above its stream's bound: write a record that covers it, unless one is on its way (R166).
 [DESIGN CHOICE, log entry 61] -/
def State.needIntent (g n : Nat) (k : Stream) (s : State) : State :=
  match s.grove? g with
  | none => s
  | some x =>
    if x.intent.isSome then s
    else
      let upto := n + s.fld 0x0B000004 23 16
      let b := x.bounds
      s.writeIntent g (match k with
        | .host => (max b.1 upto, b.2.1, b.2.2) | .reloc => (b.1, max b.2.1 upto, b.2.2) | .map => (b.1, b.2.1, max b.2.2 upto))

/-! ### Chunk, P and Q writes (R145, R161, R163) -/

/-- A staged block of the map stream, its reference tag made for its location (R169); its guard stays as it was staged. -/
def retag (blk : List Byte) (ref : Nat) : List Byte := blk.take 4106 ++ beBytes 6 ref

/-- The stored bytes of block `i` of a stripe: its staging copy (map pages tagged for their location), or padding. -/
def State.stripeBlock (s : State) (g : Grove) (n : Nat) (x : Stripe) (i : Nat) : List Byte :=
  match x.blocks[i]? with
  | none => zeroB
  | some (e, j) =>
    match NMap.get? s.sapw.entries e with
    | none => zeroB
    | some y =>
      let blk := ((y.blocks[j]?).bind id).getD zeroB
      if y.stream == .map || (y.content j).1 == 0 then retag blk (n / 64 * 131072 + (n % 64 * g.w + i))
      else blk

/-- Bytes of P and Q of a stripe at block offset `b`. -/
def State.parityBlock (s : State) (g : Grove) (n : Nat) (x : Stripe) (q : Bool) (b : Nat) : List Byte :=
  let l := (List.range (g.n - 2)).map fun d => (d, s.stripeBlock g n x (d * g.c + b))
  if q then sumQ l else sumP l

/-- P and Q with data chunk `d` accumulated, block by block (R11, R161). -/
def addChunk (d : Nat) (data : List (List Byte)) (pq : List (List Byte × List Byte)) : List (List Byte × List Byte) :=
  data.zipIdx.map fun x =>
    let (p, q) := (pq[x.2]?).getD (zeroB, zeroB)
    (xorB p x.1, xorB q (mulB (gPow d) x.1))

/-- The blocks of data chunk `d` of a stripe, read from staging. -/
def State.chunkData (s : State) (g : Grove) (n : Nat) (x : Stripe) (d : Nat) : List (List Byte) :=
  (rangeFrom (d * g.c) g.c).map (s.stripeBlock g n x)

/-- A finished P or Q block: as the syndrome unit left it in DRAM, or recomputed from staging where it is not there (R161). -/
def State.pqBlock (s : State) (g : Grove) (n : Nat) (x : Stripe) (q : Bool) (b : Nat) : List Byte :=
  match x.pq[b]? with
  | some p => if q then p.2 else p.1
  | none => s.parityBlock g n x q b

/-- Is data chunk `d` of the stripe complete: every block placed, or the stripe closed? -/
def Stripe.chunkFull (x : Stripe) (g : Grove) (d : Nat) : Bool := x.closed || (d + 1) * g.c ≤ x.blocks.length

/-- A write of `C` blocks of a stripe to a slot. -/
def State.stripeWrite (s : State) (g : Grove) (n slot : Nat) (purpose : Purpose) (cls : Option Nat)
    (data : List (List Byte)) : DriveCmd :=
  { id := 0, purpose := purpose, isWrite := true, lba := g.chunkLba n, nb := g.c, data := data, cls := cls
    fua := !s.plp (g.driveOf slot), zone := g.zoneOf n }

/-- Issue one data chunk (R161), its blocks checked on the way (R168). -/
def State.issueChunk (gi n d : Nat) (s : State) : State :=
  match s.grove? gi with
  | none => s
  | some g =>
    match NMap.get? g.stripes n with
    | none => s
    | some x =>
      let slot := g.dSlot n d
      let data := s.chunkData g n x d
      let bad := ((rangeFrom (d * g.c) g.c).zip data).any fun p => p.1 < x.blocks.length && !guardOk p.2
      let s := s.setGrove gi { g with stripes := NMap.set g.stripes n { x with
        issued := x.issued ++ [d], pq := addChunk d data x.pq } }
      let s := if bad then s.raise (evSrc (8 + gi) 2) (groveDetail slot (g.driveOf slot)) else s
      if g.writable slot && !x.missing.contains slot then
        let s := match x.engine with
          | some e => s.engEvent e 0x22 1 none
          | none => s
        s.toDrive (g.driveOf slot) (s.stripeWrite g n slot (.chunk gi n slot) (some 0) data)
      else s

/-- Issue every complete chunk of a stripe, once an intent record covers it. -/
def State.issueChunks (gi n : Nat) (s : State) : State :=
  match s.grove? gi with
  | none => s
  | some g =>
    match NMap.get? g.stripes n with
    | none => s
    | some x =>
      if x.abandoned || x.engine.isNone then s
      else
        let ready := (List.range (g.n - 2)).filter fun d => x.chunkFull g d && !x.issued.contains d
        if ready.isEmpty then s
        else if n < (g.stream x.stream).bound then
          let s := ready.foldl (fun s d => s.issueChunk gi n d) s
          s.modGrove gi fun g => { g with stripes := NMap.modify g.stripes n fun x =>
            { x with parityBuf := x.parityBuf && x.issued.length < g.n - 2 } }
        else s.needIntent gi n x.stream

/-- Every data chunk of the stripe is durable, or missing (R182). -/
def Stripe.dataDone (x : Stripe) (g : Grove) (n : Nat) : Bool :=
  x.closed && (List.range (g.n - 2)).all fun d =>
    x.missing.contains (g.dSlot n d) || x.durable.contains (g.dSlot n d)

/-- Issue P and Q: with the chunks where Parity Lag is off or a chunk is missing, else once the data is durable. -/
def State.issueParity (gi n : Nat) (s : State) : State :=
  match s.grove? gi with
  | none => s
  | some g =>
    match NMap.get? g.stripes n with
    | none => s
    | some x =>
      let all := x.issued.length ≥ g.n - 2
      if x.pqIssued || x.abandoned || !all || (s.lagOn && x.missing.isEmpty && !x.rewrite && !x.dataDone g n) then s
      else
        let skip : Nat → Bool := fun slot => !g.writable slot || x.missing.contains slot
        let put : Bool → Nat → State → State := fun q slot s =>
          if skip slot then s
          else s.toDrive (g.driveOf slot) (s.stripeWrite g n slot (.parity gi n q) none
            ((List.range g.c).map (s.pqBlock g n x q)))
        let x' := { x with pqIssued := true, pDone := x.pDone || skip (g.pSlot n), qDone := x.qDone || skip (g.qSlot n) }
        let s := s.setGrove gi { g with stripes := NMap.set g.stripes n x' }
        put true (g.qSlot n) (put false (g.pSlot n) s)

/-! ### Commit (R128, R162) -/

/-- Join neighbouring single-block moves of one namespace and FSEQ. -/
def joinMoves : List (Nat × Nat × MovePiece) → List (Nat × Nat × MovePiece)
  | [] => []
  | (n, f, m) :: t =>
    match joinMoves t with
    | (n', f', m') :: u =>
      if n == n' && f == f' && m'.slba == m.slba + m.nlb && m'.fromA == m.fromA && m'.fromB == m.fromB + m.nlb
          && m'.seg == m.seg && m'.off == m.off + m.nlb then (n, f, { m with nlb := m.nlb + m'.nlb }) :: u
      else (n, f, m) :: (n', f', m') :: u
    | [] => [(n, f, m)]

/-- Records of at most 64 pieces, one namespace and FSEQ each; `fuel` bounds their number. -/
def moveRecs : Nat → Stream → List (Nat × Nat × MovePiece) → List (Nat × RecBody)
  | 0, _, _ => []
  | _, _, [] => []
  | k + 1, st, (n, f, m) :: t =>
    let same := ((n, f, m) :: t).takeWhile fun x => x.1 == n && x.2.1 == f
    let now := (same.take 64).map (·.2.2)
    (n, if st == .host then .extentCommit f now else .relocate now)
      :: moveRecs k st (((n, f, m) :: t).drop now.length)

/-- The records that commit a stripe: the pieces whose condition holds now (R128). -/
def State.commitRecs (s : State) (g : Grove) (n : Nat) (x : Stripe) : List (Nat × RecBody) :=
  let info := (List.range x.blocks.length).filterMap fun i =>
    (x.blocks[i]?).bind fun p => (NMap.get? s.sapw.entries p.1).map fun e => (i, p.1, p.2, e)
  let off : Nat → Nat := fun i => n % 64 * g.w + i
  let moves := info.filterMap fun (i, en, j, e) =>
    match e.stream with
    | .host =>
      if s.loc e.nsid (e.lba + j) == .staged en j
      then some (e.nsid, e.fseq, { slba := e.lba + j, nlb := 1, fromA := en, fromB := j, seg := n / 64, off := off i }) else none
    | .reloc => (e.src[j]?).bind fun q =>
      if q.1 != 0 && s.loc q.1 q.2.1 == .data q.2.2.1 q.2.2.2
      then some (q.1, 0, { slba := q.2.1, nlb := 1, fromA := q.2.2.1, fromB := q.2.2.2, seg := n / 64, off := off i }) else none
    | .map => none
  let pages := info.filterMap fun (i, en, j, e) =>
    match e.stream with
    | .host => none
    | .reloc => (e.src[j]?).bind fun q =>
      if q.1 == 0 && NMap.get? s.heart.pageLoc q.2.1 == some (q.2.2.1, q.2.2.2)
      then some (q.2.1 / 2 / 2 ^ 33, RecBody.pageWritten q.2.1 (n / 64) (off i) (some (q.2.2.1, q.2.2.2)) [] []) else none
    | .map => (e.src[j]?).bind fun q =>
      if q.1 != 0 then none
      else ((NMap.get? s.heart.pages q.2.1).filter fun p => p.writing == some en).map fun p =>
        (q.2.1 / 2 / 2 ^ 33, RecBody.pageWritten q.2.1 (n / 64) (off i) none p.image p.leaves)
  let joined := joinMoves moves
  moveRecs (joined.length + 1) x.stream joined ++ pages

/-- Stripes that are in the window or about to enter it. -/
def Grove.windowHeld (g : Grove) : Nat :=
  (g.stripes.filter fun p => p.2.lagging || (p.2.committing > 0 && !(p.2.pDone && p.2.qDone))).length

/-- Commit a stripe where R162 or R182 allows it; it waits at LAG_MAX and raises grove.lag_full. -/
def State.commitStripe (gi n : Nat) (s : State) : State :=
  match s.grove? gi with
  | none => s
  | some g =>
    match NMap.get? g.stripes n with
    | none => s
    | some x =>
      let pq := x.pDone && x.qDone
      if x.committed || x.committing > 0 || x.abandoned || !x.dataDone g n then s
      else if pq || (s.lagOn && x.missing.isEmpty && g.windowHeld < s.lagMax) then
        let recs := s.commitRecs g n x
        let x' : Stripe := { x with committing := recs.length, waitLag := false
                                    committed := recs.isEmpty, lagging := recs.isEmpty && !pq }
        let s := s.setGrove gi { g with stripes := NMap.set g.stripes n x' }
        recs.foldl (fun s r => s.append gi r.1 r.2 (.stripe gi n)) s
      else if s.lagOn && x.missing.isEmpty && !x.waitLag then
        (s.setGrove gi { g with stripes := NMap.set g.stripes n { x with waitLag := true } }).raise (evSrc (8 + gi) 0) 0#32
      else s

/-! ### Assembling engines (R161) -/

/-- Parity buffers in use in a Bough's syndrome unit. -/
def State.parityBufs (s : State) (b : Nat) : Nat :=
  (s.groves.map fun p => (p.2.stripes.filter fun q => q.2.parityBuf && q.2.engine.any fun e => e / 16 == b).length).sum

/-- The engine that assembles the next stripe: round robin over the running ones whose Bough has a parity buffer free and can be
reached from the staging region on the Root die. [DESIGN CHOICE, log entry 61] -/
def State.assembler (s : State) : Option Nat :=
  ((List.range 64).map fun i => (s.asmNext + i) % 64).find? fun e =>
    s.running e && s.parityBufs (e / 16) < 16 && s.flows 5 (engineDie e)

/-- A stripe whose engine is gone is taken over by another one as soon as one can: it recomputes from staging the P and Q of the
chunks that have passed (R161). -/
def State.adopt (gi n : Nat) (s : State) : State :=
  match s.grove? gi, s.assembler with
  | some g, some e =>
    match NMap.get? g.stripes n with
    | none => s
    | some x =>
      if x.engine.isSome || x.abandoned || x.rewrite || x.issued.length ≥ g.n - 2 then s
      else
        let pq := x.issued.foldl (fun pq d => addChunk d (s.chunkData g n x d) pq) []
        ({ s with asmNext := (e + 1) % 64 }).setGrove gi { g with
          stripes := NMap.set g.stripes n { x with engine := some e, parityBuf := true, pq := pq } }
  | _, _ => s

/-- The assemblies of a Bough are to be taken over: their engines and parity buffers are gone (R161, Table 13.5). -/
def State.passStripes (b : Nat) (s : State) : State :=
  { s with groves := s.groves.map fun p => (p.1, { p.2 with stripes := p.2.stripes.map fun q =>
      (q.1, if q.2.engine.any fun e => e / 16 == b then { q.2 with engine := none, parityBuf := false } else q.2) }) }

/-! ### Leaving the window (R162, R164) -/

/-- Is a staging entry pinned by a command (R126)? -/
def State.entryPinned (s : State) (e : Nat) : Bool :=
  s.bud.cmds.any fun p => !p.2.unpinned && p.2.pins.any fun x => match x.2 with | .staged a _ => a == e | _ => false

/-- Free every staging entry that R164 lets go: placed whole, its stripes gone, not pinned. -/
def State.freeEntries (s : State) : State :=
  { s with sapw := { s.sapw with entries := s.sapw.entries.filter fun p =>
      !(p.2.released && p.2.placed ≥ p.2.blocks.length && p.2.stripes.isEmpty && !s.entryPinned p.1) } }

/-- A stripe is gone from the entries that it held blocks of. -/
def State.dropStripe (gi n : Nat) (s : State) : State :=
  let s := s.modGrove gi fun g => { g with stripes := NMap.erase g.stripes n }
  { s with sapw := { s.sapw with entries := s.sapw.entries.map fun p => (p.1, { p.2 with stripes := without p.2.stripes (n * 4 + gi) }) } }

/-- A committed stripe whose P and Q are durable leaves; the last of the window ends the members' work (N21 of Table 17.3). -/
def State.leaveStripe (gi n : Nat) (s : State) : State :=
  match s.grove? gi with
  | none => s
  | some g =>
    match NMap.get? g.stripes n with
    | none => s
    | some x =>
      if x.committed && x.pDone && x.qDone then
        let s := (s.dropStripe gi n).freeEntries
        if g.window == 1 && x.lagging then g.members.foldl (fun s m => s.restFrom (0x200 + m.drive)) s else s
      else s

/-- A stripe that lacks three chunks is abandoned (R182). -/
def State.abandonCheck (gi n : Nat) (s : State) : State :=
  s.modGrove gi fun g => { g with stripes := NMap.modify g.stripes n fun x =>
    if x.missing.length ≥ 3 && !x.committed then { x with abandoned := true, parityBuf := false } else x }

/-- Everything one stripe can do now. -/
def State.stepStripe (gi n : Nat) (s : State) : State :=
  (((((s.abandonCheck gi n).adopt gi n).issueChunks gi n).issueParity gi n).commitStripe gi n).leaveStripe gi n

/-! ### Hard flush (R108) -/

/-- Does a Flush cover the data of a staging entry (R107)? -/
def State.flushEntry (s : State) (c : Cmd) (e : Entry) : Bool :=
  e.stream == .host && e.released && s.flushCovers c e.nsid && e.fseq < c.fseq.getD 0

/-- The hard flushes that run. -/
def State.hardFlushes (s : State) : List Cmd :=
  (s.bud.cmds.filter fun p => p.2.isFlush && p.2.stage == .running && p.2.status.isNone
    && (s.sess? p.2.sid).any fun x => x.hardFlush).map (·.2)

/-- A hard flush closes the open stripe that holds covered data, once no more covered data waits to be placed in it (R108,
R160). -/
def State.closeCovered (gi : Nat) (s : State) : State :=
  match s.grove? gi with
  | none => s
  | some g =>
    let of : Cmd → Nat × Nat → Bool := fun c b => (NMap.get? s.sapw.entries b.1).any fun e => s.flushEntry c e
    match g.host.cur.bind fun n => NMap.get? g.stripes n with
    | none => s
    | some x =>
      if s.hardFlushes.any fun c => x.blocks.any (of c) && !g.host.queue.any (of c) then s.closeCur gi .host else s

/-- Everything a grove's streams and stripes can do now; an offline grove assembles nothing (R195). -/
def State.pumpGrove (gi : Nat) (s : State) : State :=
  match s.grove? gi with
  | none => s
  | some g =>
    if g.offline || !s.on 0x0B000000 then s
    else
      let s := ([Stream.host, .reloc, .map].foldl (fun s k => s.fill (g.w + 1) gi k) s).closeCovered gi
      let keys := (s.grove? gi).elim [] fun g => NMap.keys g.stripes
      let s := keys.foldl (fun s n => s.stepStripe gi n) s
      keys.foldl (fun s n => s.stepStripe gi n) s

/-! ### Landing write data (R94, R128, R134, R167, R168) -/

/-- Stored blocks of a Write from the host's bytes: protection information generated (format 0) or as supplied. -/
def storedBlocks (bs slba : Nat) : Nat → List Byte → List (List Byte)
  | 0, _ => []
  | k + 1, l => (if bs == 4112 then fitBytes 4112 (l.take 4112) else sealed (fitBytes 4096 (l.take 4096)) 0 slba)
      :: storedBlocks bs (slba + 1) k (l.drop bs)

/-- SC of the first intake check that fails: guard 0x82, reference tag 0x84. -/
def intakeBad (lba : Nat) : List (List Byte) → Option Nat
  | [] => none
  | b :: t => if !guardOk b then some 0x82 else if !refOk b lba then some 0x84 else intakeBad (lba + 1) t

/-- A Write reaches its release point: Stage change, RELEASED headers in ascending LBA order, waiters released (R134). -/
def State.landWrite (tag : Nat) (s : State) : State :=
  match s.cmd? tag with
  | none => s
  | some c =>
    let bs := s.hostBlock c.nsid
    let blks := storedBlocks bs c.slba c.nlb (c.pulledBytes (c.nlb * bs))
    let bad := if bs == 4112 then intakeBad c.slba blks else none
    let off := (s.grove? (s.groveOf c.nsid)).any (·.offline)
    match bad with
    | some sc => s.fail tag 2 sc
    | none =>
      if off then s.fail tag 2 0x80
      else
        let fill : NMap Entry → Nat → NMap Entry := fun m e => NMap.modify m e fun x =>
          { x with released := true, owner := none
                   blocks := ((blks.drop (x.lba - c.slba)).take x.blocks.length).map some }
        let s := { s with sapw := { s.sapw with entries := c.entries.foldl fill s.sapw.entries } }
        let seq := s.camb.nextSeq
        let s := (List.range c.nlb).foldl (fun s i =>
          s.setLoc c.nsid (c.slba + i) seq (.staged ((c.entries[i / 256]?).getD 0) (i % 256))) s
        let s := c.entries.foldl (fun s e => s.queueEntry e) s
        let s := match c.engine with
          | some e => s.engEvent e 0x24 c.nlb (some c)
          | none => s
        let s := (s.modCmd tag fun c => { c with stage := .released }).stamp tag 5
        let s := { s with sapw := { s.sapw with heading := if c.entries.length > 1 then some (tag, c.entries, s.now) else none } }
        (s.release tag).finishOk tag

/-- Does a Write hold all its data, and are the map pages that its Stage change touches in DRAM? -/
def State.landed (s : State) (c : Cmd) : Bool :=
  !c.admin && c.opc == 1 && c.stage == .running && c.status.isNone && !c.entries.isEmpty
    && (c.pulled.map (·.2.length)).sum ≥ s.xferLen c

/-- A Write that holds all its data: a map page of its blocks is read first, or waits for room (R122, R124); then the release point.
Nothing is released in a power-fail flush (R134, R155). -/
def State.tryRelease (tag : Nat) (s : State) : State :=
  match (s.cmd? tag).filter s.landed with
  | none => s
  | some c =>
    if s.sap.flush.isSome then s
    else match s.changeMissing c.nsid [(c.slba, c.nlb)] with
      | k :: _ => s.readPage c.nsid k
      | [] => if s.changeFits c.nsid [(c.slba, c.nlb)] then s.landWrite tag else s

/-- Every Write that waits for a map page. -/
def State.tryReleases (s : State) : State :=
  ((s.bud.cmds.filter fun p => s.landed p.2).map (·.1)).foldl (fun s t => s.tryRelease t) s

/-! ### The end of a flush (R107, R108) -/

/-- Has an entry data that is not yet durable on the members, with P and Q? -/
def Entry.volatile (e : Entry) : Bool := e.placed < e.blocks.length || !e.stripes.isEmpty

/-- Covered data that is not yet durable on members and can become so. -/
def State.flushOwes (s : State) (c : Cmd) : Bool :=
  s.sapw.entries.any fun p => s.flushEntry c p.2 && p.2.volatile && (s.grove? p.2.grove).any fun g => !g.offline

/-- Covered data that never will. -/
def State.flushStuck (s : State) (c : Cmd) : Bool :=
  s.sapw.entries.any fun p => s.flushEntry c p.2 && p.2.volatile && (s.grove? p.2.grove).any fun g => g.offline

/-- A Flush that has started ends when nothing it covers is still on its way. -/
def State.checkFlush (tag : Nat) (s : State) : State :=
  match s.cmd? tag with
  | none => s
  | some c =>
    if !c.isFlush || c.stage != .running || c.status.isSome then s
    else if (s.sess? c.sid).any (fun x => x.hardFlush) then
      if s.flushOwes c then s
      else if s.flushStuck c then s.fail tag 2 0x80 else s.finishOk tag
    else s.finishOk tag

/-- Every Flush that runs. -/
def State.checkFlushes (s : State) : State := (NMap.keys s.bud.cmds).foldl (fun s t => s.checkFlush t) s

end Sys2Proof.Machine
end

