-- ==== Sys2Proof/Machine/RebuildOps.lean ====
section
/-!
DEFINITION. Labels (spec/06: R151) and the rebuild sequencer (spec/07: R185 to R190, R193): what it reads, what it
reconstructs, what it writes to the spares, its passes and its end.
-/

namespace Sys2Proof.Machine

/-! ### Labels (R151) -/

/-- The label of a slot. [DESIGN CHOICE, log entry 33] -/
def State.labelOf (s : State) (gi : Nat) (g : Grove) (slot : Nat) : Label :=
  { lseq := g.lseq, ckpt := s.camb.ckptPos, station := s.fld 0x15200000 31 16, grove := gi, slot := slot, n := g.n, chunk := g.chunk
    zoned := g.zoned, reservePct := g.reservePct, cap := g.cap
    members := g.members.map fun m => if m.st == .failed then 0xFF else m.drive, spareFor := 0
    rebuilding := (List.range g.n).filter fun i => (g.members[i]?).any fun m => m.st == .rebuilding }

/-- A spare's label. -/
def State.spareLabel (s : State) (lseq mask : Nat) : Label :=
  { lseq := lseq, station := s.fld 0x15200000 31 16, grove := 0xFF, slot := 0xFF, n := 0, chunk := 0, zoned := false
    reservePct := 0, cap := 0, members := [], spareFor := mask }

/-- The highest LSEQ of the label copies on a drive, 0 without one (R151). -/
def State.newestLseq (s : State) (d : Nat) : Nat :=
  ((s.media.labels.filter fun p => p.1 / 2 == d).map (·.2.lseq)).foldl max 0

/-- Write a label to a drive, alternately to blocks 0 and 1 of its label area (R151, R169).
 [DESIGN CHOICE, log entry 33] -/
def State.sendLabel (d : Nat) (l : Label) (tag : Option Nat) (s : State) : State :=
  let b := (s.drive d).labelBlk
  (s.setDrive d { s.drive d with labelBlk := 1 - b }).toDrive d
    { id := 0, purpose := .label (some l) tag, isWrite := true, lba := b, nb := 1, head := true, data := [sealed (labelBytes l) 0 b] }

/-- Write the label of every member of a grove, with the next LSEQ, one for all of them (Table 7.1).
 [DESIGN CHOICE, log entry 33] -/
def State.writeLabels (gi : Nat) (tag : Option Nat) (s : State) : State :=
  match s.grove? gi with
  | none => s
  | some g =>
    let g := { g with lseq := g.lseq + 1 }
    let s := s.setGrove gi g
    (List.range g.n).foldl (fun s i => if g.writable i then s.sendLabel (g.driveOf i) (s.labelOf gi g i) tag else s) s

/-- Append a REBUILD_CURSOR record (Table 5.7): flag bit 3 says done. -/
def State.cursorRecord (gi : Nat) (r : Rebuild) (flags : Nat) (s : State) : State :=
  s.append gi 0 (.rebuildCursor r.slot r.spare r.failed r.cursor flags) .none

/-! ### Passes and cursors (R185, R190) -/

/-- The rebuilds that run. -/
def Grove.rebuilds (g : Grove) : List Rebuild := g.rbA.toList ++ g.rbB.toList

/-- Lowest segment of a bitmap at or above a stripe. -/
def nextBit (bitmap : List Nat) (cursor : Nat) : Option Nat := bitmap.find? fun a => cursor ≤ 64 * a + 63

/-- The segment that the pass comes to next: the lowest one of any bitmap from the lower cursor up.
 [DEDUCED, log entry 64] -/
def Grove.rbNextSeg (g : Grove) : Option Nat :=
  let pos := (g.rebuilds.map (·.cursor)).foldl min (g.rebuilds.head?.elim 0 (·.cursor))
  (g.rebuilds.filterMap fun r => nextBit r.bitmap pos).foldl (fun best a => some (best.elim a (min a))) none

/-- Change every rebuild of a grove. -/
def Grove.modRebuilds (g : Grove) (f : Rebuild → Rebuild) : Grove := { g with rbA := g.rbA.map f, rbB := g.rbB.map f }

/-- A slot's rebuild is complete (R188): the spare is a member. -/
def State.rebuilt (gi : Nat) (r : Rebuild) (s : State) : State :=
  match s.grove? gi with
  | none => s
  | some g =>
    let other : Option Rebuild → Option Rebuild := fun x => x.filter fun y => y.slot != r.slot
    let s := s.setGrove gi { g with members := g.members.set r.slot { drive := r.spare }
                                    rbA := other g.rbA, rbB := other g.rbB
                                    paused := g.paused && ((other g.rbA).isSome || (other g.rbB).isSome) }
    ((s.cursorRecord gi r 8).writeLabels gi none).raise (evSrc (8 + gi) 6) (groveDetail r.slot r.spare)

/-- A pass has come to its end: rebuilds with nothing left are complete, the others go back to their lowest segment, and a record
says so, so that each cursor is that of its newest record (R196).
 [DEDUCED, log entry 64] -/
def State.endPass (gi : Nat) (s : State) : State :=
  match s.grove? gi with
  | none => s
  | some g =>
    let done := g.rebuilds.filter fun r => r.bitmap.isEmpty
    let left := g.rebuilds.filter fun r => !r.bitmap.isEmpty
    let low := (left.filterMap fun r => r.bitmap.head?).foldl min ((left.head?.bind fun r => r.bitmap.head?).getD 0)
    let back : Rebuild → Rebuild := fun r => { r with cursor := 64 * low, wrap := true }
    let s := s.setGrove gi ({ g with rbSeg := none, rbNext := 0 }.modRebuilds fun r => if r.bitmap.isEmpty then r else back r)
    let s := done.foldl (fun s r => s.rebuilt gi r) s
    left.foldl (fun s r => s.cursorRecord gi (back r) 0) s

/-- A segment is durable on the spares (R185): its bits go, the cursors move, and records say so. -/
def State.segRebuilt (gi a : Nat) (s : State) : State :=
  match s.grove? gi with
  | none => s
  | some g =>
    let g := { g with rbSeg := none, rbNext := 0 }.modRebuilds fun r => { r with bitmap := without r.bitmap a }
    let next : Rebuild → Nat := fun r => max r.cursor
      (64 * ((g.rebuilds.filterMap fun x => nextBit x.bitmap (64 * a + 64)).foldl (fun best b => some (best.elim b (min b)))
        none).getD (a + 1))
    let s := s.setGrove gi (g.modRebuilds fun r => { r with cursor := next r })
    g.rebuilds.foldl (fun s r => s.cursorRecord gi { r with cursor := next r } 0) s

/-! ### One stripe (R185, R191, R193) -/

/-- Candidates for the missing data blocks at one offset (Table 7.3): each candidate gives every missing block. -/
def solutions (have_ : List (Nat × List Byte)) (miss : List Nat) (p q : Option (List Byte)) : List (List (Nat × List Byte)) :=
  match miss, p, q with
  | [], _, _ => [[]]
  | [x], some p, some q => [[(x, viaP have_ p)], [(x, viaQ have_ x q)]]
  | [x], some p, none => [[(x, viaP have_ p)]]
  | [x], none, some q => [[(x, viaQ have_ x q)]]
  | [x, y], some p, some q => [[(x, viaPQ have_ x y p q), (y, viaPQ have_ y x p q)]]
  | _, _, _ => []

/-! ### Resynchronization (R199, R200) -/

/-- Is a stripe consistent, from its chunks as read (none: unavailable)? [DEDUCED, log entry 65] -/
def Grove.consistent (g : Grove) (n : Nat) (chunk : Nat → Option (List (List Byte))) : Bool :=
  let data := List.range (g.n - 2)
  let row : Nat → List (Nat × List Byte) := fun b => data.filterMap fun d =>
    ((chunk (g.dSlot n d)).bind fun ch => ch[b]?).map fun blk => (d, blk)
  let at_ : Nat → Nat → Option (List Byte) := fun slot b => (chunk slot).bind fun ch => ch[b]?
  let miss := (List.range g.n).filter fun t => (chunk t).isNone
  (List.range g.c).all fun b =>
    match miss with
    | [] => at_ (g.pSlot n) b == some (sumP (row b)) && at_ (g.qSlot n) b == some (sumQ (row b))
    | [t] =>
      if t == g.qSlot n then at_ (g.pSlot n) b == some (sumP (row b))
      else if t == g.pSlot n then at_ (g.qSlot n) b == some (sumQ (row b))
      else match g.chunkAt n t, at_ (g.pSlot n) b with
        | some d, some p => at_ (g.qSlot n) b == some (sumQ ((d, viaP (row b) p) :: row b))
        | _, _ => false
    | _ => false

/-- A live block of an inconsistent stripe: as read where it passes the checks, else through P, else through Q (R200).
 [DEDUCED, log entry 65] -/
def State.resyncServe (s : State) (gi : Nat) (g : Grove) (n : Nat) (chunk : Nat → Option (List (List Byte))) (d b : Nat) :
    Option (List Byte) :=
  let ok : Nat → List Byte → Bool := fun d blk => blk != holeBlock && s.liveOk gi (n / 64) (g.offOf n d b) blk
  let at_ : Nat → Option (List Byte) := fun slot => ((chunk slot).bind fun ch => ch[b]?).filter (· != holeBlock)
  let good : Nat → Option (List Byte) := fun d => (at_ (g.dSlot n d)).filter (ok d)
  match good d with
  | some blk => some blk
  | none =>
    let data := List.range (g.n - 2)
    let have_ := data.filterMap fun x => (good x).map fun blk => (x, blk)
    let cands := solutions have_ (data.filter fun x => (good x).isNone) (at_ (g.pSlot n)) (at_ (g.qSlot n))
    (cands.filterMap fun c => (c.find? fun x => x.1 == d).map (·.2)).find? (ok d)

/-- Is a live data block of an inconsistent stripe unavailable for another reason than a failed slot (R191)? -/
def State.resyncBad (s : State) (gi : Nat) (g : Grove) (n : Nat) (chunk : Nat → Option (List (List Byte))) (d b : Nat) : Bool :=
  g.readable (g.dSlot n d) n && !((chunk (g.dSlot n d)).bind fun ch => ch[b]?).any fun blk =>
    blk != holeBlock && s.liveOk gi (n / 64) (g.offOf n d b) blk

/-- Move the live blocks of an inconsistent stripe: staged in RELOC entries ahead of other Pruner work, or lost with cause 3;
grove.sector_repaired where a repaired block was reconstructed. -/
def State.resyncMove (gi n : Nat) (chunk : Nat → Option (List (List Byte))) (s : State) : State :=
  match s.grove? gi with
  | none => s
  | some g =>
    let seg := n / 64
    let live := (List.range (g.n - 2)).flatMap fun d => (List.range g.c).filterMap fun b =>
      let off := g.offOf n d b
      match s.owner gi seg off, s.pageOwner gi seg off with
      | some (ns, lba), _ => some ((ns, lba, seg, off), s.resyncServe gi g n chunk d b)
      | none, some key => some ((0, key, seg, off), s.resyncServe gi g n chunk d b)
      | none, none => none
    let lost := (live.filter fun x => x.2.isNone).map (·.1)
    let s := (lostRuns (lost.filter fun x => x.1 != 0)).foldl (fun s r => s.markLost gi 3 r) s
    let s := (lost.filter fun x => x.1 == 0).foldl (fun s x => s.losePage gi x.2.1) s
    let s := s.stageReloc gi true (live.filterMap fun x => x.2.map fun blk => (x.1, blk))
    let repaired := live.any fun x =>
      let (_, d, b) := g.place seg x.1.2.2.2
      x.2.isSome && (s.resyncBad gi g n chunk d b || (!g.readable (g.dSlot n d) n
        && (List.range (g.n - 2)).any fun e => s.resyncBad gi g n chunk e b))
    let s := s.suspect gi seg
    if repaired then s.raise (evSrc (8 + gi) 7) (groveDetail 0 (g.driveOf 0)) else s

/-- The resynchronization is over (R200): the intent ring afresh, every label, grove.resync_done.
 [DEDUCED, log entry 65] -/
def State.resyncDone (gi : Nat) (s : State) : State :=
  match s.grove? gi with
  | none => s
  | some g =>
    let s := (s.setGrove gi { g with resync := none }).writeIntent gi g.bounds
    (s.writeLabels gi none).raise (evSrc (8 + gi) 11) 0#32

/-- A stripe is verified; with the last one the resynchronization is over. -/
def State.verified (gi n : Nat) (s : State) : State :=
  if !(s.grove? gi).any fun g => g.resync.any fun r => r.todo.contains n then s
  else
    let s := s.modGrove gi fun g => { g with resync := g.resync.map fun r => { r with todo := r.todo.erase n } }
    if (s.grove? gi).any fun g => g.resync.any fun r => r.todo.isEmpty then s.resyncDone gi else s

/-- Check a stripe whose chunks have been read, and move what lives in it where it is inconsistent (R199). A stripe in flight is
in staging whole and needs none (R191). [DEDUCED, log entry 65] -/
def State.checkStripe (gi n : Nat) (chunk : Nat → Option (List (List Byte))) (s : State) : State :=
  match s.grove? gi with
  | none => s
  | some g => if NMap.has g.stripes n || g.consistent n chunk then s else s.resyncMove gi n chunk

/-! ### One stripe of a rebuild (R185, R191, R193) -/

/-- What the sequencer finds at one offset of a stripe: per slot to be written its block, per live block that is lost its
place, and whether a block was repaired. -/
structure Found where
  put : List (Nat × List Byte) := []
  lost : List Nat := []
  /-- a data block, live or not, that nothing reconstructs -/
  gap : Bool := false
  repaired : Bool := false

/-- Does anything of a grove live at a location? -/
def State.liveAt (s : State) (gi seg off : Nat) : Bool := (s.owner gi seg off).isSome || (s.pageOwner gi seg off).isSome

/-- Rebuild block `b` of the chunks of a stripe for the slots `targets` from what the others answered.
 [DEDUCED, log entry 62; DEDUCED, log entry 64] -/
def State.rebuildAt (s : State) (gi : Nat) (g : Grove) (n : Nat) (targets : List Nat) (get : Nat → Option (List Byte))
    (b : Nat) : Found :=
  let seg := n / 64
  let data := List.range (g.n - 2)
  let live : Nat → Bool := fun d => s.liveAt gi seg (g.offOf n d b)
  let okAt : Nat → List Byte → Bool := fun d blk => blk != holeBlock && s.liveOk gi seg (g.offOf n d b) blk
  let read : Nat → Option (List Byte) := fun slot =>
    if targets.contains slot then none else (get slot).filter (· != holeBlock)
  let good : Nat → Option (List Byte) := fun d => (read (g.dSlot n d)).filter (okAt d)
  let have_ := data.filterMap fun d => (good d).map fun blk => (d, blk)
  let miss := data.filter fun d => (good d).isNone
  let cands := solutions have_ miss (read (g.pSlot n)) (read (g.qSlot n))
  let pick : Nat → Option (List Byte) := fun d =>
    let mine := cands.filterMap fun c => (c.find? fun x => x.1 == d).map (·.2)
    if live d then mine.find? (okAt d) else mine.head?
  let full := have_ ++ miss.filterMap fun d => (pick d).map fun blk => (d, blk)
  let all := full.length == g.n - 2
  let word : Nat → List Byte := fun slot =>
    if slot == g.pSlot n then (if all then sumP full else holeBlock)
    else if slot == g.qSlot n then (if all then sumQ full else holeBlock)
    else ((g.chunkAt n slot).bind pick).getD holeBlock
  { put := targets.map fun t => (t, word t)
    lost := miss.filter fun d => live d && (pick d).isNone
    gap := miss.any fun d => (pick d).isNone
    repaired := miss.any fun d => live d && !targets.contains (g.dSlot n d) && g.readable (g.dSlot n d) n && (pick d).isSome }

/-- Write the rebuilt chunks. -/
def State.rbWrites (gi : Nat) (g : Grove) (j : RbJob) (chunk : Nat → List (List Byte)) (s : State) : State :=
  let s := s.setGrove gi { g with rbJob := some { j with writes := j.targets } }
  j.targets.foldl (fun s t => s.toDrive (g.driveOf t)
    { s.stripeWrite g j.stripe t (.rbWrite gi j.id t) (some 1) (chunk t) with zone := g.zoneOf j.stripe }) s

/-- Every read of the stripe is answered: reconstruct, note what is lost, and write. -/
def State.rbSolve (gi : Nat) (s : State) : State :=
  match s.grove? gi with
  | none => s
  | some g =>
    match g.rbJob with
    | none => s
    | some j =>
      let n := j.stripe
      let found := (List.range g.c).map fun b => s.rebuildAt gi g n j.targets
        (fun slot => (j.got.find? fun x => x.1 == slot && x.2.1 == b).bind fun x => x.2.2) b
      let offs := (List.range (g.n - 2)).flatMap fun d => (List.range g.c).filterMap fun b =>
        if (found[b]?).any fun f => f.lost.contains d then some (g.offOf n d b) else none
      let lost := offs.filterMap fun off => (s.owner gi (n / 64) off).map fun o => (o.1, o.2, n / 64, off)
      let pages := offs.filterMap fun off => s.pageOwner gi (n / 64) off
      let s := (lostRuns lost).foldl (fun s r => s.markLost gi (g.lostCause n) r) s
      let s := pages.foldl (fun s k => s.losePage gi k) s
      let s := if found.any (·.gap) then s.suspect gi (n / 64) else s
      let s := if found.any (·.repaired) then
          (s.suspect gi (n / 64)).raise (evSrc (8 + gi) 7) (groveDetail (j.targets.headD 0) (g.driveOf (j.targets.headD 0)))
        else s
      let chunk : Nat → Option (List (List Byte)) := fun t =>
        (List.range g.c).mapM fun b => (j.got.find? fun x => x.1 == t && x.2.1 == b).bind fun x => x.2.2
      let s := if g.resync.any fun r => r.todo.contains n then (s.checkStripe gi n chunk).verified gi n else s
      match s.grove? gi with
      | none => s
      | some g' => s.rbWrites gi g' j fun t => found.map fun f => ((f.put.find? fun x => x.1 == t).elim holeBlock (·.2))

/-- A block of a chunk is read, or unavailable, for a rebuild. -/
def State.rbGot (gi job slot b : Nat) (blk : Option (List Byte)) (s : State) : State :=
  match (s.grove? gi).bind (·.rbJob) with
  | none => s
  | some j =>
    if j.id != job || j.got.any (fun x => x.1 == slot && x.2.1 == b) then s
    else
      let j := { j with got := j.got ++ [(slot, b, blk)] }
      let s := s.modGrove gi fun g => { g with rbJob := some j }
      if (s.grove? gi).any fun g => j.got.length ≥ j.slots.length * g.c then s.rbSolve gi else s

/-- The write of a rebuilt chunk is done; with the last one the sequencer goes on. -/
def State.rbWritten (gi job slot : Nat) (s : State) : State :=
  s.modGrove gi fun g =>
    match g.rbJob with
    | none => g
    | some j =>
      if j.id != job then g
      else
        let w := without j.writes slot
        if w.isEmpty then { g with rbJob := none, rbNext := g.rbNext + 1 } else { g with rbJob := some { j with writes := w } }

/-- Begin a stripe: one in flight is taken from staging (R186), any other is read from every slot that can be read. -/
def State.rbStart (gi a i : Nat) (s : State) : State :=
  match s.grove? gi with
  | none => s
  | some g =>
    let n := 64 * a + i
    let targets := (g.rebuilds.filter fun r => r.bitmap.contains a).map (·.slot)
    let slots := (List.range g.n).filter fun t => !targets.contains t && g.readable t n
    let j : RbJob := { id := g.rbJobs, stripe := n, targets := targets, slots := slots }
    let g := { g with rbSeg := some a, rbNext := i, rbJobs := g.rbJobs + 1, rbJob := some j }
    let s := s.setGrove gi g
    match NMap.get? g.stripes n with
    | some x => State.verified gi n <| s.rbWrites gi g j fun t => (List.range g.c).map fun b =>
        if t == g.pSlot n then s.parityBlock g n x false b
        else if t == g.qSlot n then s.parityBlock g n x true b
        else s.stripeBlock g n x ((g.chunkAt n t).getD 0 * g.c + b)
    | none => slots.foldl (fun s t => s.toDrive (g.driveOf t)
        { id := 0, purpose := .rbRead gi j.id t 0, isWrite := false, lba := g.chunkLba n, nb := g.c, cls := some 1 }) s

/-- What the sequencer can do now; a stripe that a resynchronization has yet to verify is checked as it is rebuilt (R199).
 [DEDUCED, log entry 64] -/
def State.pumpRebuild : Nat → Nat → State → State
  | 0, _, s => s
  | k + 1, gi, s =>
    match s.grove? gi with
    | none => s
    | some g =>
      if g.offline || g.paused || g.rebuilds.isEmpty || g.rbJob.isSome then s
      else match g.rbNextSeg with
        | none => State.pumpRebuild k gi (s.endPass gi)
        | some a =>
          let i := if g.rbSeg == some a then g.rbNext else 0
          if i ≥ 64 then s else s.rbStart gi a i

/-! ### Everything at once -/

/-- Every grove, and every Flush that waits on one. -/
def State.pump (s : State) : State :=
  let s := (s.stageQueued s.sapw.queued.length).tryReleases
  ((NMap.keys s.groves).foldl (fun s g => (s.pumpGrove g).pumpRebuild 4 g) s).checkFlushes

end Sys2Proof.Machine
end

