-- ==== Sys2Proof/Machine/FailOps.lean ====
section
/-!
DEFINITION. Member failure and spares (spec/07: R181 to R190, R195), the vault set (R156, R311), labels (R151),
containment (R314), and what the end of a drive command does (R322, R323).
-/

namespace Sys2Proof.Machine

/-! ### Vault (R156, R157, R311) -/

/-- Present untaken spares. -/
def State.spares (s : State) : List Nat :=
  (s.drives.filter fun p => p.2.spare.isSome && p.2.present && p.2.st != .off && (s.memberOf p.1).isNone).map (·.1)

/-- The vault drives, ascending. -/
def State.vault (s : State) : List Nat :=
  if s.groves.isEmpty then []
  else (s.groves.flatMap fun p => (p.2.members.filter fun m => m.st != .failed).map (·.drive)).foldl
    (fun l d => insertAsc d l) (s.spares.foldl (fun l d => insertAsc d l) [])

/-! The layout of a flush over `v` vault drives (R156): rows of `v - 1` data units of 1 MiB and their XOR parity unit. -/

/-- The place among the vault drives of the parity unit of row `r`, and of data unit `u` of it. -/
def vaultParity (v r : Nat) : Nat := r % v
def vaultData (v r u : Nat) : Nat := if u < r % v then u else u + 1

/-- The vault-area block of every unit of row `r`. -/
def vaultLba (r : Nat) : Nat := 512 + r * 256

/-- The 16 metadata bytes of a vault block: its CRC32C, the flush generation and the row (R156).
 [DEDUCED, log entry 73] -/
def vaultMeta (data : List Byte) (gen r : Nat) : List Byte := leBytes 4 (Config.crc32c data).toNat ++ leBytes 8 gen ++ leBytes 4 r

/-- A vault block: 4,096 bytes and their metadata. -/
def vaultBlock (data : List Byte) (gen r : Nat) : List Byte := data ++ vaultMeta data gen r

/-- XOR parity of blocks of the data units of a row. -/
def vaultXor (blocks : List (List Byte)) : List Byte := blocks.foldl xorB (List.replicate 4096 0#8)

/-- A vault header's block: generation, run, region size, V and the drive list (R156, R169). [DEDUCED, log entry 73] -/
def vaultHdrBytes (h : VaultHdr) : List Byte :=
  sealed (withCrc 4092 (fitBytes 4096 (leBytes 8 h.gen ++ leBytes 8 h.run ++ leBytes 1 h.region ++ leBytes 1 h.drives.length
    ++ leBytes 1 (b2n h.sealed) ++ h.drives.map (BitVec.ofNat 8 ·) ++ List.replicate 4096 0#8))) 0 2

/-- Write a vault header with FUA to block 2 of drives' label areas (R151, R155, R158). -/
def State.sendHeaders (ds : List Nat) (h : VaultHdr) (s : State) : State :=
  ds.foldl (fun s d => s.toDrive d
    { id := 0, purpose := .vaultHdr h, isWrite := true, lba := 2, nb := 1, head := true, data := [vaultHdrBytes h], fua := true }) s

/-- The header of the present run. -/
def State.runHeader (s : State) (drives : List Nat) (gen : Nat) (sealed : Bool) : VaultHdr :=
  { gen := gen, run := s.sapw.run, region := s.fld 0x0D000004 6 0, drives := drives, sealed := sealed }

/-- Mark the present run open on vault drives (R158). [DEDUCED, log entry 73] -/
def State.markOpen (ds : List Nat) (s : State) : State :=
  s.sendHeaders (s.vault.filter ds.contains) (s.runHeader s.vault s.sapw.gen false)

/-- Usable rate of a link, in units of 10 MB/s (Table 14.1). -/
def linkRate (gen width : Nat) : Nat := (match gen with | 6 => 3000 | 5 => 1400 | _ => 700) * width / 4

/-- rootlet.vault_slow for every vault drive below 10 GB/s (R311). -/
def State.checkVault (s : State) : State :=
  s.vault.foldl (fun s d =>
    let v := s.drive d
    if linkRate v.gen v.width < 1000 then s.raise0 (24 + d) 1 else s) s

/-! ### Spares (R150, R183, R184) -/

/-- Does a spare serve the grove? -/
def State.serves (s : State) (d gi : Nat) (g : Grove) : Bool :=
  let v := s.drive d
  v.st == .ready && (v.spare.any fun m => m == 0 || m / 2 ^ gi % 2 == 1) && (s.memberOf d).isNone
    && v.info.zoned.isSome == g.zoned && v.info.blocks ≥ g.cap
    && (!g.zoned || v.info.zoned.any fun z => z.1 == g.zone.1 && z.2.1 == g.zone.2.1)

/-- A stream leaves its segment, and on a zoned grove its zone set: Zone Finish where the set is not full, Zone Reset where nothing of
it is in use (R171, R175). [DEDUCED, log entry 86] -/
def State.leaveSet (gi : Nat) (k : Stream) (s : State) : State :=
  match s.grove? gi with
  | none => s
  | some g =>
    let was := g.heldSets
    let g := g.setStream k { g.stream k with seg := none, next := 0 }
    (was.filter fun u => g.zoned && !g.heldSets.contains u).foldl (fun s u =>
      g.zoneAll gi u (if (rangeFrom (u * g.k) g.k).all fun a => !NMap.has g.segs a then 4 else 2) s) (s.setGrove gi g)

/-- Put a spare into a failed slot and start its rebuild (R183, R190). [DESIGN CHOICE, log entry 61] -/
def State.takeSpare (gi slot spare : Nat) (s : State) : State :=
  match s.grove? gi with
  | none => s
  | some g0 =>
    let failed := g0.driveOf slot
    -- 1: close what each stream fills and seal its open segment
    let s := [Stream.host, .reloc, .map].foldl (fun s k =>
      let s := s.closeCur gi k
      match (s.grove? gi).bind fun g => (g.stream k).seg with
      | some a => (s.sealSeg gi a).leaveSet gi k
      | none => s) s
    match s.grove? gi with
    | none => s
    | some g =>
      -- 2: the bitmap
      let bitmap := NMap.keys g.segs
      let low := bitmap.head?.elim 0 (64 * ·)
      let from_ := (g.rebuilds.head?).map fun a => if g.zoned then a.cursor / (64 * g.k) * (64 * g.k) else a.cursor
      let r : Rebuild :=
        { slot := slot, spare := spare, failed := failed, bitmap := bitmap, cursor := from_.getD low, jointFrom := from_ }
      let g := { g with members := g.members.set slot { drive := spare, st := .rebuilding, failed := failed }
                        lseq := max g.lseq (s.newestLseq spare), rbSeg := none, rbNext := 0, rbJob := none
                        rbA := if g.rbA.isNone then some r else g.rbA
                        rbB := if g.rbA.isNone then g.rbB else some r }
      let s := (s.setGrove gi g).setDrive spare { s.drive spare with spare := none }
      -- 3 and 4: labels, record, event
      let s := s.writeLabels gi none
      let s := s.cursorRecord gi r 0
      ((s.raise (evSrc (8 + gi) 4) (groveDetail slot spare)).checkVault).pumpGrove gi

/-- The next number in the order of failures of all groves (R183, R184). -/
def State.nextFail (s : State) : Nat :=
  ((s.groves.flatMap fun p => p.2.members).map (·.failOrder)).foldl max 0 + 1

/-- The failed slots of a grove, oldest failure first. -/
def Grove.awaiting (g : Grove) : List Nat :=
  let l := (List.range g.n).filter fun i => (g.members[i]?).any fun m => m.st == .failed
  let ord : Nat → Nat := fun i => (g.members[i]?).elim 0 (·.failOrder)
  l.mergeSort fun a b => ord a ≤ ord b

/-- The lowest-indexed spare that serves the grove. -/
def State.spareFor (s : State) (gi : Nat) : Option Nat :=
  (s.grove? gi).bind fun g => s.spares.find? fun d => s.serves d gi g

/-- Take a spare into a failed slot where AUTO allows it and one serves; grove.no_spare otherwise (R183, R184). -/
def State.autoTake (gi slot : Nat) (s : State) : State :=
  match s.spareFor gi with
  | none => s.raise (evSrc (8 + gi) 5) (groveDetail slot ((s.grove? gi).elim 0 (·.driveOf slot)))
  | some d => if s.flag 0x0B00000C 31 then s.takeSpare gi slot d else s

/-! ### Reads that find their drive gone -/

/-- A drive read has no result: its blocks are unavailable (R191). -/
def State.missCmd (c : DriveCmd) (rep : Bool) (s : State) : State :=
  match c.purpose with
  | .piece p i =>
    match s.piece? p with
    | none => s
    | some x => (rangeFrom (x.b0 + i) c.nb).foldl (fun s b => s.missBlock p b rep) s
  | .recon p b slot =>
    let s := s.modPiece p fun x => { x with recon := x.recon.map fun r => if r.1 == b && r.2.1 == slot then (b, slot, some none) else r }
    if (s.piece? p).any fun x => x.recon.any (fun r => r.1 == b) && x.reconDone b then s.solve p b else s
  | .rbRead gi job slot b0 => (rangeFrom b0 c.nb).foldl (fun s b => s.rbGot gi job slot b none) s
  | _ => s

/-! ### Member failure (R181, R182, R189, R195) -/

/-- What a stripe loses with a slot (R182). [DEDUCED, log entry 62] -/
def Stripe.loseSlot (g : Grove) (n slot : Nat) (x : Stripe) : Stripe :=
  let x := { x with pDone := x.pDone || slot == g.pSlot n, qDone := x.qDone || slot == g.qSlot n }
  if x.committed || x.committing > 0 || x.missing.contains slot then x else { x with missing := x.missing ++ [slot] }

/-- The member of a slot fails (R181). -/
def State.failMember (gi slot : Nat) (s : State) : State :=
  match s.grove? gi with
  | none => s
  | some g =>
    match g.members[slot]? with
    | none => s
    | some m =>
      if m.st == .failed then s
      else
        let d := m.drive
        let g1 := { g with
          members := g.members.set slot { drive := d, st := .failed, failed := d, failOrder := s.nextFail }
          rbSeg := none, rbNext := 0, rbJob := none
          rbA := g.rbA.filter fun r => r.slot != slot
          rbB := g.rbB.filter fun r => r.slot != slot
          stripes := g.stripes.map fun p => (p.1, p.2.loseSlot g p.1 slot) }
        let off := !g.offline && g1.down ≥ 3
        let g2 := if off then { g1 with offline := true } else g1
        let v := s.drive d
        let s := (s.setGrove gi g2).setDrive d { v with settled := true, spare := none, queue := [] }
        let s := s.raise (evSrc (8 + gi) 3) (groveDetail slot d)
        let s := if off then s.raise (evSrc (8 + gi) 9) (groveDetail slot d) else s
        let s := v.queue.foldl (fun s c => s.missCmd c false) s
        let s := s.writeLabels gi none
        let s := if g.holders.contains d && !g2.offline then
            (s.writeIntent gi ((g.intent.map (·.bounds)).getD g.bounds)).raise (evSrc (8 + gi) 1) (groveDetail slot d)
          else s
        let s := if g2.offline then s else s.autoTake gi slot
        (s.checkVault).pump

/-- A drive fails as a member, if it is one. -/
def State.failDrive (d : Nat) (s : State) : State :=
  match s.memberOf d with
  | some (g, i) => s.failMember g i
  | none => s

/-! ### Containment (R314) -/

/-- Downstream-port containment: every command at the drive ends as failed and the member fails.
 [DEDUCED, log entry 66] -/
def State.contain (d : Nat) (s : State) : State :=
  let v := s.drive d
  let cmds := v.all
  let s := s.setDrive d { v with st := .contained, deadline := s.now + 100000000, queue := [], atDrive := []
                                 resetting := false, inited := false, spare := none }
  let s := (s.raise0 (24 + d) 2).failDrive d
  (cmds.foldl (fun s c => s.missCmd c false) s).pump

/-! ### The end of a drive command (Table 14.5) -/

/-- Count one unreadable sector of a drive; MEDIA_MAX in 24 hours fails the member (Table 7.1).
 [PRESUMED, log entry 60] -/
def State.badSector (d : Nat) (s : State) : State :=
  let v := s.drive d
  let day := 24 * 3600 * 1000000000
  let l := (v.media.filter fun t => s.now < t + day) ++ [s.now]
  let s := s.setDrive d { v with media := l }
  let top := s.fld 0x0B000010 23 16
  if top != 0 && l.length ≥ top then s.failDrive d else s

/-- Blocks of a successful read arrive (R168). -/
def State.readDone (d : Nat) (c : DriveCmd) (blocks : List (List Byte)) (s : State) : State :=
  match c.purpose with
  | .piece p i =>
    match s.piece? p with
    | none => s
    | some x =>
      (List.range c.nb).foldl (fun s j =>
        let b := x.b0 + i + j
        let blk := (blocks[j]?).getD []
        if (s.grove? x.grove).any fun g => s.pieceOk x g b blk then s.gotBlock p b blk
        else (s.badSector d).missBlock p b true) s
  | .recon p b slot =>
    let blk := (blocks[0]?).getD []
    let v : Option (List Byte) := if blk == holeBlock then none else some blk
    let s := s.modPiece p fun x => { x with recon := x.recon.map fun r => if r.1 == b && r.2.1 == slot then (b, slot, some v) else r }
    if (s.piece? p).any fun x => x.recon.any (fun r => r.1 == b) && x.reconDone b then s.solve p b else s
  | .rbRead gi job slot b0 =>
    (List.range c.nb).foldl (fun s j =>
      let b := b0 + j
      let blk := (blocks[j]?).getD []
      let bad := match s.grove? gi with
        | none => false
        | some g => match g.rbJob, g.rbJob.bind (fun x => g.chunkAt x.stripe slot) with
          | some x, some k =>
            let off := g.offOf x.stripe k b
            s.liveAt gi (x.stripe / 64) off && !(blk != holeBlock && s.liveOk gi (x.stripe / 64) off blk)
          | _, _ => false
      let s := if bad then s.badSector d else s
      s.rbGot gi job slot b (if bad || blk == holeBlock then none else some blk)) s
  | _ => s

/-- The write of a label is on the drive, in block 0 or 1 of its label area; an erased label is gone from both (R151). -/
def State.labelDone (d blk : Nat) (l : Option Label) (s : State) : State :=
  match l with
  | some l => { s with media := { s.media with labels := NMap.set s.media.labels (2 * d + blk) l } }
  | none => { s with media := { s.media with labels := s.media.labels.filter fun p => p.1 / 2 != d } }

/-- An intent record reached one holder; with both it is durable and moves the bounds (R166). -/
def State.intentDone (d gi iseq : Nat) (s : State) : State :=
  match s.grove? gi with
  | none => s
  | some g =>
    match g.intent with
    | none => s
    | some i =>
      if i.iseq != iseq then s
      else
        let i := { i with left := without i.left d }
        let s := { s with media := { s.media with intents := NMap.set s.media.intents d i } }
        if i.left.isEmpty then
          s.setGrove gi { g with intent := none
                                 host := { g.host with bound := i.bounds.1 }
                                 reloc := { g.reloc with bound := i.bounds.2.1 }
                                 map := { g.map with bound := i.bounds.2.2 } }
        else s.setGrove gi { g with intent := some i }

/-- A write is done. -/
def State.writeDone (d : Nat) (c : DriveCmd) (s : State) : State :=
  match c.purpose with
  | .chunk gi n slot => s.modGrove gi fun g =>
      { g with stripes := NMap.modify g.stripes n fun x => { x with durable := x.durable ++ [slot] } }
  | .parity gi n q => s.modGrove gi fun g =>
      { g with stripes := NMap.modify g.stripes n fun x =>
          if q then { x with qDone := true } else { x with pDone := true } }
  | .intent gi iseq => s.intentDone d gi iseq
  | .label l _ => s.labelDone d c.lba l
  | .vaultHdr h => { s with media := { s.media with headers := NMap.set s.media.headers d h } }
  | .format _ => s.setDrive d { s.drive d with formatted := true }
  | .rbWrite gi job slot => s.rbWritten gi job slot
  | _ => s

/-- Take a command from the drive. -/
def State.takeCmd (d id : Nat) (s : State) : State :=
  let v := s.drive d
  let left := v.atDrive.filter fun c => c.id != id
  let s := s.setDrive d { v with atDrive := left }
  if left.isEmpty && v.queue.isEmpty then s.restFrom (0x200 + d) else s

/-- Does a command change the drive: a write, or a zone or format command? -/
def DriveCmd.changes (c : DriveCmd) : Bool :=
  c.isWrite || (match c.purpose with | .zone _ _ _ => true | .format _ => true | .driveFlush => true | _ => false)

/-- A command ends in failure for good: its member fails, or its blocks are unavailable. -/
def State.cmdFailed (d : Nat) (c : DriveCmd) (s : State) : State :=
  if c.changes then s.failDrive d else s.missCmd c true

/-- The end of a drive command, as its drive reported it (R322, R323, Table 14.5). -/
def State.endCmd (d : Nat) (c : DriveCmd) (r : DriveResult) (s : State) : State :=
  let s := s.takeCmd d c.id
  let again : State → State := fun s => s.toDrive d
    { c with reissued := true, abortAt := none, cls := match c.purpose with | .parity _ _ _ => none | _ => c.cls }
  if (s.drive d).settled && (s.memberOf d).isNone then (s.missCmd c false).kickDrive d
  else
    let s := match r with
      | .success blocks =>
        if c.isWrite then (s.writeDone d c).count (78 + d) 2 (c.nb * 4096)
        else if c.changes then s.writeDone d c
        else (s.count (78 + d) 1 (c.nb * 4096)).readDone d c blocks
      | .error sct sc =>
        if c.changes then s.failDrive d
        else if sct == 2 && sc == 0x81 then
          if c.nb == 1 then (s.badSector d).missCmd c true
          else match c.purpose with
            | .piece p i => (List.range c.nb).foldl (fun s j =>
                s.toDrive d { c with
                  purpose := .piece p (i + j), lba := c.lba + j, nb := 1, reissued := false, abortAt := none }) s
            | .rbRead gi job slot b => (List.range c.nb).foldl (fun s j =>
                s.toDrive d { c with
                  purpose := .rbRead gi job slot (b + j), lba := c.lba + j, nb := 1, reissued := false, abortAt := none }) s
            | _ => s
        else if c.reissued then s.missCmd c true else again s
      | .aborted =>
        if c.zone.isSome && c.isWrite then s.failDrive d
        else if c.reissued then s.cmdFailed d c else again s
    s.kickDrive d

end Sys2Proof.Machine
end

