-- ==== Sys2Proof/Machine/Operands.lean ====
section
/-!
DEFINITION. The operand forms that commands of the block carry or read from host memory (spec/02, spec/03, spec/05):
doorbell words, queue-control blocks, submission entries, fragment tables, range lists, and the records that the station
writes into host memory.
-/

namespace Sys2Proof.Machine

/-! ### Doorbell word (R27) -/

/-- The DOORBELL payload. -/
structure Doorbell where
  sqv : Bool
  cqv : Bool
  qpid : Nat
  sqTail : Nat
  cqHead : Nat
  deriving DecidableEq, Repr

/-- Read the word; fields of a frame are most significant byte first (R3). -/
def doorbellOf (l : List Byte) : Doorbell :=
  let w := be l 0 2
  { sqv := w / 0x8000 == 1, cqv := w / 0x4000 % 2 == 1, qpid := w % 0x4000, sqTail := be l 2 2, cqHead := be l 4 2 }

/-! ### Queue-control block (Table 3.4) -/

/-- What the host wrote into the block, and whether every reserved byte and bit of it is 0. -/
structure Qcb where
  enable : Bool
  qp : Qp
  cleared : Bool
  deriving DecidableEq, Repr

/-- The 64 bytes of a block. -/
def qcbOf (sid : Nat) (l : List Byte) : Qcb :=
  let d0 := le l 0 4
  { enable := d0 % 2 == 1
    qp :=
      { sid := sid, notifyEn := d0 / 2 % 2 == 1, tc := d0 / 256 % 8, weight := max 1 (d0 / 65536 % 256)
        sqSize := le l 8 2 + 1, cqSize := le l 10 2 + 1, poll := le l 12 2, coalCount := le l 14 1, coalTime := le l 15 1
        sqHandle := w32 (le l 16 4), sqGen := BitVec.ofNat 16 (le l 20 2), sqOff := BitVec.ofNat 48 (le l 24 6)
        cqHandle := w32 (le l 32 4), cqGen := BitVec.ofNat 16 (le l 36 2), cqOff := BitVec.ofNat 48 (le l 40 6)
        shHandle := w32 (le l 48 4), shGen := BitVec.ofNat 16 (le l 52 2), shOff := BitVec.ofNat 48 (le l 56 6) }
    cleared := d0 / 4 % 64 == 0 && d0 / 2048 % 32 == 0 && d0 / 2 ^ 24 == 0
      && [22, 30, 38, 46, 54, 62].all fun i => le l i 2 == 0 }

/-- Are sizes, poll interval, reserved fields and offsets in range (CAUSE 0x01 of Table 3.5)? -/
def Qcb.inRange (b : Qcb) (admin : Bool) : Bool :=
  let okSize : Nat → Bool := fun n => 2 ≤ n && n ≤ (if admin then 4096 else 65536)
  okSize b.qp.sqSize && okSize b.qp.cqSize && b.qp.poll ≤ 10000 && b.cleared
    && b.qp.sqOff.toNat % 64 == 0 && b.qp.cqOff.toNat % 16 == 0 && b.qp.shOff.toNat % 16 == 0

/-! ### Submission entry (Tables 3.7 to 3.9) -/

/-- A command as its 64-byte entry gives it. -/
def entryOf (sid qpid port : Nat) (admin : Bool) (l : List Byte) : Cmd :=
  { sid := sid, qpid := qpid, admin := admin, port := port
    opc := le l 0 1, cid := le l 2 2, nsid := le l 4 4, fragCount := le l 16 2
    dpHandle := w32 (le l 24 4), dpGen := BitVec.ofNat 16 (le l 28 2), dfmt := le l 30 1
    dpOff := BitVec.ofNat 48 (le l 32 6)
    cdw10 := w32 (le l 40 4), cdw11 := w32 (le l 44 4), cdw12 := w32 (le l 48 4)
    cdw13 := w32 (le l 52 4), cdw14 := w32 (le l 56 4), cdw15 := w32 (le l 60 4) }

/-- FUSE and PSDT are 0, and DFMT is 0 or 1. -/
def entryFieldsOk (l : List Byte) (c : Cmd) : Bool := le l 1 1 % 4 == 0 && le l 1 1 / 64 == 0 && c.dfmt ≤ 1

/-- SLBA and plain block count of a command with one range (R72). -/
def Cmd.withRange (c : Cmd) : Cmd :=
  let lba := c.cdw10.toNat + c.cdw11.toNat * 2 ^ 32
  let n := bits c.cdw12 15 0 + 1
  { c with slba := lba, nlb := n, ranges := [(lba, n)] }

/-- Does Table 3.8 list the opcode? -/
def ioOpcode (o : Nat) : Bool := [0, 1, 2, 5, 8, 9].contains o

/-- Does Table 3.9 list the opcode? -/
def adminOpcode (o : Nat) : Bool :=
  [0x02, 0x06, 0x08, 0x09, 0x0A, 0x0C, 0x0D, 0x10, 0x11, 0x15, 0x18].contains o || (0xC0 ≤ o && o ≤ 0xC8)

/-- Opcodes that Bud serves in hardware (Table 3.9); Pith serves the others. [DEDUCED, log entry 47] -/
def budOpcode (o : Nat) : Bool := [0x08, 0x0C, 0x18].contains o

/-- Opcodes marked PRIV outright. -/
def privOpcode (o : Nat) : Bool := [0x0D, 0x10, 0x11, 0x15, 0xC0, 0xC1, 0xC4, 0xC5, 0xC6, 0xC7].contains o

/-- Opcodes marked "PRIV, or own session". -/
def ownOpcode (o : Nat) : Bool := [0xC2, 0xC3, 0xC8].contains o

/-- Features whose Set requires PRIV: those marked "station" (R87). -/
def stationFeature (fid : Nat) : Bool := fid == 0xC3

/-- May a session issue the admin command? -/
def Cmd.privOk (c : Cmd) (x : Session) : Bool :=
  x.priv || (!privOpcode c.opc && !(ownOpcode c.opc && bits c.cdw10 11 0 != c.sid)
    && !(c.opc == 0x09 && stationFeature (bits c.cdw10 7 0)))

/-- Bytes that an admin command's data pointer covers; 0 where it names no buffer (Table 3.9, R269, R376). -/
def Cmd.adminLen (c : Cmd) : Nat :=
  match c.opc with
  | 0x02 => (bits c.cdw10 31 16 + bits c.cdw11 15 0 * 65536 + 1) * 4
  | 0x06 => 4096
  | 0x0D => if bits c.cdw10 3 0 == 0 then 4096 else 0
  | 0x11 => (c.cdw10.toNat + 1) * 4
  | 0x15 => 4096
  | 0xC3 => 64
  | 0xC4 => bits c.cdw11 8 0 * 4
  | 0xC5 => if bit c.cdw11 31 then 0 else bits c.cdw11 8 0 * 4
  | 0xC8 => if bits c.cdw10 18 17 < 2 then (if bit c.cdw10 20 then 48 else 64) else 0
  | _ => 0

/-- Bytes of host data that an admin command reads before it is served (R71): Namespace Management create, Firmware Image
Download, Namespace Attachment, Register Write and Session Key Load. -/
def Cmd.dataIn (c : Cmd) : Nat := if c.admin && [0x0D, 0x11, 0x15, 0xC5, 0xC8].contains c.opc then c.adminLen else 0

/-! ### Fragments and ranges (R71, Table 4.1) -/

/-- Fragments of 16 bytes each. -/
def fragsOf : Nat → List Byte → List Frag
  | 0, _ => []
  | k + 1, l =>
    { handle := w32 (le l 0 4), gen := BitVec.ofNat 16 (le l 4 2), offset := BitVec.ofNat 48 (le l 6 6), len := le l 12 4 }
      :: fragsOf k (l.drop 16)

/-- Is every LENGTH in range? [DESIGN CHOICE, log entry 43] -/
def fragsOk (l : List Frag) : Bool := l.all fun f => 1 ≤ f.len && f.len ≤ 16777216

/-- Dataset Management ranges of 16 bytes: attributes, length, starting LBA. [PRESUMED, log entry 44] -/
def rangesOf : Nat → List Byte → List (Nat × Nat)
  | 0, _ => []
  | k + 1, l => (le l 8 8, le l 4 4) :: rangesOf k (l.drop 16)

/-! ### Records that the station writes -/

/-- STATE of a session as the host sees it (Tables 3.3, 3.18, 3.20). -/
def SessState.code : SessState → Nat
  | .opening => 0
  | .opened => 1
  | .resetting => 2
  | .closing => 0

/-- STATE of a queue pair (Table 3.4). -/
def QpState.code : QpState → Nat
  | .disabled => 0
  | .enabling => 1
  | .enabled => 1
  | .disabling => 2
  | .error => 3

/-- The session header (Table 3.3) with the given STATE. -/
def State.headerBytes (s : State) (sid st : Nat) (x : Session) : List Byte :=
  fitBytes 64 (leBytes 4 s.stationEp.toNat ++ leBytes 2 sid ++ leBytes 2 x.dbGen.toNat ++ leBytes 2 x.qpBase
    ++ leBytes 2 x.qpCount ++ leBytes 1 st ++ leBytes 3 0 ++ leBytes 4 x.resets)

/-- One PORT byte of Table 3.18 and 3.20. -/
def portByte : Option Nat → Byte
  | some p => BitVec.ofNat 8 (0x80 + p)
  | none => 0#8

/-- Ports from a register or CDW12: byte k has [7] valid, [5:0] code. -/
def portsOf (w : W32) : List (Option Nat) :=
  (List.range 4).map fun k => if bit w (8 * k + 7) then some (bits w (8 * k + 5) (8 * k)) else none

/-- STATE of a key slot: 0 empty, 1 valid, 2 exhausted (Tables 3.20, 11.4). -/
def State.keyState (s : State) (i : Nat) : Nat :=
  match NMap.get? s.bark.keys i with
  | none => 0
  | some k => if k.exhausted then 2 else 1

/-- The Session Query record (Table 3.20). -/
def State.queryBytes (s : State) (sid : Nat) : List Byte :=
  match (s.sess? sid).filter fun x => x.st == .opened || x.st == .resetting with
  | none => fitBytes 64 (leBytes 2 sid)
  | some x =>
    let keys := s.keyState (2 * sid) + 4 * s.keyState (2 * sid + 1) + 16 * (NMap.getD s.bark.tx sid 0)
    fitBytes 64 (leBytes 2 sid ++ leBytes 1 x.st.code ++ leBytes 1 (b2n x.priv) ++ leBytes 4 x.hostEp.toNat
      ++ x.ports.map portByte ++ leBytes 2 x.qpBase ++ leBytes 2 x.qpCount ++ leBytes 4 x.qcbHandle.toNat
      ++ leBytes 2 x.qcbGen.toNat ++ leBytes 2 x.dbGen.toNat ++ leBytes 6 x.qcbOff.toNat ++ leBytes 2 0 ++ leBytes 4 x.kato
      ++ leBytes 1 keys ++ leBytes 3 0 ++ leBytes 4 x.resets ++ leBytes 4 x.ctx)

end Sys2Proof.Machine
end

