-- ==== Sys2Proof/Machine/Sess.lean ====
section
/-!
DEFINITION. Sessions and queue pairs (spec/03): opening (R59), headers and STATUS words (R60, R61), queue-pair errors
(R77), disabling (R76), session reset and close (R78, R79, R110).
-/

namespace Sys2Proof.Machine

/-! ### Ports of a session -/

/-- The lowest of a list of port codes. -/
def lowest (l : List Nat) : Option Nat := (l.foldl (fun a n => insertAsc n a) []).head?

/-- Egress port that READs of an admin queue pair are forced out of: the lowest-numbered bound port of class ADMIN (R58),
or, when the session has lost it, the lowest-numbered bound port that is open (R246). [DEDUCED, log entry 82] -/
def State.adminVia (s : State) (x : Session) : Option Nat :=
  let open_ := (x.ports.filterMap id).filter fun p => s.portClass p != 0
  (lowest (open_.filter fun p => s.portClass p == 2)).orElse fun _ => lowest open_

/-- Has the session a bound port of class ADMIN? -/
def State.hasAdminPort (s : State) (x : Session) : Bool := x.ports.any fun p => p.any fun p => s.portClass p == 2

/-- Traffic class of a queue pair's packets; those of a queue pair whose block was never read take the plain one.
 [DESIGN CHOICE, log entry 10] -/
def State.qpTc (s : State) (q : Nat) : Nat := (s.qp? q).elim Config.plainTc.toNat (·.tc)

/-! ### Accesses to a session's QCB table -/

/-- Offset of a queue pair's block in the region of the QCB table. -/
def Session.blockOff (x : Session) (q : Nat) : BitVec 48 := x.qcbOff + BitVec.ofNat 48 (64 * (q - x.qpBase + 1))

/-- READ a queue-control block (R63, R64). [DESIGN CHOICE, log entry 10] -/
def State.readQcb (q : Nat) (s : State) : State :=
  match s.bud.sess.find? fun p => p.2.qpBase ≤ q && q < p.2.qpBase + p.2.qpCount with
  | none => s
  | some (sid, x) => s.request
      { kind := .qcb q, sid := sid, dst := x.hostEp, op := 2#4, region := x.qcbHandle, gen := x.qcbGen
        offset := x.blockOff q, length := 64, tc := s.qpTc q
        viaPort := if q == x.qpBase then s.adminVia x else none }

/-- WRITE the STATUS word of a queue pair's block (Table 3.4, bytes 4 to 7). -/
def State.writeStatus (q : Nat) (s : State) : State :=
  match s.qp? q with
  | none => s
  | some y =>
    match s.sess? y.sid with
    | none => s
    | some x =>
      let s := s.modQp q fun y => { y with statusOwed := false }
      s.request
        { kind := .status q, sid := y.sid, dst := x.hostEp, op := 1#4, region := x.qcbHandle, gen := x.qcbGen
          offset := x.blockOff q + 4#48, length := 4, tc := y.tc
          payload := leBytes 1 y.st.code ++ leBytes 1 y.cause ++ leBytes 2 0 }

/-- WRITE the session header with the given STATE (R60). [DESIGN CHOICE, log entry 10] -/
def State.writeHeader (sid st : Nat) (opening : Bool) (s : State) : State :=
  match s.sess? sid with
  | none => s
  | some x => s.request
      { kind := .header sid opening, sid := sid, dst := x.hostEp, op := 1#4, region := x.qcbHandle, gen := x.qcbGen
        offset := x.qcbOff, length := 64, tc := Config.plainTc.toNat, payload := s.headerBytes sid st x }

/-! ### Opening (R56, R57, R59) -/

/-- Does a port code name an arrival port that exists (Table 3.2, R239)? [DEDUCED, log entry 82] -/
def State.codeOk (s : State) (p : Nat) : Bool := if p < 32 then p % 4 < s.subPorts (p / 4) else p ≤ 0x22

/-- Distinct host endpoints of the sessions. -/
def State.endpoints (s : State) : List W32 := (s.bud.sess.map fun p => p.2.hostEp).eraseDups

/-- The first of checks 1 to 4 of R59 that fails; a QP_COUNT out of range fails the third. [DEDUCED, log entry 101] -/
def State.openCause (s : State) (sid : Nat) (x : Session) : Option Nat :=
  if (s.sess? sid).isSome then some 1
  else if !s.endpoints.contains x.hostEp && s.endpoints.length ≥ 1024 then some 2
  else if x.qpCount < 1 || x.qpCount > 256 || x.qpBase + x.qpCount > 16384
      || s.bud.sess.any (fun (p : Nat × Session) => p.2.qpBase < x.qpBase + x.qpCount && x.qpBase < p.2.qpBase + p.2.qpCount) then some 3
  else if !x.ports.all (fun p => p.all s.codeOk) then some 4
  else none

/-- Doorbell generation of a new session: one later than the ID last had; open to choice where it never had one.
 [DEDUCED, log entry 39] -/
def State.newGen (s : State) (sid : Nat) : Nat × State :=
  match NMap.get? s.bud.lastGen sid with
  | some g => ((g + 1) % 65536, s)
  | none => s.draw 65536

/-- Make the record and WRITE its header: the session is open once the WRITE is acknowledged. -/
def State.startOpen (sid : Nat) (x : Session) (s : State) : State :=
  let (g, s) := s.newGen sid
  let s := s.setSess sid { x with st := .opening, dbGen := BitVec.ofNat 16 g }
  let s := { s with bud := { s.bud with qps := s.bud.qps.filter fun p => p.1 < x.qpBase || x.qpBase + x.qpCount ≤ p.1
                                        hostLog := NMap.erase s.bud.hostLog sid } }
  s.writeHeader sid 1 true

/-- An OPEN failed: who asked learns the cause (R59). -/
def State.openFailed (tag : Option Nat) (cause : Nat) (s : State) : State :=
  match tag with
  | some t => s.finish t { sct := 0, sc := 2, dw0 := w32 cause }
  | none => { s with bud := { s.bud with openCause := cause } }

/-- Open a session from given fields. -/
def State.openSession (sid : Nat) (x : Session) (s : State) : State :=
  match s.openCause sid x with
  | some c => s.openFailed x.openTag c
  | none => s.startOpen sid x

/-- The header WRITE of an OPEN was acknowledged. -/
def State.opened (sid : Nat) (s : State) : State :=
  match s.sess? sid with
  | none => s
  | some x =>
    let s := s.setSess sid { x with st := .opened, openTag := none, kaSince := s.now }
    match x.openTag with
    | some t => s.finishOk t
    | none => s

/-- It was refused or failed: the record goes, then the failure is reported. -/
def State.openRefused (sid : Nat) (s : State) : State :=
  match s.sess? sid with
  | none => s
  | some x =>
    let s := { s with bud := { s.bud with sess := NMap.erase s.bud.sess sid, lastGen := NMap.set s.bud.lastGen sid x.dbGen.toNat } }
    s.openFailed x.openTag 5

/-! ### Fetches given up -/

/-- Give up the fetch and polls of a queue pair: answers still out go nowhere, reservations return (R42, R77). -/
def State.cancelFetch (q : Nat) (s : State) : State :=
  let mine : DescKind → Bool := fun k => k == .entries q || k == .shadow q true || k == .shadow q false
  let s := { s with xylem := { s.xylem with
    descs := s.xylem.descs.map fun (p : Nat × Desc) => if mine p.2.kind then (p.1, { p.2 with kind := .given q }) else p
    backlog := s.xylem.backlog.filter fun d => !mine d.kind } }
  (s.modQp q fun x => { x with job := none, sched := none, credits := x.credits + x.job.elim 0 (·.n) }).noteCredits

/-- Commands of a queue pair that no engine has been given and Pith has not begun. -/
def State.undispatched (s : State) (q : Nat) : List Nat :=
  (s.bud.cmds.filter fun p => p.2.qpid == q && p.2.status.isNone
    && (p.2.stage == .accepted || p.2.stage == .ledger || p.2.stage == .ready)).map (·.1)

/-- The Asynchronous Event Requests of a session go without a completion. [DEDUCED, log entry 49] -/
def State.dropAers (sid : Nat) (s : State) : State := (s.aers sid).foldl (fun s t => s.freeCmd t) s

/-! ### Queue-pair error (R77) -/

/-- A queue pair enters STATE 3. With CAUSE 0x08 the STATUS word waits for the next DOORBELL of the session (Table 3.5).
 [DEDUCED, log entry 40] -/
def State.qpError (q cause : Nat) (s : State) : State :=
  match s.qp? q with
  | none => s
  | some x =>
    if x.st == .error then s
    else
      let s := (s.cancelFetch q).modQp q fun x => { x with st := .error, cause := cause }
      let s := (s.undispatched q).foldl (fun s t => s.fail t 7 0x85) s
      let s := if (s.sess? x.sid).any (fun y => y.qpBase == q) then s.dropAers x.sid else s
      let s := if cause == 8 then s.modQp q fun x => { x with statusOwed := true } else s.writeStatus q
      s.raise (evSrc 4 19) (sessDetail x.sid (some q))

/-! ### Disabling (R76) -/

/-- Stop a queue pair on its way to STATE 0. -/
def State.startDisable (q : Nat) (s : State) : State :=
  ((s.cancelFetch q).modQp q fun x => { x with st := .disabling }).writeStatus q

/-- Does the queue pair still owe a NOTIFY, one that waits for COAL_TIME or is held back among them? -/
def Qp.owesNotify (x : Qp) : Bool := x.notifyEn && (x.notifyDue || x.unnotified > 0)

/-- Has the queue pair nothing left that R76 waits for? -/
def State.disableReady (s : State) (q : Nat) : Bool :=
  match s.qp? q with
  | none => false
  | some x => x.st == .disabling && !x.owesNotify && !(s.bud.cmds.any fun p => p.2.qpid == q)
      && !(s.xylem.descs.any fun p => p.2.kind.qp? == some q && p.2.kind.reserved)

/-! ### Detaching (R116, R429) -/

/-- Detach a session from every namespace at once, with the records that say so; of one being deleted, from the set that the
delete would leave if it were cut short. -/
def State.detachAll (sid : Nat) (s : State) : State :=
  let newest : Nat → Namespace → Namespace := fun id n =>
    if n.deleting then { n with attached := n.was } else (s.nsNewest id).getD n
  (s.heart.ns.filter fun p => p.2.attached.contains sid || (newest p.1 p.2).attached.contains sid).foldl (fun s p =>
    let n := newest p.1 p.2
    let s := { s with heart := { s.heart with
      ns := NMap.set s.heart.ns p.1 { p.2 with attached := without p.2.attached sid, was := without p.2.was sid } } }
    s.append n.grove p.1 (.nsRecord 3 (some { n with attached := without n.attached sid })) .none) s

/-! ### Session reset and close (R78, R79, R110) -/

/-- Has a command in stage S3 touched the host or a drive yet, or its change been recorded (Table 4.5, R111)? -/
def State.inS4 (s : State) (tag : Nat) (c : Cmd) : Bool :=
  s.owes tag || !c.got.isEmpty || !c.pulled.isEmpty || !c.entries.isEmpty
    || s.pieces.any (fun p => p.2.recips.any fun r => r.tag == tag)
    || s.camb.ring.any fun (r : Rec) => r.cont == Cont.command tag

/-- What a session reset does to one command (Table 4.5). [DEDUCED, log entry 49] -/
def State.resetCmd (tag : Nat) (s : State) : State :=
  match s.cmd? tag with
  | none => s
  | some c =>
    if c.status.isSome then
      if c.posted then s else (s.modCmd tag fun c => { c with discard := true }).tryPost tag
    else
      let s := { s with camb := { s.camb with waiting := s.camb.waiting.filter fun w => w.2.2.2 != Cont.command tag } }
      match c.stage with
      | .running =>
        if s.inS4 tag c then
          if s.camb.ring.any (fun (r : Rec) => r.cont == Cont.command tag) then s.modCmd tag fun c => { c with discard := true }
          else (s.modCmd tag fun c => { c with discard := true }).fail tag 0 8
        else s.fail tag 0 8
      | .released => s.modCmd tag fun c => { c with discard := true }
      | _ => s.fail tag 0 8

/-- Completions and NOTIFYs of a session that R42 kept are discarded by its reset. -/
def State.dropKept (sid : Nat) (s : State) : State :=
  (s.xylem.descs.filter fun p => p.2.sid == sid && p.2.st == .kept).foldl (fun s p =>
    let s := s.freeDesc p.1
    match p.2.kind with
    | .completion _ _ t => s.freeCmd t
    | _ => s) s

/-- Begin a session reset: header STATE 2, no more fetching, every command by its stage. `close`: who asked for a close,
where the reset is part of one. [DEDUCED, log entry 49] -/
def State.startReset (sid : Nat) (close : Option (Option Nat)) (s : State) : State :=
  match s.sess? sid with
  | none => s
  | some x =>
    if x.st != .opened then s
    else
      let s := (s.setSess sid { x with st := .resetting, closing := close, namedPages := [] }).writeHeader sid 2 false
      let s := ((s.bud.qps.filter fun p => p.2.sid == sid).map (·.1)).foldl (fun s q =>
        (s.cancelFetch q).modQp q fun y => { y with heldControl := false }) s
      let s := ((s.bud.cmds.filter fun p => p.2.sid == sid).map (·.1)).foldl (fun s t => s.resetCmd t) s
      s.dropKept sid

/-- Close a session (R79): reset it first, or let the reset that runs end in the close. `who`: the command that asks. -/
def State.closeSession (sid : Nat) (who : Option Nat) (s : State) : State :=
  match s.sess? sid with
  | none => s
  | some x =>
    if x.st == .resetting && x.closing.isNone then s.setSess sid { x with closing := some who }
    else s.startReset sid (some who)

/-- Can a Close act on the session: open, or resetting and not yet closing? -/
def State.closable (s : State) (sid : Nat) : Bool :=
  (s.sess? sid).any fun x => x.st == .opened || (x.st == .resetting && x.closing.isNone)

/-- Are the session's commands settled: none held, and no packet of it unanswered? -/
def State.resetReady (s : State) (sid : Nat) : Bool :=
  (s.sess? sid).any (fun x => x.st == .resetting) && !(s.bud.cmds.any fun p => p.2.sid == sid)
    && !(s.xylem.descs.any fun p => p.2.sid == sid) && !(s.xylem.backlog.any fun d => d.sid == sid)

/-- The end of a reset: DB_GEN bumped, every block that is not disabled written STATE 0 with CAUSE 0x06, and the header.
 [DEDUCED, log entry 49] -/
def State.finishReset (sid : Nat) (s : State) : State :=
  match s.sess? sid with
  | none => s
  | some x =>
    let s := s.setSess sid { x with dbGen := x.dbGen + 1#16, resets := x.resets + 1, fetchStopped := false, retxAt := none
                                    st := if x.closing.isSome then .closing else .opened, kaSince := s.now }
    let qs := (s.bud.qps.filter fun p => p.2.sid == sid && p.2.st != .disabled).map (·.1)
    let s := qs.foldl (fun s q => (s.modQp q fun y => { y with st := .disabled, cause := 6 }).writeStatus q) s
    let s := s.raise (evSrc 4 21) (sessDetail sid none)
    if x.closing.isSome then (s.detachAll sid).writeHeader sid 0 false else s.writeHeader sid 1 false

/-- Free a closed session: its record, its queue-pair range, its keys and shapers (R79, R268, R278). -/
def State.freeSession (sid : Nat) (s : State) : State :=
  match s.sess? sid with
  | none => s
  | some x =>
    let s := { s with
      bud := { s.bud with
        sess := NMap.erase s.bud.sess sid
        qps := s.bud.qps.filter fun p => p.2.sid != sid
        hostLog := NMap.erase s.bud.hostLog sid
        lastGen := NMap.set s.bud.lastGen sid x.dbGen.toNat }
      bark := { keys := NMap.erase (NMap.erase s.bark.keys (2 * sid)) (2 * sid + 1), tx := NMap.erase s.bark.tx sid }
      canopy := { s.canopy with sess := s.canopy.sess.filter fun p => p.1 / 4 != sid } }
    match x.closing with
    | some (some t) => s.finishOk t
    | _ => s

/-- The last packet of a closing session is answered. -/
def State.checkClosed (sid : Nat) (s : State) : State :=
  if (s.sess? sid).any (fun x => x.st == .closing) && !(s.xylem.descs.any fun p => p.2.sid == sid)
    && !(s.xylem.backlog.any fun d => d.sid == sid) then s.freeSession sid else s

/-- Every session whose bound ports are now all CLOSED resets (R78, R246). -/
def State.resetClosed (s : State) : State :=
  (s.bud.sess.filter fun p => p.2.st == .opened && p.2.ports.any (·.isSome)
    && p.2.ports.all fun c => c.all fun c => s.portClass c == 0).foldl
    (fun s p => s.startReset p.1 none) s

end Sys2Proof.Machine
end

