-- ==== Sys2Proof/Machine/Fetch.lean ====
section
/-!
DEFINITION. Doorbells, polling and fetch (R65 to R69, R428), the admission of fetched commands (R58, R70, R80) and the
reading of their fragment tables and range lists (R71).
-/

namespace Sys2Proof.Machine

/-! ### Completion credits (R50, R68, R428) -/

/-- A slot whose completion WRITE was retransmitted: its credit returns once one MPL has passed and the head has. -/
def State.releaseSlots (q : Nat) (s : State) : State :=
  match s.qp? q with
  | none => s
  | some x =>
    let out := x.heldSlots.filter fun h => h.2.2 && h.2.1 + s.mpl ≤ s.now
    s.modQp q fun x => { x with heldSlots := x.heldSlots.filter (fun h => !out.contains h), credits := x.credits + out.length }

/-- Bud's copy of the CQ head moves forward only (R428). -/
def State.moveHead (q h : Nat) (s : State) : State :=
  match s.qp? q with
  | none => s
  | some x =>
    if h ≥ x.cqSize then s.qpError q 5
    else
      let d := (h + x.cqSize - x.cqHead) % x.cqSize
      if d ≤ (x.cqTail + x.cqSize - x.cqHead) % x.cqSize then
        let passed := (List.range d).map fun i => (x.cqHead + i) % x.cqSize
        let held := x.heldSlots.map fun k => if passed.contains k.1 then (k.1, k.2.1, true) else k
        let keep := (passed.filter fun p => x.heldSlots.any fun k => k.1 == p).length
        (s.modQp q fun x => { x with cqHead := h, heldSlots := held, credits := x.credits + (d - keep) }).releaseSlots q
      else s

/-! ### READs of a queue pair -/

/-- A READ of a queue pair's memory. -/
def State.qpRead (q : Nat) (kind : DescKind) (h : W32) (g : BitVec 16) (off : BitVec 48) (len : Nat) (s : State) : State :=
  match s.qp? q with
  | none => s
  | some x =>
    match s.sess? x.sid with
    | none => s
    | some y => s.request
        { kind := kind, sid := x.sid, dst := y.hostEp, op := 2#4, region := h, gen := g, offset := off, length := len
          tc := x.tc, viaPort := if q == y.qpBase then s.adminVia y else none }

/-- READ the shadow record, for a fetch or for a poll. -/
def State.readShadow (q : Nat) (fetch : Bool) (s : State) : State :=
  match s.qp? q with
  | none => s
  | some x => s.qpRead q (.shadow q fetch) x.shHandle x.shGen x.shOff 16

/-- READ `n` entries at the SQ head. -/
def State.readEntries (q n : Nat) (s : State) : State :=
  match s.qp? q with
  | none => s
  | some x => s.qpRead q (.entries q) x.sqHandle x.sqGen (x.sqOff + BitVec.ofNat 48 (64 * x.sqHead)) (64 * n)

/-! ### Fetch (R67, R69, R98) -/

/-- Is it the session's admin queue pair? -/
def State.isAdmin (s : State) (q : Nat) : Bool :=
  (s.qp? q).any fun x => (s.sess? x.sid).any fun y => y.qpBase == q

/-- Context credits a session holds, those its fetches reserve among them. -/
def State.sessCtx (s : State) (sid : Nat) : Nat :=
  (s.sess? sid).elim 0 fun x => x.ctx + (s.bud.qps.map fun p =>
    if p.2.sid == sid && p.1 != x.qpBase then p.2.job.elim 0 (·.n) else 0).sum

/-- Context credits that a fetch of the queue pair may take. -/
def State.ctxRoom (s : State) (q : Nat) : Nat :=
  if s.isAdmin q then 65536
  else (s.qp? q).elim 0 fun x => min s.credits (s.fld 0x08000004 16 0 - s.sessCtx x.sid)

/-- Has the queue pair work that waits for a turn? -/
def State.hasWork (s : State) (q : Nat) : Bool :=
  match s.qp? q with
  | none => false
  | some x => x.st == .enabled && x.sched.isSome && x.job.isNone && x.credits > 0 && s.ctxRoom q > 0
      && (s.sess? x.sid).any fun y => y.st == .opened && !y.fetchStopped

/-- Queue pairs that wait for a turn, ascending. -/
def State.workers (s : State) : List Nat := (NMap.keys s.bud.qps).filter s.hasWork

/-- The queue pair whose turn it is (R69): the one that had the last turn while some of it remains or no other waits, else the
next in ascending order of QPID, round again after the highest. [DESIGN CHOICE, log entry 97] -/
def State.nextTurn (s : State) : Option Nat :=
  let l := s.workers
  match s.bud.turn with
  | none => l.head?
  | some (q, left) =>
    if l.contains q && (left > 0 || l.length == 1) then some q
    else (l.find? (q < ·)).orElse fun _ => l.head?

/-- What remains of a queue pair's turn: WEIGHT where one begins (R69). -/
def State.turnLeft (s : State) (q : Nat) : Nat :=
  match s.bud.turn with
  | some (p, left) => if p == q && left > 0 then left else (s.qp? q).elim 1 (·.weight)
  | none => (s.qp? q).elim 1 (·.weight)

/-- The turn passes to a queue pair, or goes on. -/
def State.takeTurn (q : Nat) (s : State) : State := { s with bud := { s.bud with turn := some (q, s.turnLeft q) } }

/-- Entries of the turn are used (R69). -/
def State.useTurn (q n : Nat) (s : State) : State :=
  { s with bud := { s.bud with turn := s.bud.turn.map fun t => if t.1 == q then (q, t.2 - n) else t } }

/-- Entries reserved and not accepted return to the turn. -/
def State.backTurn (q n : Nat) (s : State) : State :=
  { s with bud := { s.bud with turn := s.bud.turn.map fun t => if t.1 == q then (q, t.2 + n) else t } }

/-- May a fetch of the queue pair begin? -/
def State.canFetch (s : State) (q : Nat) : Bool :=
  s.on 0x09000000 && s.on 0x08000000 && s.xylem.started && s.sap.flush.isNone && s.nextTurn == some q

/-- The n of R67, bounded by what remains of the turn where another queue pair waits (R69) and by contexts (R98). -/
def State.fetchLen (s : State) (q : Nat) (x : Qp) (tail left : Nat) : Nat :=
  let avail := (tail + x.sqSize - x.sqHead) % x.sqSize
  let others := s.workers.any (· != q)
  let n := min (min avail x.credits) (min (max 1 (s.fld 0x09000004 7 0)) (x.sqSize - x.sqHead))
  min (min n (s.ctxRoom q)) (if others then left else 65536)

/-- Reserve and READ entries up to a tail. -/
def State.issueFetch (q tail left : Nat) (shadow : Bool) (s : State) : State :=
  match s.qp? q with
  | none => s
  | some x =>
    let n := s.fetchLen q x tail left
    let s := s.useTurn q n
    let s := s.modQp q fun x => { x with
      credits := x.credits - n, firstFetch := false
      job := some { n := n, issued := n > 0, waitShadow := shadow, tail := if shadow then none else some tail, t0 := s.tb
                    data := if n == 0 then some [] else none } }
    let s := if n > 0 then s.readEntries q n else s
    let s := if s.isAdmin q then s else s.noteCredits
    if shadow then s.readShadow q true else s

/-- A queue pair's turn: begin a fetch. -/
def State.startFetch (q : Nat) (s : State) : State :=
  match s.qp? q with
  | none => s
  | some x =>
    let left := s.turnLeft q
    let s := s.takeTurn q
    let shadowFirst (s : State) : State :=
      (s.modQp q fun x => { x with sched := none, firstFetch := false
                                   job := some { n := 0, waitShadow := true, shadowFirst := true, left := left } }).readShadow q true
    match x.sched with
    | none => s
    | some (.doorbell t) =>
      if s.flag 0x09000004 8 && t < x.sqSize && !x.firstFetch then
        (s.modQp q fun x => { x with sched := none }).issueFetch q t left true
      else shadowFirst s
    | some (.shadow t) =>
      if x.firstFetch then shadowFirst s
      else
        let n := s.fetchLen q x t left
        let s := s.modQp q fun x => { x with sched := none }
        if n == 0 then s else s.issueFetch q t left false

/-! ### Admission (R58, R70, R72, R80) -/

/-- Is the station in takeover, or without a control pair (R80, R298 to R300)? -/
def State.pithDown (s : State) : Bool := s.pith.take.isSome || s.pith.noControl

/-- Does the command move data by its data pointer? -/
def Cmd.hasData (c : Cmd) : Bool := !c.admin && (c.opc == 1 || c.opc == 2 || c.opc == 5 || c.opc == 9)

/-- Number of ranges of a Dataset Management command. -/
def Cmd.rangeCount (c : Cmd) : Nat := bits c.cdw10 7 0 + 1

/-- Bytes that the data pointer covers. -/
def State.dataLen (s : State) (c : Cmd) : Nat :=
  if c.admin then c.adminLen else if c.opc == 9 then 16 * c.rangeCount else s.xferLen c

/-- Is a fragment table, a range list or an admin command's data to be read before the command goes on? -/
def Cmd.tables (c : Cmd) : Bool :=
  if c.admin then (c.dfmt == 1 && c.adminLen > 0) || c.dataIn > 0 else c.hasData && (c.dfmt == 1 || c.opc == 9)

/-- Is FRAG_COUNT in range and the table aligned (Table 3.7, R71)? [DESIGN CHOICE, log entry 43] -/
def Cmd.fragsAt (c : Cmd) : Bool := c.dfmt != 1 || (1 ≤ c.fragCount && c.fragCount ≤ 4096 && c.dpOff.toNat % 16 == 0)

/-- Is every LBA range inside its namespace? [DEDUCED, log entry 55] -/
def rangesIn (n : Namespace) (l : List (Nat × Nat)) : Bool := l.all fun r => r.1 + r.2 ≤ n.nsze

/-- The status that refuses an I/O command, if any. [DESIGN CHOICE, log entry 43] -/
def State.ioRefusal (s : State) (c : Cmd) : Option (Nat × Nat) :=
  if c.isFlush && c.nsid == 0xFFFFFFFF then none
  else match (NMap.get? s.heart.ns c.nsid).filter fun n => n.attached.contains c.sid && !n.deleting with
    | none => some (0, 0x0B)
    | some n =>
      if n.notReady then some (0, 0x82)
      else if c.isFlush then none
      else if c.tables && !c.fragsAt then some (0, 2)
      else if c.hasData && c.opc != 9 && s.xferLen c > 16777216 then some (0, 2)
      else if ((c.hasData && c.opc != 9) || c.opc == 8) && bit c.cdw12 29 then some (0, 2)
      else if !rangesIn n c.ranges then some (0, 0x80)
      else if c.isWrite && (s.grove? n.grove).any (·.offline) then some (2, 0x80)
      else none

/-- The status that refuses a fetched command, if any; the checks of R58 come first. [DESIGN CHOICE, log entry 43] -/
def State.refusal (s : State) (c : Cmd) (cls : Nat) (l : List Byte) (x : Session) : Option (Nat × Nat) :=
  let portOk := if c.admin then cls == 2 else cls == 1 || cls == 2 || c.port == 32 || c.port == 33
  if !portOk then some (7, 0x80)
  else if !(if c.admin then adminOpcode c.opc else ioOpcode c.opc) then some (0, 1)
  else if c.admin && !c.privOk x then some (2, 0x86)
  else if c.admin && !budOpcode c.opc && s.pithDown then some (7, 0x86)
  else if !entryFieldsOk l c then some (0, 2)
  else if c.admin then (if (c.tables && !c.fragsAt) || c.adminLen > 16777216 then some (0, 2) else none)
  else s.ioRefusal c

/-- READ the fragment table in READs of up to 512 fragments (R71). -/
def State.readFrags (tag : Nat) (c : Cmd) (s : State) : State :=
  (List.range (ceilDiv c.fragCount 512)).foldl (fun s k =>
    let n := min 512 (c.fragCount - 512 * k)
    s.request { kind := .fragRead tag (512 * k), sid := c.sid, dst := (s.sess? c.sid).elim 0#32 (·.hostEp), op := 2#4
                region := c.dpHandle, gen := c.dpGen, offset := c.dpOff + BitVec.ofNat 48 (8192 * k), length := 16 * n
                tc := s.qpTc c.qpid }) s

/-- READ what a command's data pointer covers, ahead of the command: a range list, or an admin command's data. -/
def State.readBuf (c : Cmd) (n : Nat) (kind : Nat → DescKind) (s : State) : State :=
  ((packets c 0 n).foldl (fun (x : Nat × State) f =>
    (x.1 + f.len, x.2.request
      { kind := kind x.1, sid := c.sid, dst := (x.2.sess? c.sid).elim 0#32 (·.hostEp), op := 2#4
        region := f.handle, gen := f.gen, offset := f.offset, length := f.len, tc := x.2.qpTc c.qpid })) (0, s)).2

/-- READ the data of an admin command, or the range list of a Dataset Management. -/
def State.readHost (tag : Nat) (c : Cmd) (s : State) : State :=
  if c.admin then s.readBuf c c.dataIn (.bufRead tag) else s.readBuf c (16 * c.rangeCount) (.rangeRead tag)

/-- Accept one submission entry (R69, R70, R84): a command that fails a check ends at once with its status. -/
def State.acceptEntry (sid q port cls t0 : Nat) (l : List Byte) (s : State) : State :=
  match s.sess? sid with
  | none => s
  | some x =>
    let admin := x.qpBase == q
    let tag := s.bud.nextTag
    let c := entryOf sid q port admin l
    let c := if !admin && (c.opc == 1 || c.opc == 2 || c.opc == 5 || c.opc == 8) then c.withRange else c
    let c := { c with order := tag, needTable := c.tables }
    let s := { s with bud := { s.bud with nextTag := tag + 1 } }
    let s := (s.setCmd tag c).modSess sid fun x => { x with kaSince := s.now, ctx := if admin then x.ctx else x.ctx + 1 }
    let s := (s.sample tag t0).stamp tag 0
    match s.refusal c cls l x with
    | some (sct, sc) =>
      let s := if sct == 7 && sc == 0x80 then s.raise (evSrc 4 16) (sessDetail sid (some q)) else s
      s.fail tag sct sc
    | none =>
      if c.needTable then (if c.dfmt == 1 then s.readFrags tag c else s.readHost tag c)
      else if admin then s
      else s.intake

/-- Accept entries one after another. -/
def State.acceptAll (sid q port cls t0 : Nat) : Nat → List Byte → State → State
  | 0, _, s => s
  | k + 1, l, s => State.acceptAll sid q port cls t0 k (l.drop 64) (s.acceptEntry sid q port cls t0 (l.take 64))

/-- The tail that the next fetch goes by: the one furthest along from the old head, of this fetch's shadow tail and that of a
poll answered meanwhile (R66). [DESIGN CHOICE, log entry 97] -/
def Qp.newerTail (x : Qp) (tail : Nat) : Nat :=
  let far : Nat → Nat := fun t => (t + x.sqSize - x.sqHead) % x.sqSize
  match x.sched with
  | some (.shadow t) => if far t > far tail then t else tail
  | _ => tail

/-- Every READ of a fetch is answered: accept up to the shadow tail, return what was not used, go on (R67). -/
def State.endFetch (q : Nat) (s : State) : State :=
  match s.qp? q with
  | none => s
  | some x =>
    match x.job with
    | none => s
    | some j =>
      match j.data, j.tail with
      | some d, some tail =>
        if j.waitShadow then s
        else
          let avail := (tail + x.sqSize - x.sqHead) % x.sqSize
          let m := if s.on 0x08000000 then min j.n avail else 0
          let head := (x.sqHead + m) % x.sqSize
          let tail := x.newerTail tail
          let more := (tail + x.sqSize - head) % x.sqSize > 0
          let bell := match x.sched with
            | some (.doorbell _) => true
            | _ => false
          let s := s.modQp q fun x => { x with
            job := none, credits := x.credits + (j.n - m), sqHead := head
            sched := if bell then x.sched else if more then some (.shadow tail) else none }
          let s := s.backTurn q (j.n - m)
          let s := s.acceptAll x.sid q j.port j.cls j.t0 m d
          s.noteCredits
      | _, _ => s

/-- Entries arrived (R58: the port and its class are those of this READ_RESP). -/
def State.gotEntries (q port cls : Nat) (d : List Byte) (s : State) : State :=
  (s.modQp q fun x => { x with job := x.job.map fun j => { j with data := some d, port := port, cls := cls } }).endFetch q

/-- A shadow record shows where the submission queue ends: schedule a fetch, unless one is scheduled already or a later record
has been used (R66). [DEDUCED, log entry 97] -/
def State.seeTail (q r tail : Nat) (s : State) : State :=
  s.modQp q fun x =>
    if x.seenReq.any (r < ·) then x
    else { x with seenReq := some r, sched := if x.sched.isNone && tail != x.sqHead then some (.shadow tail) else x.sched }

/-- A fetch's own shadow record arrived (R67). -/
def State.fetchShadow (q r tail : Nat) (s : State) : State :=
  match s.qp? q with
  | none => s
  | some x =>
    match x.job with
    | none => s
    | some j =>
      let s := s.modQp q fun x => { x with seenReq := some r }
      if j.shadowFirst then
        if s.fetchLen q x tail j.left == 0 then
          (s.modQp q fun x => { x with job := none }).modQp q fun x =>
            { x with sched := if x.sched.isNone && tail != x.sqHead then some (.shadow tail) else x.sched }
        else s.issueFetch q tail j.left false
      else (s.modQp q fun x => { x with job := some { j with waitShadow := false, tail := some tail } }).endFetch q

/-- A shadow record arrived, read by request `r` (R62, R66 to R68). [DESIGN CHOICE, log entry 97] -/
def State.gotShadow (q r : Nat) (fetch : Bool) (d : List Byte) (s : State) : State :=
  let tail := le d 0 2
  match s.qp? q with
  | none => s
  | some x =>
    if x.st != .enabled then s
    else if tail ≥ x.sqSize then s.qpError q 5
    else
      let s := s.moveHead q (le d 2 2)
      match s.qp? q with
      | none => s
      | some x =>
        if x.st != .enabled then s
        else if fetch then s.fetchShadow q r tail
        else s.seeTail q r tail

/-! ### Polling (R66) -/

/-- POLL of the queue pairs that Bud polls. -/
def State.polls (s : State) : List Nat := (s.bud.qps.filter fun p => p.2.st == .enabled && p.2.poll > 0).map (·.2.poll)

/-- The sum of 1 / POLL over them, in reads per µs, as a fraction. -/
def State.pollDemand (s : State) : Nat × Nat :=
  let l := s.polls.foldl Nat.lcm 1
  ((s.polls.map fun p => l / p).sum, l)

/-- BUD_POLL.MAX_RATE in reads per µs. -/
def State.pollMax (s : State) : Nat := max 1 (s.fld 0x09000008 5 0)

/-- Does the sum exceed it? -/
def State.pollOver (s : State) : Bool := s.pollDemand.1 > s.pollMax * s.pollDemand.2

/-- Interval between two polls of a queue pair, ns: POLL, or POLL stretched by the same factor for every queue pair. -/
def State.pollEvery (s : State) (x : Qp) : Nat :=
  if s.pollOver then ceilDiv (x.poll * 1000 * s.pollDemand.1) (s.pollMax * s.pollDemand.2) else x.poll * 1000

/-! ### Enabling and the control doorbell (R63 to R65) -/

/-- CAUSE that refuses an enable, if any (Table 3.5). -/
def State.enableCause (s : State) (q : Nat) (x : Session) (b : Qcb) : Option Nat :=
  let admin := q == x.qpBase
  if !b.inRange admin then some 1
  else if admin && !s.hasAdminPort x then some 2
  else none

/-- A queue-control block was read. -/
def State.gotQcb (q sid : Nat) (d : List Byte) (s : State) : State :=
  match s.sess? sid with
  | none => s
  | some x =>
    let b := qcbOf sid d
    let st := (s.qp? q).elim QpState.disabled (·.st)
    if x.st != .opened then s
    else match st with
      | .disabled =>
        if !b.enable then s
        else match s.enableCause q x b with
          | some c => (s.setQp q { b.qp with st := .disabled }).qpError q c
          | none => (s.setQp q { b.qp with st := .enabling, credits := b.qp.cqSize - 1 }).writeStatus q
      | .enabling => if b.enable then s else s.startDisable q
      | .enabled => if b.enable then s else s.startDisable q
      | .disabling => s
      | .error => if b.enable then s else s.startDisable q

/-- STATE 1 has landed: the queue pair is enabled (R63), and its first poll is one interval away (R66). -/
def State.enabled (q : Nat) (s : State) : State :=
  match s.qp? q with
  | none => s
  | some x =>
    if x.st != .enabling then s
    else
      let t := s.setQp q { x with st := .enabled, polledAt := s.now }
      if t.pollOver && !s.pollOver then t.raise (evSrc 4 18) 0#32 else t

/-- The WRITE of a STATUS word was acknowledged. -/
def State.statusLanded (q : Nat) (d : Desc) (s : State) : State :=
  if d.payload.headD 0#8 == 1#8 then s.enabled q else s

/-- The doorbell acts on its queue pair (R65). -/
def State.ringBell (sid : Nat) (b : Doorbell) (s : State) : State :=
  match s.sess? sid with
  | none => s
  | some y =>
    if !s.on 0x09000000 then s
    else if b.qpid < y.qpBase || y.qpBase + y.qpCount ≤ b.qpid then
      s.raise (evSrc 4 17) (sessDetail sid (some b.qpid))
    else
      let control := !b.sqv && !b.cqv
      match (s.qp? b.qpid).elim QpState.disabled (·.st) with
      | .disabled => if control && y.st != .resetting then s.readQcb b.qpid else s
      | .enabling => if control && y.st != .resetting then s.readQcb b.qpid else s
      | .error => if control && y.st != .resetting then s.readQcb b.qpid else s
      | .disabling =>
        if control then s.modQp b.qpid fun x => { x with heldControl := true }
        else if b.cqv then s.moveHead b.qpid b.cqHead else s
      | .enabled =>
        if control then (if y.st != .resetting then s.readQcb b.qpid else s)
        else
          let s := if b.cqv then s.moveHead b.qpid b.cqHead else s
          if b.sqv then s.modQp b.qpid fun x =>
            if x.st == .enabled then { x with sched := some (.doorbell b.sqTail) } else x
          else s

/-- What every DOORBELL of an endpoint sets going again (R42, Table 3.5 CAUSE 0x08): fetching, kept completions and
NOTIFYs, and STATUS words still owed. -/
def State.wake (sid : Nat) (ep : W32) (s : State) : State :=
  let s := s.modSess sid fun x => { x with fetchStopped := false }
  let kept := (s.xylem.descs.filter fun p => p.2.st == .kept && p.2.dst == ep).map (·.1)
  let s := kept.foldl (fun s r => ((s.modDesc r fun d => { d with st := .paced, retries := 0, interval := 0 }).transmit r).2) s
  ((s.bud.qps.filter fun p => p.2.sid == sid && p.2.statusOwed).map (·.1)).foldl (fun s q => s.writeStatus q) s

/-! ### Tables of a command (R71) -/

/-- A command's tables are all read: it goes on to the ledger. -/
def State.tableDone (tag : Nat) (s : State) : State := (s.modCmd tag fun c => { c with needTable := false, pulled := [] }).intake

/-- The fragment table is read and fits: go on to the range list or the data, if there is any. -/
def State.fragsDone (tag : Nat) (c : Cmd) (s : State) : State :=
  if (!c.admin && c.opc == 9) || c.dataIn > 0 then s.readHost tag c else s.tableDone tag

/-- Bytes of a fragment table, of a range list or of an admin command's data arrived. -/
def State.gotTable (tag off : Nat) (d : List Byte) (frag : Bool) (s : State) : State :=
  match s.cmd? tag with
  | none => s
  | some c =>
    if c.status.isSome then s.tryPost tag
    else
      let c := { c with pulled := c.pulled ++ [(off, d)] }
      let s := s.setCmd tag c
      let have_ := (c.pulled.map (·.2.length)).sum
      if frag then
        if have_ < 16 * c.fragCount then s
        else
          let fr := fragsOf c.fragCount (c.pulledBytes have_)
          if !fragsOk fr || (fr.map (·.len)).sum != s.dataLen c then s.fail tag 0 0x0F
          else
            let c := { c with frags := fr, pulled := [] }
            (s.setCmd tag c).fragsDone tag c
      else if c.admin then
        if have_ < c.dataIn then s else s.modCmd tag fun c => { c with needTable := false }
      else if have_ < 16 * c.rangeCount then s
      else
        let rs := (rangesOf c.rangeCount (c.pulledBytes have_)).filter fun r => r.2 > 0
        if (NMap.get? s.heart.ns c.nsid).any fun n => rangesIn n rs then
          (s.modCmd tag fun c => { c with ranges := rs }).tableDone tag
        else s.fail tag 0 0x80

end Sys2Proof.Machine
end

