-- ==== Sys2Proof/Machine/Coppice.lean ====
section
/-!
DEFINITION. Coppice (spec/08: R205 to R214): the pieces of a read, whether each attaches to a shoot, and the shoot that it
may open.
-/

namespace Sys2Proof.Machine

/-! ### Pieces of a chunk -/

/-- Runs of consecutive blocks that lie in one data chunk: index, segment, stripe, chunk, block in it, count. -/
def chunkRuns (g : Grove) : List (Nat × Nat × Nat) → List (Nat × Nat × Nat × Nat × Nat × Nat)
  | [] => []
  | (i, seg, off) :: t =>
    let (st, d, b) := g.place seg off
    match chunkRuns g t with
    | (i', seg', st', d', b', n) :: u =>
      if i' == i + 1 && seg' == seg && st' == st && d' == d && b' == b + 1 then (i, seg, st, d, b, n + 1) :: u
      else (i, seg, st, d, b, 1) :: (i', seg', st', d', b', n) :: u
    | [] => [(i, seg, st, d, b, 1)]

/-! ### Limits -/

/-- COPPICE_LIMITS in force. -/
def State.fanMax (s : State) : Nat := max 2 (s.fld 0x0E000004 8 0)
def State.lingerUs (s : State) : Nat := s.fld 0x0E000004 31 20
def State.minShoot (s : State) : Nat := max 1 (s.fld 0x0E000004 19 12)

/-- Shoots open, and recipient records in use. -/
def State.shoots (s : State) : NMap Piece := s.pieces.filter fun p => p.2.shoot
def State.rcpts (s : State) : Nat := (s.shoots.map fun p => p.2.recips.length).sum

/-! ### Attaching (R207, R208) -/

/-- Does a shoot wholly contain a piece, and may it be attached to (R207, R208)? -/
def State.covers (s : State) (g seg st d b n : Nat) (x : Piece) : Bool :=
  x.shoot && x.attachable && (!x.done || s.now ≤ x.doneAt + x.lingerUs * 1000) && x.grove == g && x.seg == seg && x.stripe == st
    && x.d == d && x.b0 ≤ b && b + n ≤ x.b0 + x.nb

/-- Attach a piece to a shoot: served at once where the data has come (R210). [DEDUCED, log entry 59] -/
def State.attach (p : Nat) (r : Recip) (s : State) : State :=
  let s := ((s.modPiece p fun x => { x with recips := x.recips ++ [r] }).count 77 1 1).count 77 2 (r.nb * 4096)
  match s.piece? p with
  | some x => if x.done then s.serveRecip x (some p) r else s
  | none => s

/-- One piece of a read asks Coppice (R205, R207, R214): it attaches, or it is issued as a drive read of its own, as a shoot where
it may open one. `on_`: it serves a host Read and Coppice is enabled; `mine`: the piece as it is issued. -/
def State.askCoppice (on_ : Bool) (x : Grove) (me : Recip) (mine : Piece) (e : Option (Nat × Nat)) (s : State) : State :=
  let fits := if on_ then s.shoots.filter fun p => s.covers mine.grove mine.seg mine.stripe mine.d mine.b0 mine.nb p.2 else []
  let room := s.rcpts < 65536
  match fits.find? fun p => p.2.recips.length < p.2.fanMax && room with
  | some (p, _) => s.attach p me
  | none =>
    let set : Piece → BitVec 12 := fun p => Config.shootSet p.grove p.stripe p.d
    let ways := (s.shoots.filter fun p => set p.2 == set mine).length
    let wants := on_ && mine.nb ≥ s.minShoot && x.readable (x.dSlot mine.stripe mine.d) mine.stripe
    let full := (wants && (ways ≥ 4 || s.shoots.length ≥ 16384 || !room)) || (!fits.isEmpty && !room)
    let s := if full then (s.count 77 3 1).raise0 6 16 else if fits.isEmpty then s else s.count 77 3 1
    let opens := wants && !full
    let s := if opens then s.count 77 0 1 else s
    s.startPiece { mine with recips := [me], shoot := opens, attachable := opens, fanMax := s.fanMax, lingerUs := s.lingerUs } e

/-- One piece of a Read or Compare: a run of blocks in one chunk (index, segment, stripe, chunk, first block, count). -/
def State.readRun (tag g : Nat) (r : Nat × Nat × Nat × Nat × Nat × Nat) (s : State) : State :=
  let (i, seg, st, d, b, n) := r
  match s.cmd? tag, s.grove? g with
  | some c, some x =>
    if c.status.isSome then s
    else s.askCoppice (s.on 0x0E000000 && c.opc == 2) x { tag := tag, at0 := i, b0 := b, nb := n }
      { grove := g, seg := seg, stripe := st, d := d, b0 := b, nb := n, recips := [] } (c.engine.map fun e => (e, tag))
  | _, _ => s

/-! ### Rebuilding a dropped payload (R43, Table 8.1) -/

/-- Where a pinned location is to be read now: a staged block whose entry has gone lies where the map says.
 [DEDUCED, log entry 98] -/
def State.sourceOf (s : State) (c : Cmd) (p : Nat × Loc) : Nat × Loc :=
  match p.2 with
  | .staged e _ => if NMap.has s.sapw.entries e then p else (p.1, s.loc c.nsid p.1)
  | _ => p

/-- One run of a payload to be rebuilt: a drive read of its own, or, for a recipient of a shoot, whatever Coppice makes of it. -/
def State.refetchRun (r tag g : Nat) (fan : Bool) (x : Nat × Nat × Nat × Nat × Nat × Nat) (s : State) : State :=
  let (i, seg, st, d, b, n) := x
  let mine : Piece := { grove := g, seg := seg, stripe := st, d := d, b0 := b, nb := n, recips := [] }
  match s.grove? g with
  | none => s
  | some y =>
    if fan then
      let q := s.nextPiece
      let s := { s with nextPiece := q + 1
                        pieces := NMap.set s.pieces q { mine with refetch := some r, data := List.replicate n none } }
      s.askCoppice (s.on 0x0E000000) y { tag := tag, at0 := i, b0 := b, nb := n, piece := some q } mine none
    else s.startPiece { mine with refetch := some r } none

end Sys2Proof.Machine
end

