-- ==== Sys2Proof/Machine/Answer.lean ====
section
/-!
DEFINITION. What the end of a request does (R38, R42 to R44): the landing of write data (R134, R168) and of every other
READ, retransmission and the rebuilding of dropped payloads (R41, R43), NAKs and failures.
-/

namespace Sys2Proof.Machine

/-! ### Landing write data (R94, R128, R134, R167, R168) -/

/-- A Write with all its data in hand reaches its release point as soon as its map pages allow. -/
def State.releaseWrite (tag : Nat) (s : State) : State := (s.tryRelease tag).pump

/-- Bytes of a command's data arrived from the host; in a power-fail flush every pull has stopped (R155). -/
def State.landData (tag off : Nat) (d : List Byte) (s : State) : State :=
  match s.cmd? tag with
  | none => s
  | some c =>
    if s.sap.flush.isSome then s
    else if c.status.isSome then s.tryPost tag
    else
      let s := (s.modCmd tag fun c => { c with pulled := c.pulled ++ [(off, d)] }).stamp tag 9
      let have_ := (c.pulled.map (·.2.length)).sum + d.length
      if c.opc == 5 then s.tryCompare tag
      else if have_ ≥ s.xferLen c then s.releaseWrite tag
      else s

/-! ### Retransmission (R41, R43) -/

/-- Rebuild a dropped payload from its source (R43): drive reads of the same blocks, which may attach to a shoot where the packet
was a shoot's (Table 8.1), or Pith's own copy of a page. [DEDUCED, log entry 83] -/
def State.refetch (r : Nat) (d : Desc) (s : State) : State :=
  let s := s.raise0 4 5
  match d.kind with
  | .dataWrite tag off sh =>
    match s.cmd? tag with
    | none => s
    | some c =>
      let s := s.modCmd tag fun c => { c with pins := c.pins.map (s.sourceOf c) }
      let c := { c with pins := c.pins.map (s.sourceOf c) }
      if c.admin then s.modDesc r fun d => { d with payload := slice (c.pulledBytes (off + d.length)) off d.length, dropped := false }
      else
        let bs := s.hostBlock c.nsid
        let first := off / bs
        let n := (off + d.length - 1) / bs + 1 - first
        match (NMap.get? s.heart.ns c.nsid).map (·.grove) with
        | none => s
        | some gi =>
          match s.grove? gi with
          | none => s
          | some g =>
            let locs := (rangeFrom first n).filterMap fun i =>
              (c.pins.find? fun p => p.1 == c.slba + i).bind fun p => match p.2 with
                | .data seg o => some (i, seg, o)
                | _ => none
            let s := s.modDesc r fun d => { d with refetch := true }
            ((chunkRuns g locs).foldl (fun s x => s.refetchRun r tag gi sh.isSome x) s).refetched r
  | _ => s

/-- Send a request again: PACED as a retransmission, its interval doubled (R41). [DEDUCED, log entry 83] -/
def State.retransmit (r : Nat) (s : State) : State :=
  match s.desc? r with
  | none => s
  | some d =>
    let s := s.modDesc r fun d =>
      { d with st := .paced, retries := d.retries + 1, interval := min s.rtoMax (2 * d.interval) }
    let s := if d.dropped then s.refetch r d else s
    if d.kind.reserved then (s.transmit r).2 else s

/-! ### Answers (R38, R42, R44) -/

/-- The command or queue pair that a request concerns, for DETAIL (R392). -/
def State.detailOf (s : State) (d : Desc) : W32 :=
  sessDetail d.sid ((d.kind.cmd?.bind fun t => (s.cmd? t).map (·.qpid)).orElse fun _ => d.kind.qp?)

/-- A request was answered well. `data`: the bytes of a READ_RESP; `port`, `cls`: where it arrived, and its class then. -/
def State.answerOk (r port cls : Nat) (data : List Byte) (s : State) : State :=
  match s.desc? r with
  | none => s
  | some d =>
    let s := s.freeDesc r
    let s := match d.kind with
      | .dataWrite t _ sh =>
        let s := s.stamp t 9
        let s := match sh with
          | some p => s.closePiece p
          | none => s
        (s.refetched r).checkDone t
      | .dataRead t off => s.landData t off data
      | .fragRead t first => s.gotTable t (16 * first) data true
      | .rangeRead t off => s.gotTable t off data false
      | .bufRead t off => s.gotTable t off data false
      | .completion q _ t => ((s.stamp t 11).freeCmd t).tryNotify q
      | .notify q =>
        (s.modQp q fun x => { x with notifyBusy := false, notifyHold := d.retxAt.map (· + s.mpl) }).tryNotify q
      | .entries q => s.gotEntries q port cls data
      | .shadow q f => s.gotShadow q r f data
      | .qcb q => s.gotQcb q d.sid data
      | .status q => s.statusLanded q d
      | .header sid opening => if opening then s.opened sid else s
      | .given _ => s
    s.checkClosed d.sid

/-- Status that a NAK gives the command of a data packet (Table 2.7). [DEDUCED, log entry 40] -/
def State.nakStatus (s : State) (sid code : Nat) : Status :=
  match code with
  | 1 => { sct := 7, sc := 0x82 }
  | 2 => { sct := 7, sc := 0x81 }
  | 6 => { sct := 7, sc := 0x83, dw0 := w32 (NMap.getD s.bark.tx sid 0) }
  | _ => { sct := 0, sc := 4 }

/-- A request was refused (Table 2.7): of its rows a queue packet takes the last alone, whatever the code but 0x08. A reserved code
counts as 0x07 (R33). [DEDUCED, log entry 40] -/
def State.answerNak (r code : Nat) (s : State) : State :=
  match s.desc? r with
  | none => s
  | some d =>
    if code == 8 then (if d.retries < s.retryLimit && d.st == .sent then s.retransmit r else s)
    else
      let code := if 1 ≤ code && code ≤ 7 then code else 7
      let detail := s.detailOf d
      let s := s.freeDesc r
      let nakRx (s : State) : State := s.raise (evSrc 4 2) detail
      let onData (t : Nat) (s : State) : State :=
        (((nakRx s).finish t (s.nakStatus d.sid code)).tryPost t).closeShoots
      let s := match d.kind with
        | .dataWrite t _ _ => onData t s
        | .dataRead t _ => onData t s
        | .rangeRead t _ => onData t s
        | .bufRead t _ => onData t s
        | .fragRead t _ => ((nakRx s).qpError ((s.cmd? t).elim 0 (·.qpid)) 4).tryPost t
        | .completion q _ t => ((nakRx s).freeCmd t).qpError q 4
        | .notify q => ((nakRx s).modQp q fun x => { x with notifyBusy := false }).qpError q 4
        | .entries q => (nakRx s).qpError q 4
        | .shadow q _ => (nakRx s).qpError q 4
        | .qcb q => (nakRx (if (s.qp? q).isSome then s else s.setQp q { sid := d.sid })).qpError q 4
        | .status q => (nakRx s).qpError q 4
        | .header sid opening =>
          let s := if opening && (s.sess? sid).any (fun (x : Session) => x.openTag.isSome) then nakRx s else s
          if opening then s.openRefused sid else s
        | .given _ => s
      s.checkClosed d.sid

/-- A request failed at RETRY_LIMIT (R42). -/
def State.answerFail (r : Nat) (s : State) : State :=
  match s.desc? r with
  | none => s
  | some d =>
    let s := s.raise (evSrc 4 4) (s.detailOf d)
    let s := s.modSess d.sid fun x => { x with fetchStopped := true }
    let live := (s.sess? d.sid).any fun x => x.st == .opened || x.st == .opening
    let ends (t : Nat) (s : State) : State := ((s.freeDesc r).finish t { sct := 0, sc := 0x22 }).tryPost t
    let s := match d.kind with
      | .dataWrite t _ _ => (ends t s).closeShoots
      | .dataRead t _ => ends t s
      | .fragRead t _ => ends t s
      | .rangeRead t _ => ends t s
      | .bufRead t _ => ends t s
      | .completion _ _ t =>
        if live then s.modDesc r fun d => { d with st := .kept } else (s.freeDesc r).freeCmd t
      | .notify q =>
        if live then s.modDesc r fun d => { d with st := .kept }
        else (s.freeDesc r).modQp q fun x => { x with notifyBusy := false }
      | .entries q => (((s.freeDesc r).cancelFetch q).modQp q fun x => { x with sched := some (.doorbell 65536) }).noteCredits
      | .shadow q _ => (((s.freeDesc r).cancelFetch q).modQp q fun x => { x with sched := some (.doorbell 65536) }).noteCredits
      | .qcb q =>
        let s := s.freeDesc r
        if live then (if (s.qp? q).isSome then s else s.setQp q { sid := d.sid }).qpError q 8 else s
      | .status q =>
        let s := s.freeDesc r
        if live then (s.qpError q 8).modQp q fun x => { x with statusOwed := true } else s
      | .header sid opening => let s := s.freeDesc r; if opening then s.openRefused sid else s
      | .given _ => s.freeDesc r
    s.checkClosed d.sid

/-- An integrity key without a valid slot refused a request: its command ends with SCT 0x7, SC 0x83 (R267). -/
def State.keyRefused (r slot : Nat) (s : State) : State :=
  match (s.desc? r).bind fun d => d.kind.cmd? with
  | none => s
  | some t => ((s.freeDesc r).finish t { sct := 7, sc := 0x83, dw0 := w32 slot }).tryPost t

/-- An answer that matches no open descriptor is discarded and counted (R44). [DEDUCED, log entry 83] -/
def State.stale (s : State) : State := s.raise0 4 3

/-- Does an answer fit the descriptor its request ID names (R44): endpoint, session and type? -/
def Desc.fits (d : Desc) (p : Pkt) : Bool :=
  (d.st != .paced || d.retries > 0 || d.retxAt.isSome) && d.dst == p.srcEp && d.sid == p.sid
    && (if p.op == 4#4 then d.op != 2#4 else if p.op == 3#4 then d.op == 2#4 else true)

end Sys2Proof.Machine
end

