-- ==== Sys2Proof/Machine/Bud.lean ====
section
/-!
DEFINITION. The commands of Bud that no host command asks for (spec/03): the end of a disable and of a session reset, the
keep-alive timer, and the session window.
-/

namespace Sys2Proof.Machine

/-- One MPL after a retransmission, or now where there was none. -/
def State.quietTime (s : State) (t : Option Nat) : Nat := t.elim s.now (· + s.mpl)

/-- The disable ends (R76): STATE 0 with CAUSE 0x07, then a control doorbell that was held. -/
def State.disableDone (q : Nat) (s : State) : State :=
  match s.qp? q with
  | none => s
  | some x =>
    let s := s.until (s.quietTime x.retxAt)
    let s := (s.modQp q fun x => { x with st := .disabled, cause := 7, heldControl := false }).writeStatus q
    if x.heldControl then s.readQcb q else s

/-- QUEUE_PAIR_DISABLE_DONE (R76). -/
def execQueuePairDisableDone (qpid : Nat) (s : State) : Host.Outcome State Fault Refusal :=
  act (qpIndex qpid && s.disableReady qpid) (s.disableDone qpid) s

/-- SESSION_RESET_SETTLE (R78). -/
def execSessionResetSettle (sid : Nat) (s : State) : Host.Outcome State Fault Refusal :=
  act (sessionIndex sid && s.resetReady sid)
    ((s.until (s.quietTime ((s.sess? sid).bind (·.retxAt)))).finishReset sid) s

/-- Does the keep-alive timer of a session run (R84)? -/
def State.keepAliveOn (s : State) (sid : Nat) : Bool := (s.sess? sid).any fun x => x.st == .opened && x.kato > 0

/-- It reaches KATO: the session resets. -/
def State.keepAliveEnd (sid : Nat) (s : State) : State :=
  let s := s.until ((s.sess? sid).elim 0 fun x => x.kaSince + x.kato * 1000000)
  (s.raise (evSrc 4 20) (sessDetail sid none)).startReset sid none

/-- KEEPALIVE_EXPIRY (R84). -/
def execKeepaliveExpiry (sid : Nat) (s : State) : Host.Outcome State Fault Refusal :=
  act (sessionIndex sid && s.keepAliveOn sid) (s.keepAliveEnd sid) s

/-! ### The session window (Table 3.18) -/

/-- BUD_SESS_SEL.SESSION. -/
def State.selSession (s : State) : Nat := s.fld 0x09000100 11 0

/-- The staged record. -/
def State.stagedSession (s : State) : Session :=
  { hostEp := s.reg 0x09000104, ports := portsOf (s.reg 0x09000108), qpBase := s.fld 0x0900010C 13 0
    qpCount := s.fld 0x0900010C 24 16, priv := s.flag 0x0900010C 31, qcbHandle := s.reg 0x09000110
    qcbGen := BitVec.ofNat 16 (s.fld 0x09000114 15 0)
    qcbOff := BitVec.ofNat 48 (s.fld 0x0900011C 15 0 * 2 ^ 32 + (s.reg 0x09000118).toNat) }

/-- SESSION_OP_OPEN (R59): BUD_SESS_OP.OPEN. -/
def execSessionOpOpen (s : State) : Host.Outcome State Fault Refusal :=
  act true (s.openSession s.selSession s.stagedSession) s

/-- SESSION_OP_CLOSE (R79): BUD_SESS_OP.CLOSE. -/
def execSessionOpClose (s : State) : Host.Outcome State Fault Refusal :=
  act (s.closable s.selSession) (s.closeSession s.selSession none) s

/-- SESSION_OP_RESET (R78): BUD_SESS_OP.RESET. -/
def execSessionOpReset (s : State) : Host.Outcome State Fault Refusal :=
  act ((s.sess? s.selSession).any fun x => x.st == .opened) (s.startReset s.selSession none) s

end Sys2Proof.Machine
end

