-- ==== Sys2Proof/Machine/CrownOps.lean ====
section
/-!
DEFINITION. Crown's shared operations (spec/09): arrival checks and policing (R220, R242, R282), classification (R221),
transit forwarding (R233), hold buffers (R264), ageing (R228, R229), marking (R227), gates (R252, R253), selection (R279,
R280) and the start of a frame.
-/

namespace Sys2Proof.Machine

/-! ### Arrival checks (R220, R242) -/

/-- The indication kinds of Table 10.2 that a frame's own defects count as at its MAC. [DEDUCED, log entry 16] -/
def lengthKinds (f : Frame) : List Nat :=
  (if f.fcsOk then [] else [0]) ++ (if f.len < 64 then [1] else []) ++ (if f.len > 9216 then [2] else [])

/-- The defects of R220 that Crown finds in the headers. [DEDUCED, log entry 16] -/
def headerKinds (f : Frame) : List Nat :=
  (if f.vlan.length > 1 then [3] else [])
    ++ (if f.ip.any fun h => !h.v6 && (!h.hdrOk || h.ihl != 5 || h.mf || h.fragOff != 0) then [12] else [])

/-- Kinds of Table 10.2 that the receiver noticed while a frame arrived: FEC codewords, symbol errors, a FIFO overflow (R244).
 [DEDUCED, log entry 16; DEDUCED, log entry 75] -/
def phyKinds (p : Nat) (f : Frame) : List Nat := f.phy.filter fun k => k == 4 || k == 15 || k == 5 && p != 34

/-- Multicast addresses that every port accepts: broadcast, the two PTP addresses of IEEE 1588 Annex F and the LLDP
address of IEEE 802.1AB (which is one of them), all PRESUMED from those standards (log entry 11).
 [PRESUMED, log entry 11] -/
def groupMacs : List (BitVec 48) := [0xFFFFFFFFFFFF#48, 0x011B19000000#48, 0x0180C200000E#48]

/-- The IPv6 solicited-node multicast address of a port (R242). [PRESUMED, log entry 11] -/
def State.solicited (s : State) (p : Nat) : BitVec 48 :=
  BitVec.ofNat 48 (0x3333FF000000 + (s.portIp p true).toNat % 2 ^ 24)

/-- Does the MAC accept the frame's destination address (R242; R358 in recovery)? -/
def State.macAccepts (s : State) (p : Nat) (f : Frame) : Bool :=
  groupMacs.contains f.dstMac || f.dstMac == s.solicited p
    || f.dstMac == (if p == 34 && s.seed.boot == .recovery then recoveryMac else s.portMac p)

/-- Kind of Table 10.2 that a MAC Control frame counts as at a port, if any (R243). -/
def pauseKind (p : Nat) (opcode : Nat) : Option Nat :=
  if p == 34 then (if opcode == 1 then some 9 else none)
  else some (if opcode == 1 then 8 else if opcode == 0x101 then 9 else 10)

/-- Count indications of several kinds. -/
def State.indicateAll (p : Nat) (ks : List Nat) (s : State) : State := ks.foldl (fun s k => s.indicate p k) s

/-- A frame fails R220. -/
def State.checkDrop (s : State) : State := (s.raise0 6 0).count 105 0 1

/-! ### Policing (R282) -/

/-- CANOPY_POL register of a class: HOSTIO, ADMIN, RING. -/
def policeReg (cls : Nat) : Nat := 0x12000040 + 4 * (cls - 1)

/-- The policer of a port with the settings of its present class. [DEDUCED, log entry 76] -/
def State.policer (s : State) (p : Nat) : Shaper :=
  let r := s.reg (policeReg (s.portClass p))
  { NMap.getD s.canopy.pol p { rate := 0, burst := 0 } with rate := bits r 31 16, burst := bits r 15 0 }

/-- Police one frame: whether it is admitted, and the state after. [DEDUCED, log entry 76] -/
def State.police (s : State) (p len : Nat) : Bool × State :=
  let x := s.policer p
  if !s.on 0x12000000 || x.rate == 0 then (true, s)
  else if x.level s.now < 0 then (false, (s.raise0 6 25).count 104 (1 + s.portClass p) 1)
  else (true, { s with canopy := { s.canopy with pol := NMap.set s.canopy.pol p (x.charge s.now (s.chargeLen len)) } })

/-! ### Hold buffers (R264) -/

/-- Bytes in a hold buffer. -/
def State.holdBytes (s : State) (port : Nat) : Nat := ((NMap.getD s.crown.hold port []).map (·.frame.len)).sum

/-- Let frames that wait in the Crown buffer into the hold buffer while it has room; `fuel` bounds them. -/
def State.fillHold : Nat → Nat → State → State
  | 0, _, s => s
  | k + 1, port, s =>
    match NMap.getD s.crown.holdWait port [] with
    | [] => s
    | h :: t =>
      if s.holdBytes port + h.frame.len > 1048576 then s
      else State.fillHold k port { s with crown := { s.crown with
        hold := NMap.set s.crown.hold port (NMap.getD s.crown.hold port [] ++ [{ h with since := s.now }])
        holdWait := if t.isEmpty then NMap.erase s.crown.holdWait port else NMap.set s.crown.holdWait port t } }

/-- A local frame goes to its port's hold buffer, behind those that wait for room; its port's class is the one it arrived
under (R246). -/
def State.toHold (p : Nat) (f : Frame) (s : State) : State :=
  let port := crownPort p
  let w := NMap.getD s.crown.holdWait port []
  let h : Held := { sub := p, frame := f, since := s.now, cls := s.portClass p, tc := s.arriveTc p f }
  State.fillHold 1 port { s with crown := { s.crown with holdWait := NMap.set s.crown.holdWait port (w ++ [h]) } }

/-! ### Frames to CTRL (R226, R250) -/

/-- Timebase time plus a signed correction in ns, as seconds and nanoseconds (R249). -/
def State.stampAt (s : State) (corr : Int) : Nat × Nat :=
  let t : Int := ((s.time.sec * 1000000000 + s.time.ns : Nat) : Int) + corr
  ((t / 1000000000 % ((2 ^ 48 : Nat) : Int)).toNat, (t % 1000000000).toNat)

/-- FMAC_TS_CORR of a port: TX_CORR and RX_CORR. -/
def State.tsCorr (s : State) (p : Nat) : Int × Int :=
  let r := s.reg (if p == 34 then 0x16000124 else subBase p + 0x24)
  (sInt 16 (bits r 31 16), sInt 16 (bits r 15 0))

/-- A frame for Pith waits at CTRL's egress point. -/
def State.toCtrl (p : Nat) (f : Frame) (ts : Bool) (s : State) : State :=
  let tc := s.arriveTc p f
  let t := s.stampAt (s.tsCorr p).2
  s.enqueue 35 tc { frame := f, tc := tc, answer := true, since := s.now, rx := if ts then some (p, t.1, t.2) else none }

/-! ### Transit (R222, R226, R233, R234) -/

/-- A lookup misses (R222). -/
def State.fwdMiss (s : State) : State := (s.raise0 6 1).count 105 1 1

/-- CROWN_RING.HOPS_MAX, 0 treated as 1. -/
def State.hopsMax (s : State) : Nat := max 1 (s.fld 0x1300000C 15 0)

/-- Is the packet one that R226 never refuses? [DEDUCED, log entry 17] -/
def answerOp (op : BitVec 4) : Bool := op == 4#4 || op == 5#4 || op == 7#4 || op == 8#4

/-- A transit frame as it leaves: Ethernet header rewritten, PCP kept, HOPS counted on a ring port (R233, R234). -/
def State.transitFrame (s : State) (p tc : Nat) (e : Fwd) (f : Frame) (q : Pkt) : Frame :=
  let r := NMap.getD s.crown.paths e.path {}
  let pcp := match f.vlan with | v :: _ => v.toNat / 2 ^ 13 | [] => tc
  let q := if p == 32 || p == 33 then { q with hops := q.hops + 1#16 } else q
  { f with dstMac := r.mac, srcMac := s.portMac p
           len := f.len + 4 * b2n r.tagged - 4 * b2n (!f.vlan.isEmpty)
           vlan := if r.tagged then [BitVec.ofNat 16 (pcp * 8192 + r.vid.toNat)] else []
           body := .ahnath q }

/-- Forward a transit frame that arrived at point `p`. -/
def State.transit (p : Nat) (f : Frame) (q : Pkt) (s : State) : State :=
  let ring := p == 32 || p == 33
  if !s.flag 0x1300000C 31 then s.fwdMiss
  else match s.route? none q.dstEp (if ring then some p else none) with
    | none => s.fwdMiss
    | some (out, e) =>
      let tc := s.arriveTc p f
      if (out == 32 || out == 33) && q.hops.toNat ≥ s.hopsMax then (s.raise0 6 6).count 105 6 1
      else if !answerOp q.op && !s.admits (out * 8 + tc) then (s.raise0 6 3).count 105 2 1
      else s.enqueue out tc { frame := s.transitFrame out tc e f q, tc := tc, answer := answerOp q.op, since := s.now }

/-! ### Heartbeats (R290) -/

/-- The neighbour record of a ring port. -/
def Ring.nbr (r : Ring) (west : Bool) : Nbr := if west then r.west else r.east
def State.setNbr (s : State) (west : Bool) (n : Nbr) : State :=
  { s with ring := if west then { s.ring with west := n } else { s.ring with east := n } }

/-- RING_CFG: MODE and STATION_ID. -/
def State.ringMode (s : State) : Nat := s.fld 0x15200000 1 0
def State.stationId (s : State) : Nat := s.fld 0x15200000 31 16

/-- Does a ring port pass its lanes through to the other (R293): between the lock and its joining, in recovery, with MODE 0? -/
def State.passes (s : State) (p : Nat) : Bool :=
  (p == 32 || p == 33) && s.ring.passing
    && (s.seed.boot == .recovery || s.ringMode == 0 || !s.flag 0x1520000C (p - 32))

/-- A heartbeat arrived on a ring port. -/
def State.heartbeat (west : Bool) (station state : BitVec 16) (s : State) : State :=
  let n := s.ring.nbr west
  let e := b2n west
  let own := station.toNat == s.stationId
  let found := !n.known || !n.live || n.station != station
  let s := s.setNbr west { live := true, state := state, station := station, known := true, conflict := own, lastHb := s.now }
  let s := if found then s.raise0 1 (20 + e) else s
  if own then s.raise0 1 (22 + e) else s

/-! ### Classification (R221, Table 9.2) -/

/-- Is the frame UDP to XYLEM_UDP.DPORT? -/
def State.isAhnath (s : State) (f : Frame) : Bool := f.udp.any fun u => u.dport.toNat == s.fld 0x10000004 15 0

/-- May a frame of ARP, neighbour discovery or LLDP pass a port of its class (Table 10.3)? -/
def State.admitsControl (s : State) (p : Nat) (f : Frame) : Bool := s.portClass p != 3 || f.ethertype == 0x88CC#16

/-- A frame that passed R220 and its policer at an external point. With FWD_EN set, an Ahnath frame of the station's own that
comes back over the ring is discarded, whatever its destination (R233). [DEDUCED, log entry 16] -/
def State.classify (p : Nat) (f : Frame) (s : State) : State :=
  let ring := p == 32 || p == 33
  let ptp := f.ethertype == 0x88F7#16 || f.udp.any fun u => u.dport == 319#16 || u.dport == 320#16
  match (if s.isAhnath f then some f.body else none) with
  | some (.ahnath q) =>
    if ring && q.op == 8#4 then
      let s := if s.ringMode == 1 || s.ringMode == 2 then
          s.heartbeat (p == 33) (BitVec.ofNat 16 (be q.payload 0 2)) (BitVec.ofNat 16 (be q.payload 2 2)) else s
      s.toCtrl p f false
    else if ring && s.flag 0x1300000C 31 && q.srcEp == s.stationEp then (s.raise0 6 7).count 105 7 1
    else if q.dstEp == s.stationEp then s.toHold p f
    else if p != 34 then s.transit p f q
    else s.count 105 0 1
  | _ =>
    if f.ethertype == 0x88B5#16 && p == 34 then s.toCtrl p f false
    else if ptp then s.toCtrl p f true
    else if f.body == .control && s.admitsControl p f then s.toCtrl p f false
    else s.count 105 0 1

/-- MGMT runs half duplex (R255). -/
def State.halfDuplex (s : State) : Bool :=
  let auto := s.autoOn
  let speed := if auto then s.mmac.speed else s.fld 0x16000004 1 0
  speed < 2 && !(if auto then s.mmac.full else s.flag 0x16000004 2)

/-- A frame has been arriving on MGMT in half duplex: its carrier holds MMAC back until it drops (R256).
 [DEDUCED, log entry 75] -/
def State.noteCarrier (p : Nat) (s : State) : State :=
  if p == 34 && s.halfDuplex then { s with mmac := { s.mmac with carrier := true } } else s

/-- A frame arrives whole at an external point. [DEDUCED, log entry 16] -/
def State.arrive (p : Nat) (f : Frame) (s : State) : State :=
  let s := (s.noteCarrier p).indicateAll p (phyKinds p f)
  if !(lengthKinds f).isEmpty then (s.indicateAll p (lengthKinds f)).checkDrop
  else if f.ethertype == 0x8808#16 then
    match f.body with
    | .other b => s.indicateAll p (pauseKind p (be b 0 2)).toList
    | _ => s.indicateAll p (pauseKind p 0).toList
  else if !s.macAccepts p f then s.indicate p 11
  else if !(headerKinds f).isEmpty then (s.indicateAll p (headerKinds f)).checkDrop
  else if s.portClass p == 0 then s.checkDrop
  else match s.police p f.len with
    | (false, s) => s
    | (true, s) => s.classify p f

/-- A frame that Pith sends: an Ahnath packet is looked up as the station's own; another leaves where Pith says. -/
def State.fromCtrl (f : Frame) (s : State) : State :=
  match (if s.isAhnath f then some f.body else none) with
  | some (.ahnath q) => (s.send q.sid q Config.plainTc.toNat true none none none (f.pith.any (·.2))).2
  | _ =>
    match f.pith with
    | some (out, stamp) =>
      let tc := match f.vlan with | v :: _ => v.toNat / 2 ^ 13 | [] => Config.plainTc.toNat
      if out < 35 then s.enqueue out tc { frame := f, tc := tc, answer := true, since := s.now, stamp := stamp } else s
    | none => s.count 105 0 1

/-! ### Gates (R252, R253) -/

/-- The Timebase as ns. -/
def State.tbNs (s : State) : Nat := s.time.sec * 1000000000 + s.time.ns

/-- From `t` ns into a list, entry by entry: ns for which class `tc` stays open from there, counting from when `t` has
been passed; stops at the first closed stretch. -/
def openRun (tc : Nat) : List (BitVec 8 × Nat) → Nat → Nat → Bool → Nat
  | [], _, acc, _ => acc
  | (g, n) :: l, t, acc, going =>
    if t ≥ n then openRun tc l (t - n) acc going
    else if g.toNat / 2 ^ tc % 2 == 1 then openRun tc l 0 (acc + (n - t)) true
    else acc

/-- The intervals of one cycle: the list cut at its end, or its last entry held to it. -/
def GateList.cycleEntries (g : GateList) : List (BitVec 8 × Nat) :=
  let cut := g.entries.foldl (fun (x : Nat × List (BitVec 8 × Nat)) e =>
    let n := min e.2 (g.cycle - x.1)
    (x.1 + n, x.2 ++ [(e.1, n)])) (0, [])
  cut.2 ++ (match g.entries.getLast? with | some e => [(e.1, g.cycle - cut.1)] | none => [])

/-- ns for which class `tc` stays open from a Timebase time on: none where it never closes, 0 where it is closed. -/
def GateList.openFor (g : GateList) (tc now : Nat) : Option Nat :=
  let l := g.cycleEntries
  if g.entries.isEmpty || g.cycle == 0 || l.all fun e => e.2 == 0 || e.1.toNat / 2 ^ tc % 2 == 1 then none
  else
    let at_ := (((now : Int) - (g.base : Int)) % (g.cycle : Int)).toNat
    some (openRun tc (l ++ l) at_ 0 false)

/-- Frame bytes on the wire: a shorter frame is padded to 60 bytes and the FCS (R241). -/
def wireLen (len : Nat) : Nat := max 64 len

/-- Can a port send the frame at all: none longer than 9,216 bytes and no MAC Control frame (R241)? One that it cannot send
ages out. [DESIGN CHOICE, log entry 91] -/
def sendable (p : Nat) (f : Frame) : Bool := p ≥ 35 || f.len ≤ 9216 && f.ethertype != 0x8808#16

/-- The longest time for which class `tc` stays open under a list; none where it never closes. -/
def GateList.longest (g : GateList) (tc : Nat) : Option Nat :=
  (g.openFor tc 0).map fun _ =>
    let l := g.cycleEntries
    ((List.range l.length).map fun i => openRun tc (l ++ l) ((l.take i).map (·.2)).sum 0 false).foldl max 0

/-- Does the operating list of a point hold a frame for good: no open interval of its class is as long as its wire time
(R253)? [DEDUCED, log entry 18] -/
def State.heldForGood (s : State) (p tc len : Nat) : Bool :=
  p < 34 && (s.port p).gate.any fun g => (g.longest tc).any fun d => (wireLen len + 20) * 80 > d * s.portRate p

/-- May a frame of a class start at a point under its gates? [DEDUCED, log entry 18] -/
def State.gateOk (s : State) (p tc len : Nat) : Bool :=
  if p ≥ 34 then true
  else match (s.port p).gate with
    | none => true
    | some g => match g.openFor tc s.tbNs with
      | none => true
      | some d => d > 0 && (wireLen len + 20) * 80 ≤ d * s.portRate p

/-! ### Leaving an egress queue -/

/-- Replace an egress queue. -/
def State.setQueue (s : State) (q : Nat) (l : List QFrame) : State :=
  { s with crown := { s.crown with queues := if l.isEmpty then NMap.erase s.crown.queues q else NMap.set s.crown.queues q l } }

/-- Frames of an egress queue. -/
def State.queue (s : State) (q : Nat) : List QFrame := NMap.getD s.crown.queues q []

/-- After frames left a class queue: tag its new head, or let V run to the largest F where no weighted class waits
(R280). `head`: its head frame left. -/
def State.retag (p tc : Nat) (head : Bool) (s : State) : State :=
  let clear : State → State := fun s =>
    let x := NMap.getD s.canopy.sfq p {}
    { s with canopy := { s.canopy with sfq := NMap.set s.canopy.sfq p { x with s := setNth x.s tc none } } }
  let s := if (s.queue (8 * p + tc)).isEmpty then clear s else if head then s.tagHead p tc false else s
  if (List.range 8).all fun t => s.strictOf p t || (s.queue (8 * p + t)).isEmpty then
    let x := NMap.getD s.canopy.sfq p {}
    if NMap.has s.canopy.sfq p then
      { s with canopy := { s.canopy with sfq := NMap.set s.canopy.sfq p { x with v := x.f.foldl max x.v } } }
    else s
  else s

/-- Offer the residue of a point again, in release order (R232). -/
def State.offerResidue (p : Nat) (s : State) : State :=
  (NMap.getD s.crown.residue p []).foldl (fun s f =>
    if s.admits (8 * p + f.tc) then
      let l := NMap.getD s.crown.residue p []
      let s := { s with crown := { s.crown with
        residue := match l.findIdx? fun x => x == f with
          | some i => if (l.eraseIdx i).isEmpty then NMap.erase s.crown.residue p
              else NMap.set s.crown.residue p (l.eraseIdx i)
          | none => s.crown.residue } }
      s.enqueue p f.tc f
    else s) s

/-- CROWN_AGE.AGE_US in ns. -/
def State.ageLimit (s : State) : Nat := s.fld 0x13000008 11 0 * 1000

/-- Has a frame stayed too long? -/
def State.tooOld (s : State) (since : Nat) : Bool := s.now > since + s.ageLimit

/-- Count one aged frame of a queue (R228, R229). -/
def State.countAged (p q : Nat) (s : State) : State :=
  let s := { s with crown := { s.crown with aged := NMap.set s.crown.aged q ((NMap.getD s.crown.aged q 0 + 1) % 2 ^ 32) } }
  ((s.raise0 6 4).count 105 3 1).indicate p 13

/-- Free every frame of an egress queue that is too old. -/
def State.scrubQueue (q : Nat) (s : State) : State :=
  let l := s.queue q
  let keep := l.filter fun f => !s.tooOld f.since
  if keep.length == l.length then s
  else
    let s := (s.setQueue q keep).retag (q / 8) (q % 8) (headOf keep != headOf l)
    ((List.range (l.length - keep.length)).foldl (fun s _ => s.countAged (q / 8) q) s).offerResidue (q / 8)

/-- Free every frame that is too old, wherever it waits (R229, R264): the residue first, so that none of it is offered. -/
def State.scrub (s : State) : State :=
  let s := { s with crown := { s.crown with scrubAt := s.now } }
  let s := (NMap.keys s.crown.residue).foldl (fun s p =>
    let l := NMap.getD s.crown.residue p []
    let keep := l.filter fun f => !s.tooOld f.since
    let s := { s with crown := { s.crown with
      residue := if keep.isEmpty then NMap.erase s.crown.residue p else NMap.set s.crown.residue p keep } }
    (l.filter fun f => s.tooOld f.since).foldl (fun s f => s.countAged p (8 * p + f.tc)) s) s
  let s := (NMap.keys s.crown.queues).foldl (fun s q => s.scrubQueue q) s
  (NMap.keys s.crown.holdWait).foldl (fun s k =>
    let l := NMap.getD s.crown.holdWait k []
    let keep := l.filter fun h => !s.tooOld h.since
    let s := { s with crown := { s.crown with
      holdWait := if keep.isEmpty then NMap.erase s.crown.holdWait k else NMap.set s.crown.holdWait k keep } }
    (List.range (l.length - keep.length)).foldl (fun s _ => (s.raise0 6 4).count 105 3 1) s) s

/-! ### Marking (R227) -/

/-- Does Crown mark a frame that leaves queue `q` of the given depth in bytes? A probability between 0 and 1 is drawn.
 [DEDUCED, log entry 18] -/
def State.marks (s : State) (q bytes : Nat) : Bool × State :=
  let r := s.reg (0x13000100 + 4 * (q % 8))
  let lo := bits r 11 0
  let hi := bits r 23 12
  let d := bytes / 1024
  if d < lo then (false, s)
  else if d ≥ hi then (true, s)
  else
    let (n, s) := s.draw (100 * (hi - lo))
    (n < bits r 31 24 * (d - lo), s)

/-- The frame as it leaves, marked where R227 says. -/
def State.markFrame (s : State) (q bytes : Nat) (f : Frame) : Frame × State :=
  match f.ip with
  | none => (f, s)
  | some h =>
    if q / 8 == 34 || q / 8 == 35 || (h.ecn != .ect0 && h.ecn != .ect1) then (f, s)
    else match s.marks q bytes with
      | (true, s) => ({ f with ip := some { h with ecn := .ce } }, s.count 105 4 1)
      | (false, s) => (f, s)

/-! ### Selection (R279, R280) -/

/-- May the point send at all: link up, port enabled and at full adaptation (R328), no power-fail flush, MGMT not
deferring or backing off, and for I0 to I3 the way over that Bough to the Root die open (R11, R12)? -/
def State.pointReady (s : State) (p : Nat) : Bool :=
  s.on 0x13000000 && s.sap.flush.isNone && !s.sap.shed
    && (if p < 34 then s.portOn p && (s.port p).up && (s.resSt (0x100 + crownPort p)).sp < 2
          && (s.resSt (0x100 + crownPort p)).exiting.isNone
        else if p == 34 then s.portOn p && (!s.halfDuplex || (!s.mmac.carrier && s.mmac.backoff.isNone))
        else p == 35 || s.flows 0 (p - 35) && s.flows (p - 35) 5)

/-- The head frame of a class that may start now. -/
def State.candidate (s : State) (p tc : Nat) : Option QFrame :=
  (headOf (s.queue (8 * p + tc))).filter fun f => s.gateOk p tc f.frame.len && sendable p f.frame

/-- The class whose head frame starts next. -/
def State.chooseTc (s : State) (p : Nat) : Option Nat :=
  let cand := ([7, 6, 5, 4, 3, 2, 1, 0] : List Nat).filter fun t => (s.candidate p t).isSome
  match cand.find? fun t => s.strictOf p t with
  | some t => some t
  | none =>
    let tagOf : Nat → Nat := fun t => (nth (NMap.getD s.canopy.sfq p {}).s t none).getD (NMap.getD s.canopy.sfq p {}).v
    (cand.foldl (fun (best : Option Nat) t => match best with
      | none => some t
      | some b => if tagOf t < tagOf b then some t else some b) none)

/-- Count the frames that a point's gates have now held past one full cycle (kind 14): those that no open interval admits, once
they have waited that long under the list (R253). [DEDUCED, log entry 18] -/
def State.noteGates (p : Nat) (s : State) : State :=
  match (if p < 34 then (s.port p).gate else none) with
  | none => s
  | some g =>
    (List.range 8).foldl (fun s t =>
      let late : QFrame → Bool := fun f =>
        !f.gateCounted && s.heldForGood p t f.frame.len && s.now > max f.since (s.port p).gateAt + g.cycle
      let l := s.queue (8 * p + t)
      let s' := s.setQueue (8 * p + t) (l.map fun f => if late f then { f with gateCounted := true } else f)
      (l.filter late).foldl (fun s _ => s.indicate p 14) s') s

/-- A transmit timestamp enters TIME_TXTS (R250). [DESIGN CHOICE, log entry 91] -/
def State.queueStamp (p : Nat) (fr : Frame) (t : Nat × Nat) (s : State) : State :=
  let m := match fr.body with | .ptp a b => (a.toNat, b.toNat) | _ => (0, 0)
  if s.time.txts.length ≥ 64 then s.raise0 7 17
  else ({ s with time := { s.time with txts := s.time.txts ++ [(p, m.1, m.2, t.1, t.2)] } }).raise0 7 16

/-- MGMT begins an attempt in half duplex: its own carrier is on the wire until CARRIER_SENSE_DEASSERT (R256).
 [DEDUCED, log entry 75] -/
def State.attempt (f : QFrame) (s : State) : State :=
  { s with mmac := { s.mmac with cur := some f, curAt := s.stampAt (s.tsCorr 34).1, carrier := true, backoff := none } }

/-- Pulled write data leaves an internal port toward its Bough: it lands, and a mark that Crown would have set is a CE that its
READ_RESP brought (R11, R221, R227). [DEDUCED, log entry 92] -/
def State.leaveBough (fr : Frame) (flagged : Bool) (s : State) : State :=
  match fr.body with
  | .ahnath q =>
    let s := if flagged then s.rateAnswer q.srcEp 0 1 else s
    match s.desc? q.reqId.toNat with
    | some d => if d.fits q && d.length == q.length.toNat then s.answerOk q.reqId.toNat 0 0 q.payload else s.stale
    | none => s.stale
  | _ => s

/-- Was the frame marked as it left? -/
def marked (before after : Frame) : Bool := after.ip.any (·.ecn == .ce) && !before.ip.any (·.ecn == .ce)

/-- The start of a frame: what its egress point makes of it. In half duplex a timestamp waits for the attempt's success. -/
def State.startFrame (p : Nat) (f : QFrame) (fr : Frame) (s : State) : State :=
  if p == 35 then { s with crown := { s.crown with ctrl := (fr, f.rx) :: s.crown.ctrl } }
  else if p > 35 then s.leaveBough fr (marked f.frame fr)
  else
    let fr := { fr with len := wireLen fr.len }
    let s := { s with out := { point := p, frame := fr, time := s.now } :: s.out }
    let s := if p < 34 then s.restFrom (0x100 + crownPort p) else s
    if p == 34 && s.halfDuplex then
      ({ s with mmac := { s.mmac with collisions := 0 } }).attempt { f with frame := fr }
    else if f.stamp then s.queueStamp p fr (s.stampAt (s.tsCorr p).1) else s

/-- Select and start the next frame of a point; frames found too old are discarded on the way (R228). `fuel` bounds
them. [DEDUCED, log entry 18] -/
def State.select : Nat → Nat → State → State
  | 0, _, s => s
  | k + 1, p, s =>
    match s.chooseTc p with
    | none => s
    | some t =>
      match headOf (s.queue (8 * p + t)) with
      | none => s
      | some f =>
        let q := 8 * p + t
        let bytes := s.queueBytes q
        let st := nth (NMap.getD s.canopy.sfq p {}).s t none
        let gone := s.setQueue q (dropHead (s.queue q))
        if s.tooOld f.since then
          State.select k p (((gone.retag p t true).countAged p q).offerResidue p)
        else
          let s := match st with
            | some v => { gone with canopy := { gone.canopy with
                sfq := NMap.set gone.canopy.sfq p { NMap.getD gone.canopy.sfq p {} with v := v } } }
            | none => gone
          let s := s.retag p t true
          let (fr, s) := s.markFrame q bytes f.frame
          (s.startFrame p f fr).offerResidue p

/-- Frames waiting at a point. -/
def State.waitingAt (s : State) (p : Nat) : Nat := ((List.range 8).map fun t => (s.queue (8 * p + t)).length).sum

/-- The payload of a READ_RESP goes to the internal port of the Bough whose engine issued the READ (R11, R221): refused there,
it is discarded (R226) and its READ comes again; an idle port passes it on at once, another keeps it for EGRESS_SELECT.
 [DEDUCED, log entry 92] -/
def State.toBough (k : Nat) (x : InPkt) (s : State) : State :=
  let p := 36 + k
  let f : QFrame :=
    { frame := { len := x.pkt.payload.length, ip := x.ip, body := .ahnath x.pkt }, tc := x.tc, since := s.now }
  if !s.admits (8 * p + x.tc) then (s.raise0 6 3).count 105 2 1
  else
    let idle := s.waitingAt p == 0 && s.pointReady p
    let s := s.enqueue p x.tc f
    if idle then s.select 1 p else s

/-! ### The forwarding table and path records (R222 to R224, R235) -/

/-- Take an entry out; the path record that learning made for it goes with it. -/
def State.dropFwd (ep : Nat) (s : State) : State :=
  match NMap.get? s.crown.fwd ep with
  | none => s
  | some e => { s with crown := { s.crown with
      fwd := NMap.erase s.crown.fwd ep
      paths := if e.learned then NMap.erase s.crown.paths e.path else s.crown.paths } }

/-- Entries of a set. -/
def State.setOf (s : State) (ep : W32) : NMap Fwd :=
  s.crown.fwd.filter fun p => Config.fwdSet (w32 p.1) == Config.fwdSet ep

/-- The highest path record that nothing uses. [DEDUCED, log entry 19] -/
def State.freePath (s : State) : Option Nat :=
  (List.range 4096).find? (fun i => !NMap.has s.crown.paths (4095 - i)) |>.map fun i => 4095 - i

/-- Xylem accepted a packet of an endpoint: learn it, or refresh its learned entry (R224); learning into a full set is skipped
and counted. [DEDUCED, log entry 19] -/
def State.learn (p : Nat) (f : Frame) (ep : W32) (s : State) : State :=
  if !s.flag 0x13000014 16 then s
  else
    let h := f.ip.getD {}
    let rec_ : PathRec :=
      { mac := f.srcMac, vid := BitVec.ofNat 12 (f.vlan.headD 0#16).toNat, tagged := !f.vlan.isEmpty, v6 := h.v6, ip := h.src }
    let port := crownPort p
    let sub := if p < 32 then p % 4 else 0
    match NMap.get? s.crown.fwd ep.toNat with
    | some e =>
      if !e.learned then s
      else { s with crown := { s.crown with
        fwd := NMap.set s.crown.fwd ep.toNat { e with port := port, sub := sub, refreshed := s.now }
        paths := NMap.set s.crown.paths e.path rec_ } }
    | none =>
      let skip : State := { s with crown := { s.crown with learnSkips := s.crown.learnSkips + 1 } }
      if (s.setOf ep).length ≥ 8 then skip
      else match s.freePath with
        | none => skip
        | some n => { s with crown := { s.crown with
            fwd := NMap.set s.crown.fwd ep.toNat
              { learned := true, kind := 0, port := port, alt := 0xF, sub := sub, altSub := 0, path := n, refreshed := s.now }
            paths := NMap.set s.crown.paths n rec_ } }

/-- CROWN_FWD_DATA of an entry (Table 9.3). -/
def Fwd.word (e : Fwd) : W32 :=
  w32 (2 ^ 31 + b2n e.learned * 2 ^ 30 + place e.kind 28 2 + place e.port 24 4 + place e.alt 20 4 + place e.sub 18 2
    + place e.altSub 16 2 + place e.path 0 12)

/-- The entry that CROWN_FWD_DATA spells, LEARNED forced to 0. -/
def fwdOf (w : W32) : Fwd :=
  { learned := false, kind := bits w 29 28, port := bits w 27 24, alt := bits w 23 20, sub := bits w 19 18
    altSub := bits w 17 16, path := bits w 11 0 }

/-- Are KIND, PORT and ALT_PORT valid? -/
def Fwd.ok (e : Fwd) : Bool :=
  let okPort : Nat → Bool := fun p => if e.kind == 0 then p ≤ 10 else p == 8 || p == 9
  e.kind < 2 && okPort e.port && (e.alt == 0xF || okPort e.alt)

/-- CROWN_FWD_STAT.RESULT. -/
def State.fwdDone (r : Nat) (s : State) : State := { s with crown := { s.crown with fwdResult := r } }

/-- The least recently refreshed learned entry of a set. -/
def oldestLearned (l : NMap Fwd) : Option Nat :=
  (l.foldl (fun (best : Option (Nat × Fwd)) p =>
    if !p.2.learned then best
    else match best with
      | none => some p
      | some b => if p.2.refreshed < b.2.refreshed then some p else some b) none).map (·.1)

/-- Write an entry through the window. [DEDUCED, log entry 19] -/
def State.writeFwd (ep : W32) (w : W32) (s : State) : State :=
  let e := fwdOf w
  if !e.ok then s.fwdDone 3
  else if !bit w 31 then (s.dropFwd ep.toNat).fwdDone 0
  else
    let old := s.setOf ep
    let put (s : State) : State :=
      ({ s with crown := { s.crown with fwd := NMap.set s.crown.fwd ep.toNat e } }).fwdDone 0
    if NMap.has s.crown.fwd ep.toNat then put (s.dropFwd ep.toNat)
    else if old.length < 8 then put s
    else match oldestLearned old with
      | some k => put (s.dropFwd k)
      | none => (s.raise0 6 2).fwdDone 2

/-- The record staged in the path window. -/
def State.stagedPath (s : State) : PathRec :=
  let hi := s.reg 0x13000308
  { mac := BitVec.ofNat 48 (bits hi 15 0 * 2 ^ 32 + (s.reg 0x13000304).toNat), vid := BitVec.ofNat 12 (bits hi 27 16)
    tagged := bit hi 28, v6 := bit hi 29
    ip := BitVec.ofNat 128 ((List.range 4).foldl (fun n i => n * 2 ^ 32 + (s.reg (0x1300030C + 4 * i)).toNat) 0) }

/-- Write a path record; a learned entry that uses it becomes static. -/
def State.writePath (n : Nat) (r : PathRec) (s : State) : State :=
  { s with crown := { s.crown with
      paths := NMap.set s.crown.paths n r
      fwd := s.crown.fwd.map fun p => if p.2.path == n then (p.1, { p.2 with learned := false }) else p } }

end Sys2Proof.Machine
end

