-- ==== Sys2Proof/Machine/PortOps.lean ====
section
/-!
DEFINITION. Operations of the ports, the Timebase and MGMT (spec/10): links (R240), the Timebase (R248 to R251), gate
lists (R252 to R254), MDIO and half duplex (R255, R256).
-/

namespace Sys2Proof.Machine

/-! ### Links (R240) -/

/-- Event group of a fabric or ring sub-port, and its number within it (Table 19.1). -/
def portGroup (p : Nat) : Nat := if p < 32 then 12 + p / 4 else p - 12
def portSub (p : Nat) : Nat := if p < 32 then p % 4 else 0

/-- Has the Ethernet reference of a port been lost (Tables 1.7, 15.5)? -/
def State.ethRefLost (s : State) (p : Nat) : Bool :=
  nth s.sap.refLost (if p < 16 || p == 32 then 0 else 1) false

/-- Can the sub-port come up: it exists, its port is enabled, its reference and its supply are there, and it is no pass-through? -/
def State.canLink (s : State) (p : Nat) : Bool :=
  linkPoint p && s.portOn p && !(s.port p).up && !s.sap.shed && !s.ethRefLost p
    && !s.passes p

/-- A sub-port comes up. -/
def State.linkUp (p : Nat) (s : State) : State :=
  (s.setPort p { s.port p with up := true }).raise0 (portGroup p) (4 + portSub p)

/-- A sub-port goes down: counted (kind 7) and raised. [DEDUCED, log entry 75] -/
def State.linkDown (p : Nat) (s : State) : State :=
  if (s.port p).up then
    ((s.setPort p { s.port p with up := false }).raise0 (portGroup p) (8 + portSub p)).indicate p 7
  else s

/-- Several sub-ports go down. -/
def State.linksDown (l : List Nat) (s : State) : State := l.foldl (fun s p => s.linkDown p) s

/-! ### The Timebase (R248, R251) -/

/-- Block nanoseconds in which the Timebase advances by at least `d` ns. -/
def State.tbWait (s : State) (d : Nat) : Nat :=
  let rate : Int := 2 ^ 32 + s.addend
  ceilDiv (d * 2 ^ 32) rate.toNat

/-- Let time pass until the Timebase has reached a time in ns. -/
def State.untilTb (t : Nat) (s : State) : State := if s.tbNs < t then s.advance (s.tbWait (t - s.tbNs)) else s

/-- Load a time given in ns. -/
def State.loadTime (t : Nat) (s : State) : State :=
  { s with time := { s.time with sec := t / 1000000000 % 2 ^ 48, ns := t % 1000000000 } }

/-- TIME_OP.SET: load the staged time (R248). -/
def State.timeSet (s : State) : State :=
  let sec := s.fld 0x1700001C 15 0 * 2 ^ 32 + (s.reg 0x17000018).toNat
  let s := s.loadTime (sec * 1000000000 + s.fld 0x17000014 29 0)
  { s with time := { s.time with frac := 0 } }

/-- TIME_OP.STEP: add the signed TIME_STEP nanoseconds (R248). -/
def State.timeStep (s : State) : State :=
  let t : Int := (s.tbNs : Int) + sInt 32 (s.reg 0x17000024).toNat
  s.loadTime (t % ((2 ^ 48 * 1000000000 : Nat) : Int)).toNat

/-- A rising edge on PPS_IN (R251). -/
def State.ppsIn (s : State) : State :=
  ({ s with time := { s.time with cap := (s.time.sec, s.time.ns) } }).raise0 7 18

/-- PPS_OUT rises when the nanoseconds count passes TIME_PPS_OFFSET (R251). -/
def State.ppsOut (s : State) : State :=
  let off := s.fld 0x17000030 29 0
  let sec := if s.time.ns < off then s.time.sec else s.time.sec + 1
  let s := s.untilTb (sec * 1000000000 + off)
  { s with time := { s.time with ppsHigh := some (s.now + s.fld 0x17000034 15 0 * 1000) } }

/-! ### Gate lists (R252, R254) -/

/-- ns from a place in a cycle to the end of the entry that it lies in. -/
def toEdge : List (BitVec 8 × Nat) → Nat → Nat
  | [], _ => 0
  | (_, n) :: l, t => if t < n then n - t else toEdge l (t - n)

/-- ns until the next entry's gates take effect. -/
def GateList.edge (g : GateList) (now : Nat) : Nat :=
  toEdge g.cycleEntries (((now : Int) - (g.base : Int)) % (g.cycle : Int)).toNat

/-- Is a gate list operating at the point? -/
def State.gateRuns (s : State) (p : Nat) : Bool := s.tbOn && (s.port p).gate.any fun g => g.cycle > 0

/-- The interval of the present entry, or the cycle, ends. -/
def State.gateAdvance (p : Nat) (s : State) : State :=
  match (s.port p).gate with
  | none => s
  | some g => s.untilTb (s.tbNs + g.edge s.tbNs)

/-- First cycle start of a list at or after a time (R254). -/
def GateList.firstStart (g : GateList) (t : Nat) : Nat :=
  if t ≤ g.base || g.cycle == 0 then max t g.base else g.base + ceilDiv (t - g.base) g.cycle * g.cycle

/-- The accepted list takes over. -/
def State.gateSwap (p : Nat) (s : State) : State :=
  match (s.port p).next with
  | none => s
  | some (l, t) =>
    let s := s.untilTb t
    (s.setPort p { s.port p with gate := l, gateAt := s.now, next := none }).raise0 (portGroup p) (20 + portSub p)

/-! ### MGMT (R255, R256, R415) -/

/-- MMAC_MDIO.START. -/
def State.mdioStart (s : State) : State := { s with mmac := { s.mmac with mdioBusy := true } }

/-- Speed and duplex that the PHY registers resolve to, by the auto-negotiation priority of IEEE 802.3: 1,000 full, 100 full,
100 half, 10 full, 10 half; none while the link is not up or the negotiation not complete. -/
def resolvePhy (r1 r4 r5 r9 r10 : BitVec 16) : Option (Nat × Bool) :=
  let both : Nat → Bool := fun i => r4.getLsbD i && r5.getLsbD i
  if !(r1.getLsbD 2 && r1.getLsbD 5) then none
  else if r9.getLsbD 9 && r10.getLsbD 11 then some (2, true)
  else if both 8 then some (1, true)
  else if both 7 then some (1, false)
  else if both 6 then some (0, true)
  else if both 5 then some (0, false)
  else none

/-- The poll's result is applied. -/
def State.autoPoll (r : Option (Nat × Bool)) (s : State) : State :=
  match r with
  | some (sp, f) => { s with mmac := { s.mmac with speed := sp, full := f } }
  | none => s

/-- ns of a bit on MGMT. [DEDUCED, log entry 9] -/
def State.mgmtBit (s : State) : Nat :=
  match (if s.autoOn then s.mmac.speed else s.fld 0x16000004 1 0) with
  | 0 => 100 | 1 => 10 | _ => 1

/-- Does MGMT attempt a frame in half duplex? -/
def State.attempting (s : State) : Bool := s.halfDuplex && s.mmac.cur.isSome && s.mmac.backoff.isNone

/-- The frame being attempted is discarded. -/
def State.dropAttempt (s : State) : State := { s with mmac := { s.mmac with cur := none, collisions := 0, backoff := none } }

/-- A collision after so many bit times of the attempt. -/
def State.collide (bits_ : Nat) (s : State) : State :=
  let s := s.advance (bits_ * s.mgmtBit)
  let s := { s with mmac := { s.mmac with carrier := false } }
  if bits_ > 512 then s.dropAttempt.indicate 34 7
  else
    let n := s.mmac.collisions + 1
    let s := s.indicate 34 6
    if n ≥ 16 then (s.dropAttempt.indicate 34 8).raise0 7 24
    else
      let (r, s) := s.draw (2 ^ min n 10)
      let t := s.now + (32 + 512 * r) * s.mgmtBit
      { s with mmac := { s.mmac with collisions := n, backoff := some t } }

/-- The back-off ends: an age check, then the next attempt, or a wait for the carrier to drop. -/
def State.retryMgmt (s : State) : State :=
  match s.mmac.cur with
  | none => s.dropAttempt
  | some f =>
    let s := s.until (s.mmac.backoff.getD 0)
    if s.tooOld f.since then s.dropAttempt.countAged 34 (34 * 8 + f.tc)
    else if s.mmac.carrier then s
    else ({ s with out := { point := 34, frame := f.frame, time := s.now } :: s.out }).attempt f

/-- Carrier sense drops: lost in the middle of MGMT's own attempt (kind 5), at that attempt's end, or after another station's
frame; 96 bit times pass before the next attempt (R244, R250, R256). [DEDUCED, log entry 75] -/
def State.carrierDrop (lost : Bool) (s : State) : State :=
  if s.attempting && lost then s.indicate 34 5
  else
    let sent : State → State := fun s => match s.mmac.cur with
      | some f => if f.stamp then s.queueStamp 34 f.frame s.mmac.curAt else s
      | none => s
    let s := if s.attempting then (sent s).dropAttempt else s
    let s := s.advance (96 * s.mgmtBit)
    { s with mmac := { s.mmac with carrier := false } }

/-- MGMT_PHY_RST_N is released (R415). -/
def State.phyRelease (s : State) : State :=
  let s := s.until s.mmac.phyHold
  { s with mmac := { s.mmac with phyRstN := true } }

end Sys2Proof.Machine
end

