-- ==== Sys2Proof/Machine/RingOps.lean ====
section
/-!
DEFINITION. The RING block (spec/13: R285 to R294): joining, heartbeats out, a neighbour lost, pass-through.
-/

namespace Sys2Proof.Machine

/-- JOIN bit of a ring port (32 EAST, 33 WEST). -/
def State.joinBit (s : State) (p : Nat) : Bool := s.flag 0x1520000C (p - 32)

/-- Is the ring port joined, MODE being 1 or 2 (R289)? -/
def State.joined (s : State) (p : Nat) : Bool := s.joinBit p && (s.ringMode == 1 || s.ringMode == 2)

/-- The RING_PT strap as sampled. -/
def State.ringPt (s : State) : Bool := s.seed.straps.getLsbD 4

/-- STATE that a heartbeat carries (Table 13.1). -/
def State.hbState (s : State) : BitVec 16 := s.ring.forced.getD (BitVec.ofNat 16 (s.fld 0x15200008 15 0))

/-- The heartbeat that goes out of a ring port (R29, R289), one hop counted (R233). -/
def State.heartbeatFrame (s : State) (p : Nat) : Frame :=
  let q : Pkt :=
    { op := 8#4, keyIndex := 0#13, dstEp := Config.heartbeatDst, srcEp := s.stationEp
      reqId := BitVec.ofNat 64 (s.stationId * 2 ^ 48 + s.ring.hbSeq), region := 0xFFFFFFFF#32, length := 32#16, hops := 1#16
      payload := beBytes 2 s.stationId ++ beBytes 2 s.hbState.toNat ++ beBytes 4 s.ring.hbSeq ++ beBytes 8 s.tb
        ++ List.replicate 16 0#8 }
  let h := Config.sportHash q.srcEp q.dstEp (if s.flag 0x10000004 16 then none else some q.reqId)
  { len := 146, dstMac := 0xFFFFFFFFFFFF#48, srcMac := s.portMac p, ethertype := 0x86DD#16
    ip := some { v6 := true, src := s.portIp p true, dst := BitVec.ofNat 128 (0xFF02 * 2 ^ 112 + 1), ttl := 1, ecn := .ect0
                 flow := BitVec.ofNat 20 h.toNat }
    udp := some { sport := BitVec.ofNat 16 (0xC000 + h.toNat), dport := BitVec.ofNat 16 (s.fld 0x10000004 15 0)
                  len := 88, csum := .right }
    body := .ahnath q }

/-- A heartbeat goes to the egress queue of a joined port, in class RING_HB.TC; it is never refused (R226).
 [DEDUCED, log entry 75] -/
def State.sendHeartbeat (p : Nat) (s : State) : State :=
  if !s.joined p then s
  else
    let tc := s.fld 0x15200004 26 24
    let f := s.heartbeatFrame p
    let s := { s with ring := { s.ring with hbSeq := (s.ring.hbSeq + 1) % 2 ^ 32 } }
    s.enqueue p tc { frame := f, tc := tc, answer := true, since := s.now }

/-- RING_HB.PERIOD_US in ns. -/
def State.hbPeriod (s : State) : Nat := s.fld 0x15200004 15 0 * 1000

/-- A period passes: a heartbeat out of each joined port. -/
def State.heartbeats (s : State) : State := ((s.advance s.hbPeriod).sendHeartbeat 32).sendHeartbeat 33

/-- May heartbeats go out: not once a power-fail flush has begun (R289)? -/
def State.canHeartbeat (s : State) : Bool := (s.joined 32 || s.joined 33) && s.sap.flush.isNone

/-- HEARTBEAT_SEND (R289). -/
def execHeartbeatSend (s : State) : Host.Outcome State Fault Refusal := act s.canHeartbeat s.heartbeats s

/-- MISS periods without a heartbeat: the neighbour is lost (R290). -/
def State.loseNbr (west : Bool) (s : State) : State :=
  let n := s.ring.nbr west
  let s := s.until (n.lastHb + s.fld 0x15200004 23 16 * s.hbPeriod)
  (s.setNbr west { n with live := false }).raise0 1 (18 + b2n west)

/-- NEIGHBOUR_LOST (R290). -/
def execNeighbourLost (west : Bool) (s : State) : Host.Outcome State Fault Refusal :=
  act ((s.ringMode == 1 || s.ringMode == 2) && (s.ring.nbr west).live) (s.loseNbr west) s

/-- BYPASS_SETTLED (R293): SETTLE_MS after BYP_HOLD_E and BYP_HOLD_W were driven high. -/
def execBypassSettled (s : State) : Host.Outcome State Fault Refusal :=
  match s.ring.byp with
  | none => act false s s
  | some t =>
    let u := s.until (t + s.fld 0x1520000C 15 8 * 1000000)
    act (!s.ring.held) (({ u with ring := { u.ring with held := true } }).linksDown [32, 33]) s

/-- PASS_THROUGH_LOCK (R293): the receivers of EAST and WEST are locked. -/
def execPassThroughLock (s : State) : Host.Outcome State Fault Refusal :=
  act (s.ringPt && s.ring.held && !s.ring.passing) { s with ring := { s.ring with passing := true } } s

/-- Does a ring port have a CONFLICT or a STATION_ID with which JOIN may not be set (R285)? -/
def State.joinRefused (s : State) (w : W32) : Bool :=
  (bit w 0 && !s.joinBit 32 || bit w 1 && !s.joinBit 33) && (s.stationId == 0 || s.stationId == 0xFFFF)

/-- JOIN of a ring port changed (R293, R294): a port that stops passing through trains anew, one that leaves passes the ring
on; either way its link goes down first. -/
def State.joinChanged (old new : W32) (s : State) : State :=
  let hit : Nat → Bool := fun i => bit old i != bit new i && s.ring.passing && s.ringMode != 0
  ([32, 33].filter fun p => hit (p - 32)).foldl (fun s p => s.linkDown p) s

end Sys2Proof.Machine
end

