-- ==== Sys2Proof/Machine/PithOps.lean ====
section
/-!
DEFINITION. The Pith pairs (spec/13: R295 to R305): fencing, takeovers and their phases, rehearsal, re-arming, and the Bough
steps of a firmware activation.
-/

namespace Sys2Proof.Machine

/-! ### Pairs -/

/-- State of a pair: A (false) or B (true). -/
def Pith.pair (p : Pith) (b : Bool) : PairSt := if b then p.b else p.a
def Pith.setPair (p : Pith) (b : Bool) (x : PairSt) : Pith := if b then { p with b := x } else { p with a := x }

/-- The standby: the pair that is not active. -/
def Pith.standby (p : Pith) : Bool := !p.activeB

/-- Does a pair run that serves what Pith serves: no unplanned takeover, and a control pair (R298 to R300)? -/
def State.pithServes (s : State) : Bool :=
  !s.pith.noControl && s.pith.take.all (·.planned) && s.pith.pair s.pith.activeB == .active

/-- Code of a cause (PITH_STATUS.LAST_CAUSE). -/
def TakeCause.code : TakeCause → Nat
  | .mismatch => 1
  | .watchdog => 2
  | .operator => 3
  | .activation => 4
  | .rehearsal => 5

/-- Admin commands that Pith holds: fetched, not ended, and no Asynchronous Event Request or other opcode of Bud's.
 [DEDUCED, log entry 47] -/
def State.pithHeld (s : State) : List Nat :=
  (s.bud.cmds.filter fun p => p.2.admin && p.2.status.isNone && !budOpcode p.2.opc && s.pith.pending != some p.1).map (·.1)

/-- Force the STATE of the heartbeats (Table 13.1). -/
def State.forceHb (v : Option (BitVec 16)) (s : State) : State := { s with ring := { s.ring with forced := v } }

/-! ### No control pair (R299) -/

/-- The station has no control pair: STATE 0x0005, pith.no_control, ALERT_N[2]; what Pith held ends with SCT 0x7, SC 0x86. -/
def State.loseControl (s : State) : State :=
  let reh := s.pith.take.any fun t => t.cause == .rehearsal
  let s := { s with
    pith := { s.pith.setPair s.pith.standby .fenced with
      noControl := true, take := none, rehearse := if reh then 3 else s.pith.rehearse }
    alertFixed := setNth s.alertFixed 2 true }
  let s := (s.forceHb (some 5#16)).raise0 1 5
  let s := match s.pith.pending with
    | some t => ({ s with pith := { s.pith with pending := none } }).fail t 7 0x86
    | none => s
  s.pithHeld.foldl (fun s t => s.fail t 7 0x86) s

/-- A planned takeover falls back: the old pair goes on, and the attempt has lost nothing (R300). -/
def State.fallBack (s : State) : State :=
  let s := { s with pith := { s.pith.setPair s.pith.standby .cold with take := none } }
  let s := s.raise0 1 4
  match s.pith.pending with
  | some t => ({ s with pith := { s.pith with pending := none } }).fail t 0 6
  | none => s

/-- The standby of the takeover that runs has failed. [DEDUCED, log entry 74] -/
def State.standbyFails (s : State) : State :=
  match s.pith.take with
  | none => s
  | some t => if t.planned then s.fallBack else s.loseControl

/-! ### Beginning a takeover -/

/-- Fence the active pair and begin an unplanned takeover (R295, R298); without a standby there is no control pair.
 [DEDUCED, log entry 74] -/
def State.fence (cause : TakeCause) (s : State) : State :=
  let sb := s.pith.pair s.pith.standby
  let phase : TakePhase := s.pith.take.elim .wake (·.phase)
  let s := { s with pith := { s.pith.setPair s.pith.activeB .fenced with lastCause := cause.code } }
  let s := (s.forceHb (some 2#16)).raise0 1 2
  if sb == .cold || sb == .booting then
    { s with pith := { s.pith.setPair s.pith.standby .booting with
        take := some { cause := cause, planned := false, phase := phase, from_ := s.now } } }
  else s.loseControl

/-- Begin a planned takeover (R300); without a cold standby it falls back at once. [DEDUCED, log entry 74] -/
def State.plan (cause : TakeCause) (s : State) : State :=
  if s.pith.pair s.pith.standby == .cold then
    ({ s with pith := { s.pith.setPair s.pith.standby .booting with
        lastCause := cause.code, take := some { cause := cause, planned := true, phase := .wake, from_ := s.now } } }).raise0 1 2
  else s.fallBack

/-- May a planned takeover begin? -/
def State.canPlan (s : State) : Bool := s.pith.take.isNone && !s.pith.noControl && s.pith.pair s.pith.activeB == .active

/-- The outputs of a pair disagree (R295): the active pair is fenced, a standby that boots has failed, and one without
outputs cannot disagree. -/
def State.mismatch (pairB : Bool) (s : State) : State :=
  if pairB == s.pith.activeB then
    if s.pith.pair pairB == .active then (s.raise0 1 0).fence .mismatch else s
  else if s.pith.pair pairB == .booting then
    let planned := s.pith.take.any (·.planned)
    let s := (s.raise0 1 0).standbyFails
    if planned then { s with pith := s.pith.setPair pairB .fenced } else s
  else s

/-- The watchdog expires (R297). -/
def State.watchdog (s : State) : State :=
  let s := s.until (s.pith.kickAt + s.fld 0x05000004 14 0 * 1000000)
  (s.raise0 1 1).fence .watchdog

/-! ### Rehearsal and re-arming (R301, R305) -/

/-- Is a rehearsal refused? -/
def State.rehearseRefused (s : State) (path : Path) : Bool :=
  s.ledgerUsed > 0 || !s.pithHeld.isEmpty || path == .admin

/-- PITH_OP.REHEARSE: refused, or begun 1 ms later. -/
def State.rehearse (path : Path) (s : State) : State :=
  if s.rehearseRefused path then ({ s with pith := { s.pith with rehearse := 2 } }).raise0 1 8
  else { s with pith := { s.pith with rehearseAt := some (s.now + 1000000) } }

/-- The millisecond is over. -/
def State.beginRehearsal (s : State) : State :=
  let s := s.until (s.pith.rehearseAt.getD 0)
  State.fence .rehearsal { s with pith := { s.pith with rehearseAt := none } }

/-- The fenced pairs, none while a takeover needs one. -/
def State.fencedPairs (s : State) : List Bool := [false, true].filter fun b => s.pith.pair b == .fenced

/-- PITH_OP.REARM: a fenced pair that passes becomes the cold standby. [DEDUCED, log entry 74] -/
def State.rearm (pass : Bool) (s : State) : State :=
  s.fencedPairs.foldl (fun s b =>
    if pass then { s with pith := s.pith.setPair b .cold } else s.raise0 1 7) s

/-! ### Resume -/

/-- What Pith held completes: with success where its effect was applied (Table 13.4). [DEDUCED, log entry 47] -/
def State.resumeHeld (s : State) : State :=
  s.pithHeld.foldl (fun s t =>
    match s.cmd? t with
    | some c => if c.stage == .running || c.stage == .recorded then s.finish t c.okStatus else s.fail t 7 0x86
    | none => s) s

/-- The new pair resumes; after a rehearsal the old one is re-armed, whose self-test passes or fails (R301, R305).
 [DEDUCED, log entry 74] -/
def State.resume (s : State) : State :=
  match s.pith.take with
  | none => s
  | some t =>
    let old := s.pith.activeB
    let reh := t.cause == .rehearsal && !t.planned
    let (test, s) := if reh then s.draw 2 else (1, s)
    let failed := reh && test == 0
    let st := if failed then .fenced else if t.planned || reh then .cold else s.pith.pair old
    let p := (s.pith.setPair (!old) .active).setPair old st
    let p := { p with
      activeB := !old, take := none, takeovers := (s.pith.takeovers + 1) % 65536, kickAt := s.now, ckptAt := s.now
      rehearse := if reh then 1 else s.pith.rehearse }
    let s := ({ s with pith := p }).forceHb none
    let s := if t.planned then s else s.resumeHeld
    let s := s.raise0 1 3
    let s := if reh then s.raise0 1 9 else s
    let s := if failed then s.raise0 1 7 else s
    if st == .fenced then s.raise0 1 6 else s

/-! ### Bough steps (R105, R302, R303) -/

/-- The engines of a Bough. -/
def boughEngines (b : Nat) : List Nat := rangeFrom (b * 16) 16

/-- Change every engine of a Bough. -/
def State.modBough (b : Nat) (f : Twig → Twig) (s : State) : State :=
  (boughEngines b).foldl (fun s e => s.setTwig e (f (s.twig e))) s

/-- Begin the step of a Bough: its engines take no more placements. -/
def State.startStep (tag b : Nat) (s : State) : State :=
  (({ s with pith := { s.pith with reload := some { tag := tag, bough := b, phase := 0, since := s.now } } }).modBough b
    fun t => { t with vacating := true }).noteCredits

/-- Does the step of a Bough stand in a phase? -/
def State.stepIn (s : State) (b phase : Nat) : Bool := s.pith.reload.any fun r => r.bough == b && r.phase == phase

/-- Do the engines of a Bough hold no command? -/
def State.boughEmpty (s : State) (b : Nat) : Bool :=
  (boughEngines b).all fun e => (s.twig e).deque.isEmpty && (s.twig e).started.isEmpty

/-- Put the step into a phase, from now. -/
def State.stepPhase (phase : Nat) (s : State) : State :=
  { s with pith := { s.pith with reload := s.pith.reload.map fun r => { r with phase := phase, since := s.now } } }

/-- Vacate ends and the load begins. -/
def State.vacated (b : Nat) (s : State) : State :=
  (((s.passStripes b).stepPhase 1).modBough b fun t => { t with vacating := false, reloading := true }).noteCredits.pump

/-- Vacate was not over in 30 ms: the engines take placements again. -/
def State.stepAbort (b : Nat) (s : State) : State :=
  let s := s.until ((s.pith.reload.elim 0 (·.since)) + 30000000)
  ((s.stepPhase 2).modBough b fun t => { t with vacating := false }).raise0 5 (4 + b)

/-- A second later the step is tried again. -/
def State.stepRetry (b : Nat) (s : State) : State :=
  let s := s.until ((s.pith.reload.elim 0 (·.since)) + 1000000000)
  ((s.stepPhase 0).modBough b fun t => { t with vacating := true }).noteCredits

/-- The microcode of a Bough is loaded: its engines rejoin, and the next Bough's step begins or the activation ends. -/
def State.loaded (b : Nat) (s : State) : State :=
  match s.pith.reload with
  | none => s
  | some r =>
    let s := (s.modBough b fun t => { t with reloading := false }).noteCredits.pump
    if b < 3 then s.startStep r.tag (b + 1)
    else
      let s := { s with pith := { s.pith with reload := none, pending := none } }
      s.finishOk r.tag

end Sys2Proof.Machine
end

