-- ==== Sys2Proof/Machine/RootOps.lean ====
section
/-!
DEFINITION. The Rootlets (spec/14): bringing a drive up and taking it out of service (R309, R315 to R319), the inbound map
(R312, R313), timeouts and controller resets (R322).
-/

namespace Sys2Proof.Machine

/-! ### Bringing up a drive (R309, R315) -/

/-- Is ROOTLET_CTRL.ENABLE set, and POWER_OFF clear? -/
def State.rootOn (s : State) (d : Nat) : Bool := s.on (rootBase d)
def State.powerOff (s : State) (d : Nat) : Bool := s.flag (rootBase d) 2

/-- Highest generation to train at (R309). -/
def State.maxGen (s : State) (d : Nat) : Nat := max 4 (min 6 (s.fld (rootBase d + 4) 2 0))

/-- Detect: the insertion debounce starts. -/
def State.detect (d : Nat) (s : State) : State :=
  s.setDrive d { s.drive d with st := .debouncing, deadline := s.now + s.fld (rootBase d + 0xC) 15 0 * 1000000 }

/-- Power: PWREN is driven high. -/
def State.powerUp (d : Nat) (s : State) : State :=
  s.setDrive d { s.drive d with st := .powering, pwren := true
                                deadline := s.now + s.fld (rootBase d + 0xC) 31 16 * 1000000 }

/-- Train at a generation, for at most 100 ms. -/
def State.train (d gen : Nat) (s : State) : State :=
  s.setDrive d { s.drive d with st := .training gen, perstN := true, deadline := s.now + 100000000 }

/-- PERST_N asserted and PWREN low. -/
def Drive.dark (v : Drive) (st : PortSt) : Drive :=
  { v with st := st, pwren := false, perstN := false, gen := 0, width := 0, inited := false, quiescing := false
           disabling := false, resetting := false }

/-- The drive is not brought up: STATE 6, as at the end of Qualify (R315). -/
def State.settleFail (d : Nat) (s : State) : State :=
  (s.setDrive d ((s.drive d).dark .qualFail)).raise0 (24 + d) 3

/-- The next lower generation, or no bring-up (R309). -/
def State.trainLower (d : Nat) (s : State) : State :=
  match (s.drive d).st with
  | .training g => if g > 4 then s.train d (g - 1) else s.settleFail d
  | _ => s

/-- Is a drive training? -/
def PortSt.isTraining : PortSt → Bool
  | .training _ => true
  | _ => false

/-- May the link settle at this generation and width? Without its Bough's PCIe reference it cannot (R341). -/
def State.canTrain (s : State) (d gen width : Nat) : Bool :=
  !nth s.sap.refLost (4 + d / 6) false &&
  (match (s.drive d).st with | .training g => gen ≤ g | _ => false) && 4 ≤ gen && (width == 1 || width == 2 || width == 4)

/-- The link is active. -/
def State.linkTrained (d gen width : Nat) (s : State) : State :=
  let s := s.setDrive d { s.drive d with st := .waiting, gen := gen, width := width, deadline := s.now + 100000000 }
  let s := if gen < 6 || width < 4 then s.raise0 (24 + d) 0 else s
  if s.vault.contains d then s.checkVault else s

/-- I/O queue pairs created, and entries of each (R318). -/
def State.pairsOf (s : State) (d : Nat) (i : DriveInfo) : Nat := min (max 1 (s.fld (rootBase d + 0x10) 4 0)) i.granted
def State.inFlight (s : State) (d : Nat) (i : DriveInfo) : Nat :=
  let p := s.pairsOf d i
  min 4096 (p * (min (4096 / max 1 p + 1) (i.mqes + 1) - 1))

/-- Does the drive meet what Table 14.4 marks QUAL_FAIL? -/
def driveQualified (i : DriveInfo) : Bool :=
  i.ver.toNat ≥ 0x20000 && i.lbafOk && i.formatNvm && (i.mdts == 0 || i.mdts ≥ 6) && (!i.vwc || i.flush)

/-- The controller is ready and its queues exist: Qualify (R318, R319). -/
def State.initDone (d : Nat) (i : DriveInfo) (s : State) : State :=
  if i.fatal then s.contain d
  else
    let lim := s.inFlight d i
    let s := s.setDrive d { s.drive d with
      st := if driveQualified i then .ready else .qualFail, info := i, inited := true, formatted := i.formatted, limit := lim }
    let s := if lim < 4096 then s.raise0 (24 + d) 6 else s
    (s.raise0 (24 + d) 3).kickDrive d

/-! ### Out of service (R315 to R317) -/

/-- Every command at or for a drive ends as failed: what it read is unavailable. -/
def State.endAll (d : Nat) (s : State) : State :=
  let v := s.drive d
  let s := s.setDrive d { v with queue := [], atDrive := [] }
  v.all.foldl (fun s c => s.missCmd c false) s

/-- Power goes off: STATE 7. -/
def State.driveOff (d : Nat) (s : State) : State :=
  let s := s.endAll d
  ((s.setDrive d ((s.drive d).dark .off)).checkVault).pump

/-- A drive that quiesces or is being disabled has no command left at it: it goes off. -/
def State.checkOff (d : Nat) (s : State) : State :=
  let v := s.drive d
  if (v.quiescing || v.disabling) && v.atDrive.isEmpty then s.driveOff d else s

/-- ENABLE is cleared: no more commands, the member fails, and the drive goes off once those at it have ended.
 [DEDUCED, log entry 66] -/
def State.disableRoot (d : Nat) (s : State) : State :=
  let s := s.failDrive d
  let s := s.setDrive d { s.drive d with
    disabling := true, deadline := s.now + s.fld (rootBase d + 0x14) 15 0 * 1000000 }
  s.checkOff d

/-- ENABLE is set: Table 14.3 from Detect. -/
def State.enableRoot (d : Nat) (s : State) : State :=
  let s := s.setDrive d ((s.drive d).dark .absent)
  if s.powerOff d then s.setDrive d { s.drive d with st := .off }
  else if (s.drive d).present then s.detect d else s

/-- Is POWER_OFF refused: the drive is a working member or a taken spare under rebuild (R317)? -/
def State.powerRefused (s : State) (d : Nat) : Bool := (s.memberOf d).isSome

/-- POWER_OFF is set: quiesce and power off. Cleared: bring-up from Power. -/
def State.setPowerOff (d : Nat) (on_ : Bool) (s : State) : State :=
  if on_ then (s.setDrive d { s.drive d with quiescing := true }).checkOff d
  else if !s.rootOn d then s
  else if (s.drive d).present then s.powerUp d
  else s.setDrive d ((s.drive d).dark .absent)

/-- A drive is removed while powered (R316). [DEDUCED, log entry 66] -/
def State.removed (d : Nat) (s : State) : State :=
  let s := s.advance 1000000
  let was := s.drive d
  let s := s.setDrive d { was with present := false }
  if !s.rootOn d || was.st == .off then s
  else
    let s := s.contain d
    let s := s.setDrive d { (s.drive d).dark .absent with deadline := 0, info := { blocks := 0 }, formatted := false, spare := none, media := [] }
    ((s.raise0 (24 + d) 4).checkVault).pump

/-! ### The inbound map (R312, R313) -/

/-- Is an inbound request one that Table 14.2 and the open slots allow? [DEDUCED, log entry 66] -/
def Drive.inboundOk (v : Drive) (isWrite : Bool) (addr len : Nat) : Bool :=
  if 0xF000000000 ≤ addr && addr + len ≤ 0xF000400000 then !isWrite || (len == 16 && addr % 16 == 0)
  else if 0xFEE00000 ≤ addr && addr + len ≤ 0xFEE01000 then isWrite
  else if 0x10000000000 ≤ addr && addr + len ≤ 0x10100000000 then
    v.atDrive.any fun c => c.slot == (addr - 0x10000000000) / 0x100000 && c.isWrite != isWrite
      && (addr - 0x10000000000) % 0x100000 + len ≤ c.nb * 4112
  else false

/-- Is the link of a drive active, so that TLPs pass? -/
def Drive.linked (v : Drive) : Bool :=
  match v.st with
  | .waiting => true
  | .initialising => true
  | .ready => true
  | .qualFail => v.inited
  | _ => false

/-! ### Errors, timeouts and resets (R314, R322) -/

/-- A command at a drive. -/
def State.cmdAt (s : State) (d id : Nat) : Option DriveCmd := (s.drive d).atDrive.find? fun c => c.id == id

/-- A non-fatal error fails the command that its TLP names. -/
def State.nonFatal (d : Nat) (c : DriveCmd) (s : State) : State :=
  (((s.takeCmd d c.id).cmdFailed d c).kickDrive d).checkOff d

/-- CMD_MS passes: the Abort is sent. -/
def State.cmdTimeout (d : Nat) (c : DriveCmd) (s : State) : State :=
  let s := s.until (c.issuedAt + c.cmdMs * 1000000)
  let v := s.drive d
  let s := s.setDrive d { v with atDrive := v.atDrive.map fun x => if x.id == c.id then { x with abortAt := some s.now } else x }
  (s.raise0 (24 + d) 7).count (78 + d) 4 1

/-- ABORT_MS passes: the controller is reset; one reset too many in an hour fails the member and contains the port. -/
def State.ctrlReset (d : Nat) (c : DriveCmd) (s : State) : State :=
  let s := s.until (c.abortAt.getD 0 + c.abortMs * 1000000)
  let v := s.drive d
  let l := (v.resets.filter fun t => s.now < t + 3600000000000) ++ [s.now]
  let s := s.setDrive d { v with resetting := true, resets := l }
  let s := (s.raise0 (24 + d) 8).count (78 + d) 5 1
  if l.length > s.fld (rootBase d + 0x18) 23 16 then s.contain d else s

/-- The reset succeeded or failed. -/
def State.resetDone (d : Nat) (ok : Bool) (s : State) : State :=
  if !ok then s.contain d
  else
    let v := s.drive d
    let s := s.setDrive d { v with resetting := false }
    (v.atDrive.foldl (fun s c => if (s.cmdAt d c.id).isSome then s.endCmd d c .aborted else s) s).checkOff d

/-- 100 ms of containment are over: the link retrains, where the drive is still there. -/
def State.release_ (d : Nat) (s : State) : State :=
  let s := s.until (s.drive d).deadline
  if (s.drive d).present && s.rootOn d then s.train d (s.maxGen d) else s.setDrive d ((s.drive d).dark .absent)

end Sys2Proof.Machine
end

