-- ==== Sys2Proof/Machine/SapOps.lean ====
section
/-!
DEFINITION. Sap (spec/15): the power states of the resources and their bounds (R328 to R333), droop and heat (R335 to
R338), and the start of the power-fail response (R339, R341).
-/

namespace Sys2Proof.Machine

/-! ### Resources (Table 15.1) -/

/-- Number of a resource in `Sap.res`, and of its SAP_RES_CFG behind the window. -/
def resKey : Res → Nat
  | .engines => 0
  | .port p => 0x100 + p
  | .drive d => 0x200 + d

/-- SAP_RES_CFG of a resource. -/
def resCfg (r : Res) : Nat := virt 0x02000024 (resKey r)

/-- The resource that SAP_RES_SEL selects, if it names one. -/
def State.selRes (s : State) : Option Res :=
  let i := s.fld 0x02000020 4 0
  match s.fld 0x02000020 9 8 with
  | 0 => some .engines
  | 1 => if i < 10 then some (.port i) else none
  | 2 => if i < 24 then some (.drive i) else none
  | _ => none

def State.res (s : State) (r : Res) : ResSt := s.resSt (resKey r)
def State.setRes (r : Res) (x : ResSt) (s : State) : State :=
  { s with sap := { s.sap with res := NMap.set s.sap.res (resKey r) x } }

/-- The state that realises SP `sp` (R328, R324). [DEDUCED, log entry 71] -/
def State.realise (s : State) (r : Res) (sp : Nat) : Nat :=
  match r with
  | .engines => min sp 2
  | .port _ => if sp ≥ 2 then 2 else 0
  | .drive d =>
    let sp := if sp == 3 && !(s.drive d).info.nops.isSome then 2 else sp
    if sp == 2 && !(s.drive d).info.l1ok then 1 else sp

/-- Exit latency of a state, in µs (Table 15.1). -/
def State.exitUs (s : State) (r : Res) (sp : Nat) : Nat :=
  match r, s.realise r sp with
  | .engines, 0 => 0
  | .engines, 1 => 2
  | .engines, _ => 50
  | .port _, 2 => 50
  | .port _, _ => 0
  | .drive _, 2 => 32
  | .drive _, 3 => 5000
  | .drive _, _ => 0

/-- Is the session open with an enabled I/O queue pair? -/
def State.activeSess (s : State) (sid : Nat) (x : Session) : Bool :=
  x.st != .opening && s.bud.qps.any fun q => q.2.sid == sid && q.2.st == .enabled && !s.isAdmin q.1

/-- Does a session use a resource (R331)? -/
def State.uses (s : State) (r : Res) (sid : Nat) (x : Session) : Bool :=
  match r with
  | .engines => true
  | .port p => x.ports.any fun o => o.any fun c => c < 34 && crownPort c == p
  | .drive d => (s.memberOf d).any fun g => (s.groveUsers g.1).contains sid

/-- Latency Tolerance of a session, µs (R331, R87). -/
def State.tolerance (s : State) (x : Session) : Nat := x.latency.getD (s.fld 0x0900000C 22 0)

/-- Smallest tolerance of a resource's users; none without users. -/
def State.minTol (s : State) (r : Res) : Option Nat :=
  lowest ((s.bud.sess.filter fun p => s.activeSess p.1 p.2 && s.uses r p.1 p.2).map fun p => s.tolerance p.2)

/-- MAX_SP of a resource's class (Table 15.6). -/
def State.maxSp (s : State) (r : Res) : Nat :=
  match r with
  | .engines => min 2 (s.fld 0x02000004 1 0)
  | .port _ => match s.fld 0x02000004 5 4 with | 1 => 0 | 3 => 2 | n => n
  | .drive _ => s.fld 0x02000004 9 8

/-- The bound of a resource (R332). -/
def State.bound (s : State) (r : Res) : Nat :=
  let top := s.maxSp r
  let ok : Nat → Bool := fun sp => sp ≤ top
    && (match r with | .drive d => sp < 3 || s.flag (rootBase d + 0x1C) 0 | _ => true)
    && (match s.minTol r with | none => true | some t => sp == 0 || (t > 0 && s.exitUs r sp ≤ t))
  ((List.range 4).filter ok).foldl max 0

/-- Is the drive held by a rebuild or resynchronization of its grove (R187), the engines by a reload's Vacate? -/
def State.resHeld (s : State) (r : Res) : Bool :=
  match r with
  | .engines => s.pith.reload.any fun x => x.phase == 0
  | .port _ => false
  | .drive d => s.groves.any fun p => !p.2.offline && (p.2.rbA.isSome || p.2.rbB.isSome || p.2.resync.isSome)
      && (p.2.members.any (fun m => m.drive == d))

/-- SAP_RES_STAT.HELD: a control of rank 1 to 4 of Table 15.2 holds the resource. -/
def State.held (s : State) (r : Res) : Bool := s.sap.flush.isSome || s.resHeld r

/-- Is the resource pinned in effect, and where (ranks 1 and 4 override a pin)? A drive pinned to SP3 stays at SP2 while SP3_EN
is 0 (R325). -/
def State.pinned (s : State) (r : Res) : Option Nat :=
  if s.sap.flush.isSome then none
  else match r with
    | .drive d => if s.resHeld r || !s.flag (resCfg r) 31 then none
      else some (min (s.fld (resCfg r) 1 0) (if s.flag (rootBase d + 0x1C) 0 then 3 else 2))
    | _ => if s.flag (resCfg r) 31 then some (s.fld (resCfg r) 1 0) else none

/-- The deepest state in which Table 15.2 lets the resource be. -/
def State.resTop (s : State) (r : Res) : Nat :=
  match s.pinned r with
  | some sp => sp
  | none =>
    if s.sap.flush.isSome || !s.flag 0x02000000 0 then 0
    else match r with
      | .drive _ => if s.resHeld r then 0 else s.bound r
      | .port p => if (p == 8 && (s.joined 32 || s.passes 32)) || (p == 9 && (s.joined 33 || s.passes 33)) then 0 else s.bound r
      | .engines => s.bound r

/-- Does the resource have work? A drive whose grove's window holds stripes does (N21 of Table 17.3).
 [DEDUCED, log entry 71] -/
def State.resWork (s : State) (r : Res) : Bool :=
  match r with
  | .engines => s.twigs.any fun t => !t.2.deque.isEmpty || !t.2.started.isEmpty
  | .port p => (List.range 34).any fun e => crownPort e == p
      && (s.waitingAt e > 0 || !(NMap.getD s.crown.residue e []).isEmpty)
  | .drive d => !(s.drive d).queue.isEmpty || !(s.drive d).atDrive.isEmpty
    || (s.memberOf d).any fun m => (s.grove? m.1).any fun g => g.window > 0

/-! ### Parking (R329, R330) -/

/-- The engines that SP2 parks. -/
def parkSet : List Nat := (List.range 64).filter fun e => e % 16 ≥ 8

/-- Park the engines of SP2: Knot places on them no more, and one that holds no command stops counting cycles. -/
def State.park (s : State) : State :=
  let s := parkSet.foldl (fun s e =>
    let t := s.twig e
    let held := if t.deque.isEmpty && t.started.isEmpty && !t.parked then some (s.cycles8 e) else t.cycHeld
    s.setTwig e { t with parked := true, cycHeld := held }) s
  ({ s with sap := { s.sap with selfRefresh := s.flag 0x02000004 12 } }).noteCredits

/-- Unpark the engines of a Bough. -/
def State.unparkBough (b : Nat) (s : State) : State :=
  (boughEngines b).foldl (fun s e =>
    let t := s.twig e
    if t.parked then
      let out := match t.cycHeld with | some h => nth s.boughCycles b 0 - h | none => t.cycOut
      s.setTwig e { t with parked := false, cycHeld := none, cycOut := out }
    else s) s

/-- Boughs whose parked engines R330 unparks. -/
def State.unparkDue (s : State) : List Nat :=
  let run := s.runners
  let low := 4 * s.credits < 1024 * run.length
  (List.range 4).filter fun b => (boughEngines b).any (fun e => (s.twig e).parked)
    && (low || run.any fun e => e / 16 == b && (s.twig e).deque.length ≥ 8)

/-! ### Moving between states (R332) -/

/-- Enter a state; entering a deeper one is counted, as is leaving for a shallower one, whose exit then runs.
 [DEDUCED, log entry 71] -/
def State.moveTo (r : Res) (sp : Nat) (s : State) : State :=
  let x := s.res r
  if sp == x.sp then s
  else if sp > x.sp then
    let s := (s.setRes r { x with sp := sp }).count 2 3 1
    if r == .engines && s.realise r sp == 2 then s.park else s
  else
    let lat := s.exitUs r x.sp * 1000
    let s := s.count 2 4 1
    let leaves := r == .engines && s.realise r x.sp == 2 && s.realise r sp < 2
    let s := if leaves then { s with sap := { s.sap with unparking := List.range 4, selfRefresh := false } } else s
    let s := s.setRes r { x with sp := sp, idle := s.now, exiting := if lat == 0 then none else some (s.now + lat) }
    match r with
    | .drive d => s.kickDrive d
    | _ => s

/-- sap.tolerance_violated, once per entry into the condition (R333). [DEDUCED, log entry 71] -/
def State.checkTol (r : Res) (s : State) : State :=
  let x := s.res r
  let bad := ((s.pinned r).isSome || s.held r) && (s.minTol r).any fun t => s.exitUs r x.sp > t
  if bad == x.violated then s
  else
    let s := s.setRes r { x with violated := bad }
    if bad then (s.raise0 2 29).count 2 5 1 else s

/-- Every resource of Table 15.1 that has been touched. -/
def allRes : List Res := .engines :: ((List.range 10).map .port ++ (List.range 24).map .drive)

/-- The condition of R333 on every pinned resource. -/
def State.checkTols (s : State) : State :=
  allRes.foldl (fun s r => if s.flag (resCfg r) 31 || (s.res r).violated then s.checkTol r else s) s

/-- SAP_RES_CFG of a resource has been written, or SAP_CTRL: apply the pin, or take the bound. -/
def State.applyTop (r : Res) (s : State) : State :=
  match s.pinned r with
  | some sp => s.moveTo r sp
  | none => if (s.res r).sp > s.resTop r then s.moveTo r (s.resTop r) else s

/-- A pin freezes the policy loop (R333). -/
def State.notePin (s : State) (r : Res) (was : Bool) : State :=
  let s := if s.flag (resCfg r) 31 && !was then s.raise0 2 28 else s
  (s.applyTop r).checkTols

/-- Idle time before a state, ns (SAP_IDLE). -/
def State.idleNs (s : State) (sp : Nat) : Nat :=
  match sp with
  | 1 => s.fld 0x02000008 7 0 * 1000
  | 2 => s.fld 0x02000008 15 8 * 1000000
  | _ => s.fld 0x02000008 23 16 * 1000000000

/-- May the resource enter this deeper state once its idle time is over? -/
def State.mayDeepen (s : State) (r : Res) (sp : Nat) : Bool :=
  (s.res r).sp < sp && sp ≤ s.resTop r && (s.pinned r).isNone && (s.res r).exiting.isNone && !s.resWork r

/-- The idle time is over. [DEDUCED, log entry 71] -/
def State.idleExpiry (r : Res) (sp : Nat) (s : State) : State :=
  ((s.until ((s.res r).idle + s.idleNs sp)).moveTo r sp).checkTols

/-- Where the resource goes once it leaves its state: work wakes it, or its bound has become shallower. Engines in SP2 with
work stay there and follow R330. -/
def State.exitTo (s : State) (r : Res) : Nat :=
  let x := s.res r
  let cap := min x.sp (s.resTop r)
  match s.pinned r with
  | some sp => min x.sp sp
  | none => if s.resWork r && !(r == .engines && s.realise r x.sp == 2) then 0 else cap

/-- Does the resource leave its state, or unpark engines? -/
def State.mayExit (s : State) (r : Res) : Bool :=
  (s.res r).exiting.isNone && (s.exitTo r < (s.res r).sp
    || (r == .engines && s.realise r (s.res r).sp == 2 && !s.unparkDue.isEmpty && (s.pinned r).isNone))

/-- The exit starts. -/
def State.stateExit (r : Res) (s : State) : State :=
  if s.exitTo r < (s.res r).sp then (s.moveTo r (s.exitTo r)).checkTols
  else
    let due := s.unparkDue
    let s := { s with sap := { s.sap with unparking := due } }
    s.setRes r { s.res r with exiting := some (s.now + 50000) }

/-- The exit is over: the work that was held proceeds. -/
def State.exitDone (r : Res) (s : State) : State :=
  let s := s.until ((s.res r).exiting.getD 0)
  let s := s.setRes r { s.res r with exiting := none, idle := s.now }
  match r with
  | .engines =>
    let s := s.sap.unparking.foldl (fun s b => s.unparkBough b) s
    let s := { s with sap := { s.sap with unparking := [] } }
    let s := if (s.res r).sp ≥ 2 && !parkSet.any (fun e => (s.twig e).parked) then
        ({ s with sap := { s.sap with selfRefresh := false } }).setRes r { s.res r with sp := 1 } else s
    s.noteCredits.pump
  | .port _ => s
  | .drive d => s.kickDrive d

/-! ### The power-fail response (R339, R155) -/

/-- Every resource goes to SP0. -/
def State.wakeAll (s : State) : State :=
  let s := allRes.foldl (fun s r => if (s.res r).sp > 0 then s.moveTo r 0 else s) s
  (List.range 4).foldl (fun s b => s.unparkBough b)
    { s with sap := { s.sap with unparking := [], selfRefresh := false } }

/-- Has the completion of a command been sent since a time? -/
def State.sentSince (s : State) (tag t : Nat) : Bool :=
  !(s.bud.cmds.any fun p => p.1 == tag) || s.xylem.descs.any fun p => (match p.2.kind with
    | .completion _ _ k => k == tag | _ => false) && p.2.st == .sent && t < p.2.sentAt

/-- Power fails inside the header writes of a write of several entries: they stop at one of them, a free value (R134, R136).
 [DESIGN CHOICE, log entry 105] -/
def State.tornHeads (s : State) : State :=
  match s.sapw.heading with
  | none => s
  | some (tag, es, t) =>
    if t + 1000 < s.now || s.sentSince tag t then s
    else
      let (k, s) := s.draw (es.length + 1)
      { s with sapw := { s.sapw with
          heading := none
          entries := (es.drop k).foldl (fun m e => NMap.modify m e fun x => { x with released := false }) s.sapw.entries } }

/-- The response starts, once; the vault drives are those of this moment (R156). -/
def State.startFlush (s : State) : State :=
  if s.sap.flush.isSome then s
  else
    let s := ((s.raise0 2 17).wakeAll).tornHeads
    let s := { s with sap := { s.sap with flush := some .stop }
                      sapw := { s.sapw with flushFrom := some s.now, vaultSet := s.vault } }
    s.raise0 7 2

/-- Hold-up required, in µs (R157, R311, R325). -/
def State.flushRate (s : State) : Nat :=
  let v := s.vault
  let slow := (lowest (v.map fun d => linkRate (s.drive d).gen (s.drive d).width)).getD 1000
  min 16000 (min 1000 slow * (v.length - 1))

/-- Region bytes (SAPWOOD_REGION.GIB). -/
def State.regionBytes (s : State) : Nat := s.fld 0x0D000004 7 0 * 2 ^ 30

/-- The required hold-up in microseconds (R157, R325). [DEDUCED, log entry 73] -/
def State.holdup (s : State) : Nat :=
  let v := s.vault
  if s.groves.isEmpty || v.length < 2 then 1000
  else
    let sp3 := if v.any fun d => s.flag (rootBase d + 0x1C) 0 then 5000 else 0
    6000 + (if s.flushRate == 0 then 0 else ceilDiv s.regionBytes (s.flushRate * 10)) + sp3

/-! ### Droop and heat -/

/-- A detector of a die trips (R335). -/
def State.droop (die : Nat) (s : State) : State :=
  let due := match nth s.sap.droopAt die none with | none => true | some t => t + 1000000 ≤ s.now
  let s := ({ s with sap := { s.sap with
    slowed := setNth s.sap.slowed die true, tripAt := setNth s.sap.tripAt die s.now } }).count 2 0 1
  if due then ({ s with sap := { s.sap with droopAt := setNth s.sap.droopAt die (some s.now) } }).raise0 2 die else s

/-- 256 undivided cycles without a trip. -/
def State.droopEnd (die : Nat) (s : State) : State :=
  let s := s.until (nth s.sap.tripAt die 0 + ceilDiv 2560 (dieClock die))
  { s with sap := { s.sap with slowed := setNth s.sap.slowed die false } }

/-- SAP_THERM: THROTTLE_C, HYST_C, CRIT_C. -/
def State.throttleC (s : State) : Nat := s.fld 0x02000010 7 0
def State.hystC (s : State) : Nat := s.fld 0x02000010 11 8
def State.critC (s : State) : Nat := s.fld 0x02000010 23 16

/-- One eighth slower (R337). -/
def State.slower (die : Nat) (s : State) : State :=
  let r := nth s.sap.therm die 8
  let s := ({ s with sap := { s.sap with
    therm := setNth s.sap.therm die (r - 1), thermAt := setNth s.sap.thermAt die s.now } }).count 2 2 1
  if r == 8 then s.raise0 2 (8 + die) else s

/-- One eighth faster. -/
def State.faster (die : Nat) (s : State) : State :=
  { s with sap := { s.sap with
      therm := setNth s.sap.therm die (nth s.sap.therm die 8 + 1), thermAt := setNth s.sap.thermAt die s.now } }

/-- The junction sensors are sampled: slowing begins on a hot die (R337), a critical one stops the device (R338).
 [DEDUCED, log entry 72] -/
def State.thermal (temps : List (List Nat)) (s : State) : State :=
  let s := { s with sap := { s.sap with
    temp := (List.range 6).map fun i => (nth temps i []).foldl max 0
    cool := (List.range 6).map fun i => (nth temps i []).all fun t => t + s.hystC < s.throttleC } }
  let s := (List.range 6).foldl (fun s i =>
    if nth s.sap.temp i 0 > s.throttleC && nth s.sap.therm i 8 == 8 then s.slower i else s) s
  if s.sap.temp.any fun t => t > s.critC then
    let s := ({ s with alertFixed := setNth s.alertFixed 0 true, sap := { s.sap with stuck := true, dead := true } }).raise0 2 16
    s.startFlush
  else s

/-- Is a step of the thermal loop due on a die? -/
def State.thermDue (s : State) (die : Nat) : Bool :=
  let r := nth s.sap.therm die 8
  (nth s.sap.temp die 0 > s.throttleC && 4 < r && r < 8) || (nth s.sap.cool die true && r < 8)

/-- A millisecond later. [DEDUCED, log entry 72] -/
def State.thermStep (die : Nat) (s : State) : State :=
  let s := s.until (nth s.sap.thermAt die 0 + 1000000)
  if nth s.sap.temp die 0 > s.throttleC then s.slower die else s.faster die

/-! ### Reference inputs (R341) -/

/-- Number of a reference in `Sap.refLost`, and of its event: Ethernet 1, 2, DDR, system, PCIe 0 to 3. -/
def refNo : RefIn → Nat
  | .eth1 => 0
  | .eth2 => 1
  | .ddr => 2
  | .sys => 3
  | .pcie b => 4 + b

/-- The points that an Ethernet reference serves (Table 1.7). -/
def refPoints (second : Bool) : List Nat := if second then rangeFrom 16 16 ++ [33] else List.range 16 ++ [32]

/-- An input is lost. -/
def State.loseRef (r : RefIn) (s : State) : State :=
  let s := ({ s with sap := { s.sap with refLost := setNth s.sap.refLost (refNo r) true } }).raise0 2 (20 + refNo r)
  match r with
  | .eth1 => s.linksDown (refPoints false)
  | .eth2 => s.linksDown (refPoints true)
  | .ddr => (State.startFlush { s with sap := { s.sap with stuck := true } })
  | .sys => (State.startFlush { s with sap := { s.sap with stuck := true } })
  | .pcie b => (rangeFrom (6 * b) 6).foldl (fun s d => if (s.drive d).linked || (s.drive d).st.isTraining then s.contain d else s) s

end Sys2Proof.Machine
end

