-- ==== Sys2Proof/Machine/View.lean ====
section
/-!
DEFINITION. Reading the management address space (spec/18): the registers behind windows, the read-only fields that show the
machine (the register tables of every chapter), the value a path reads (R380), and what a read changes: latched
partners, cleared indications, taken entries, an advancing offset.
-/

namespace Sys2Proof.Machine

/-! ### Windows -/

/-- Base of the gate registers of the sub-port whose window holds an address, and its egress point. -/
def gateSub (a : Nat) : Option Nat :=
  let o := a % 0x1000000
  match blockOf a with
  | 20 => let q := o % 0x200000
    if 0x1000 ≤ q && q < 0x5000 then some (4 * (o / 0x200000) + (q / 0x1000 - 1)) else none
  | 21 => if o < 0x200000 && 0x1000 ≤ o % 0x100000 && o % 0x100000 < 0x2000 then some (32 + o / 0x100000) else none
  | _ => none

/-- Gate entries of a sub-port's share (R252). -/
def State.gateShare (s : State) (p : Nat) : Nat := if p < 32 then 256 / max 1 (s.subPorts (p / 4)) else 256

/-- Where the register at an address is kept: behind a window, at the selection's own place. none: the window selects
nothing that can be kept. -/
def State.home? (s : State) (a : Nat) : Option Nat :=
  match canon a with
  | some (2, 0x24) => s.selRes.map resCfg
  | some (4, o) =>
    if 0x210 ≤ o && o < 0x220 then
      some (virt a (s.fld 0x04000200 5 0))
    else some a
  | some (8, 0x104) => some (virt a (s.fld 0x08000100 13 0))
  | some (18, o) =>
    if 0x104 ≤ o && o ≤ 0x10C then
      let p := s.fld 0x12000100 5 0
      if p < 40 then some (virt a p) else none
    else some a
  | some (_, 0x1044) =>
    match gateSub a with
    | some p =>
      let sel := s.reg (a - 4)
      if bit sel 8 || bits sel 7 0 ≥ s.gateShare p then none else some (virt a (bits sel 7 0))
    | none => some a
  | _ => some a

/-! ### Read-only fields -/

/-- A word with a number placed in it at a bit. -/
def fieldAt (n lo width : Nat) : W32 := w32 (place n lo width)

/-- Occupancy in KiB, a started KiB counted. [DEDUCED, log entry 26] -/
def kib (n : Nat) : Nat := ceilDiv n 1024

/-- What the read-only registers of CHIP show (the CHIP registers of spec/18). [DEDUCED, log entry 26] -/
def chipRo (s : State) (o : Nat) : W32 :=
  match o with
  | 0x0 => 0x19624A3F#32
  | 0x4 => 0x100#32
  | 0x18 => w32 (((List.range 27).filter fun b => s.regs.snaps.any fun p => blockOf (p.1 / 8) == b).map (2 ^ ·)).sum
  | 0x1C => s.regs.violAddr
  | 0x20 => w32 (place s.regs.violPath 30 2 + place s.regs.violKind 28 2 + s.regs.violCount % 65536)
  | _ => 0#32

def seedRo (s : State) (o : Nat) : W32 :=
  match o with
  | 0x0 =>
    let st := match s.seed.boot with | .running => 1 | .recovery => 2 | _ => 0
    w32 (place st 30 2 + place s.seed.slot 28 1 + place (b2n s.seed.fallback) 27 1 + place s.seed.cause 24 3
      + s.seed.skipped % 65536)
  | 0x4 => s.seed.straps.setWidth 32
  | 0xC => w32 (place s.seed.fwRev 16 16 + s.seed.applied.toNat)
  | 0x24 => w32 (place (b2n s.seed.recBusy.isSome) 31 1 + place s.seed.recResult 28 2)
  | _ => 0#32

/-- Flags as bits, the first lowest. -/
def flagBits (l : List Bool) : Nat := l.foldr (fun b n => b2n b + 2 * n) 0

/-- TCASE: the hottest junction less CASE_OFFSET (R337). -/
def State.tcase (s : State) : Nat := s.sap.temp.foldl max 0 - s.fld 0x02000010 31 24

def sapRo (s : State) (o : Nat) : W32 :=
  match o with
  | 0x28 => match s.selRes with
    | none => 0#32
    | some r => w32 (place (s.res r).sp 30 2 + place (s.bound r) 28 2 + place (b2n (s.held r)) 27 1
        + (s.minTol r).getD Config.noTolerance.toNat % 2 ^ 23)
  | 0x30 => w32 (place (flagBits (s.sap.therm.map (· < 8))) 24 6 + place (flagBits s.sap.slowed) 16 6
      + place (flagBits (s.sap.refLost.take 4)) 8 4 + flagBits (s.sap.refLost.drop 4))
  | 0x38 =>
    w32 (place s.tcase 16 8 + nth s.sap.temp (s.fld 0x02000034 2 0) 0 % 256)
  | _ => 0#32

/-- Has group `g` a pending source whose EN bit is set? -/
def State.groupPend (s : State) (g : Nat) : Bool := s.evt.any fun p => p.1 / 64 == g && p.2.pend && s.evEn p.1

/-- Is ALERT_N[j] driven low (R393)? -/
def State.alert (s : State) (j : Nat) : Bool :=
  nth s.alertFixed j false || s.evt.any fun p => p.2.pend && s.routed p.1 (4 + j)

/-- Pending bits of a group: the low or the high 32 sources. -/
def State.pendWord (s : State) (g : Nat) (hi : Bool) : W32 :=
  flagBits ((List.range 32).map fun i => (s.src (64 * g + i + if hi then 32 else 0)).pend) |> w32

def evtRo (s : State) (a o : Nat) : W32 :=
  let x := s.src (s.fld 0x03000020 11 0)
  match o with
  | 0x10 => w32 (flagBits ((List.range 32).map s.groupPend))
  | 0x14 => w32 (flagBits ((List.range 32).map fun i => s.groupPend (32 + i)))
  | 0x18 => w32 (place (flagBits s.alertFixed) 8 4 + flagBits ((List.range 4).map s.alert))
  | 0x24 => w32 (place x.raises 24 8)
  | 0x28 => x.detail
  | 0x2C => w32 x.time
  | 0x1000 => s.pendWord (a % 0x1000 / 16) false
  | 0x1004 => s.pendWord (a % 0x1000 / 16) true
  | _ => 0#32

/-- The ring word at the offset selected (R403). -/
def State.ringWord (s : State) : W32 :=
  let tr := s.flag 0x04000020 31
  let off := s.fld 0x04000020 29 2 * 4
  NMap.getD (if tr then s.tally.trace else s.tally.sweep) off (Config.ringInit tr off)

/-- Engine and counter of a TALLY_ENG register. -/
def State.engSel (s : State) : Nat := s.fld 0x04000200 5 0
def engNo (a : Nat) : Nat := (a % 0x1000 - 0x210) / 0x10

def tallyRo (s : State) (a o : Nat) : W32 :=
  match o with
  | 0x10 => w32 (s.tally.sweepHead % 2 ^ 24)
  | 0x18 => w32 (s.tally.traceHead % 2 ^ 24)
  | 0x24 => s.ringWord
  | 0x28 => w32 (place s.tally.skipped 16 16 + s.tally.dropped % 65536)
  | 0x34 => w32 (s.counter (s.fld 0x04000030 6 0) (s.fld 0x04000030 11 8))
  | 0x204 => w32 (s.cycles8 s.engSel / 8)
  | 0x210 => fieldAt (b2n (s.tally.ovf.contains (s.engSel * 8 + engNo a))) 22 1
  | 0x214 => w32 (s.engCount s.engSel (engNo a))
  | _ => 0#32

/-- Code of a pair's state (PITH_STATUS). -/
def PairSt.code : PairSt → Nat
  | .cold => 0
  | .booting => 1
  | .active => 2
  | .fenced => 3

def pithRo (s : State) (o : Nat) : W32 :=
  match o with
  | 0x0 => w32 (place s.pith.takeovers 16 16 + place s.pith.lastCause 12 4 + place s.pith.rehearse 8 2
      + place s.pith.b.code 6 2 + place s.pith.a.code 4 2 + b2n s.pith.activeB)
  | 0x10 => w32 (min (2 ^ 24 - 1) ((s.now - s.pith.ckptAt) / 1000))
  | _ => 0#32

def cambiumRo (s : State) (o : Nat) : W32 :=
  match o with
  | 0x10 => w32 s.headSeq
  | 0x18 => w32 s.tailSeq
  | 0x20 => w32 s.ringPct
  | _ => 0#32

def heartRo (s : State) (o : Nat) : W32 :=
  match o with
  | 0x10 => w32 ((s.heart.tc.map (·.2.length)).sum)
  | 0x14 => w32 (s.heart.pages.filter fun p => p.2.dirty.isSome).length
  | 0x18 => w32 (s.heart.pages.filter fun p => s.pagePinned p.1).length
  | _ => 0#32

def knotRo (s : State) (o : Nat) : W32 :=
  match o with
  | 0x10 => w32 (place s.wideUsed 23 9 + s.ledgerUsed % 2 ^ 17)
  | 0x14 => w32 s.gransUsed.length
  | _ => 0#32

def budRo (s : State) (o : Nat) : W32 :=
  let sid := s.fld 0x09000100 11 0
  let q := s.qp? (s.fld 0x09000200 13 0)
  match o with
  | 0x114 => fieldAt ((s.sess? sid).elim 0 (·.dbGen.toNat)) 16 16
  | 0x124 =>
    let st := match (s.sess? sid).map (·.st) with
      | none => 0
      | some .opening => 0
      | some .opened => 1
      | some _ => 2
    w32 (place (b2n ((s.sess? sid).any fun x => x.st == .opening)) 31 1 + place s.bud.openCause 8 8 + st)
  | 0x204 => w32 (place (q.elim 0 (·.credits)) 16 16 + place (q.elim 0 (·.cause)) 8 8 + (q.elim 0 (·.st.code)))
  | 0x208 => w32 (place (q.elim 0 (·.cqTail)) 16 16 + (q.elim 0 (·.sqHead)) % 65536)
  | 0x300 => w32 (place s.endpoints.length 16 11 + (s.bud.sess.filter fun p => p.2.st != .opening).length % 2 ^ 13)
  | _ => 0#32

/-- STATE of TWIG_STATUS (Table 4.8). -/
def State.twigState (s : State) (e : Nat) : Nat :=
  let t := s.twig e
  let busy := !t.deque.isEmpty || !t.started.isEmpty
  if t.reloading then 3 else if busy then 2 else if t.parked || !s.on (twigBase e) then 0 else 1

def twigRo (s : State) (a o : Nat) : W32 :=
  let e := a % 0x1000000 / 0x40000
  let st := s.twigState e
  match o with
  | 0x8 => w32 (place st 30 2 + place (s.twig e).deque.length 16 11
      + (if st == 0 || st == 3 then 0 else s.ctxFree e) % 2 ^ 11)
  | _ => 0#32

/-- GROVE_RB_A or GROVE_RB_B of a rebuild (Table 7.8). -/
def rebuildWord (paused : Bool) : Option Rebuild → W32
  | none => 0#32
  | some r => w32 (2 ^ 31 + place (b2n paused) 30 1 + place r.slot 24 5 + place r.spare 16 5 + place r.failed 8 5)

/-- A resynchronization's cursor: the next stripe to be verified (R199). -/
def Resync.cursor (r : Resync) : Nat := r.todo.head?.getD 0

def groveRo (s : State) (a o : Nat) : W32 :=
  match s.grove? (a % 0x1000 / 0x100) with
  | none => 0#32
  | some g =>
    match o with
    | 0x1000 => w32 (place g.state 30 2 + place (b2n g.zoned) 24 1 + place g.chunk 16 2 + g.n % 32)
    | 0x1004 => w32 g.window
    | 0x1008 => w32 g.freeSegs
    | 0x100C => w32 g.segCount
    | 0x1010 => w32 (g.usable * 4096 / 2 ^ 30)
    | 0x1014 => w32 (place (nth g.holderDrives 1 0) 16 5 + nth g.holderDrives 0 0 % 32)
    | 0x1020 => rebuildWord g.paused (g.running.1)
    | 0x1024 => w32 (g.running.1.elim 0 (·.cursor))
    | 0x1030 => rebuildWord g.paused (g.running.2)
    | 0x1034 => w32 (g.running.2.elim 0 (·.cursor))
    | 0x1040 => g.resync.elim 0#32 fun r => w32 (place r.mode 30 2 + place r.reason 24 4)
    | 0x1044 => w32 (g.resync.elim 0 (·.cursor))
    | 0x1050 => w32 g.lostBlocks
    | 0x1054 => w32 (g.segs.filter fun p => p.2.suspect).length
    | _ => 0#32

def prunerRo (s : State) (o : Nat) : W32 :=
  match o, s.grove? (s.fld 0x0C000010 1 0) with
  | 0x14, some g => w32 (place (s.prunerMode g) 30 2 + (g.segs.filter fun p => p.2.st == 2).length)
  | _, _ => 0#32

def sapwoodRo (s : State) (o : Nat) : W32 :=
  match o with
  | 0x10 => if s.on 0x0D000000 then w32 s.slotsFree else 0#32
  | 0x14 => if s.on 0x0D000000 then w32 s.headersFree else 0#32
  | 0x18 => w32 s.vault.length
  | 0x1C => w32 (s.holdup % 2 ^ 24)
  | 0x20 => w32 (place s.sapw.lastResult 30 2 + s.sapw.lastUs % 2 ^ 24)
  | _ => 0#32

def coppiceRo (s : State) (o : Nat) : W32 :=
  let sh := s.pieces.filter fun p => p.2.shoot
  match o with
  | 0x10 => w32 sh.length
  | 0x14 => w32 (sh.map (·.2.recips.length)).sum
  | _ => 0#32

/-- STATE of ROOTLET_STAT (Table 14.7). -/
def PortSt.code : PortSt → Nat
  | .absent => 0
  | .debouncing => 0
  | .powering => 1
  | .training _ => 2
  | .waiting => 3
  | .initialising => 3
  | .ready => 4
  | .contained => 5
  | .qualFail => 6
  | .off => 7

def rootletRo (s : State) (a o : Nat) : W32 :=
  let d := a % 0x1000000 / 0x80000
  let v := s.drive d
  match o with
  | 0x8 => w32 (place v.st.code 28 4 + place v.gen 16 3 + place v.width 8 3
      + place (b2n (v.inited && v.info.zoned.isSome)) 1 1 + b2n (v.inited && s.plp d))
  | 0x1C => w32 (place (s.resSt (0x200 + d)).sp 16 2 + place (if v.inited then v.info.nops.getD 0 else 0) 8 4)
  | 0x20 => w32 (place v.limit 16 13 + v.atDrive.length % 2 ^ 13)
  | 0x24 => w32 (min 255 (v.resets.filter fun t => s.now < t + 3600000000000).length)
  | _ => 0#32

/-- What the read-only registers of XYLEM show (Tables 2.17, 2.18). A slot that has had no traffic reads the reset column, though R52
starts it at RATE_START and 1,024. [DEDUCED, log entry 26] -/
def xylemRo (s : State) (o : Nat) : W32 :=
  match o with
  | 0x44 =>
    let i := s.fld 0x10000040 11 0
    let r := NMap.getD s.xylem.rates i { rate := 0, portRate := 0 }
    w32 (place r.rate 16 13 + (if (NMap.get? s.xylem.rates i).isSome then r.alpha else 0) % 2 ^ 11)
  | 0x50 => w32 s.xylem.descs.length
  | _ => 0#32

def barkRo (s : State) (o : Nat) : W32 :=
  let i := s.fld 0x11000010 12 0
  match o with
  | 0x14 => match NMap.get? s.bark.keys i with
    | none => 0#32
    | some k => w32 (place (s.keyState i) 30 2 + place (b2n (NMap.get? s.bark.tx (i / 2) == some (i % 2))) 29 1
        + place k.limitLog2 16 6)
  | 0x18 => w32 ((NMap.get? s.bark.keys i).elim 0 (·.cnt))
  | 0x24 => w32 (kib (s.holdBytes (s.fld 0x11000020 3 0)))
  | _ => 0#32

/-- What the read-only registers of CROWN show. [DEDUCED, log entry 26] -/
def crownRo (s : State) (o : Nat) : W32 :=
  let q := s.fld 0x13000410 8 0
  match o with
  | 0x20C => w32 s.crown.fwdResult
  | 0x210 => w32 s.crown.fwd.length
  | 0x400 => if s.on 0x13000000 then w32 (s.sharedFree / 1024) else 0#32
  | 0x404 => w32 (s.crown.residue.map (·.2.length)).sum
  | 0x414 => w32 (kib (s.queueBytes q))
  | 0x418 => w32 (NMap.getD s.crown.aged q 0)
  | _ => 0#32

/-- FMAC_IND or MMAC_IND: two bits per kind (Table 10.2). -/
def indWord (m : NMap Nat) : W32 := w32 ((List.range 16).map fun i => min 3 (NMap.getD m i 0) * 4 ^ i).sum

/-- Entry shown by FMAC_GATE_DATA with BANK 1. -/
def gateEntry (g : Option GateList) (i : Nat) : W32 :=
  match g.bind fun g => g.entries[i]? with
  | some (gates, t) => w32 (place gates.toNat 24 8 + t % 2 ^ 24)
  | none => 0#32

def portRo (s : State) (a o : Nat) : W32 :=
  match gateSub a with
  | none =>
    if o == 8 && blockOf a == 20 then
      let f := a % 0x1000000 / 0x200000
      w32 (flagBits ((List.range 4).map fun k => (s.port (4 * f + k)).up))
    else if o == 8 then w32 (b2n (s.port (32 + a % 0x1000000 / 0x100000)).up) else 0#32
  | some p =>
    match o with
    | 0x1020 => indWord (s.port p).ind
    | 0x103C => fieldAt ((s.port p).gate.elim 0 (·.entries.length)) 16 9
    | 0x1044 => if s.flag (a - 4) 8 then gateEntry (s.port p).gate (s.fld (a - 4) 7 0) else 0#32
    | _ => 0#32

/-- RING_NBR of a neighbour. -/
def nbrWord (n : Nbr) : W32 := w32 (place (b2n n.live) 31 1 + place n.state.toNat 16 8 + n.station.toNat)

def ringRo (s : State) (o : Nat) : W32 :=
  match o with
  | 0x200000 => fieldAt (b2n s.ringPt) 8 1
  | 0x20000C => fieldAt (if s.ring.held then 3 else 0) 16 2
  | 0x200010 => nbrWord s.ring.east
  | 0x200014 => nbrWord s.ring.west
  | _ => 0#32

def mmacRo (s : State) (o : Nat) : W32 :=
  match o with
  | 0x8 => fieldAt (b2n s.mmac.mdioBusy) 31 1
  | 0x120 => indWord s.mmac.ind
  | _ => 0#32

def timeRo (s : State) (o : Nat) : W32 :=
  match o with
  | 0x4 => w32 s.time.ns
  | 0x38 => w32 s.time.cap.2
  | 0x3C => w32 s.time.cap.1
  | 0x40 => match s.time.txts.head? with
    | some (pt, mt, sq, _, _) => w32 (2 ^ 31 + place pt 24 6 + place mt 16 4 + sq % 65536)
    | none => 0#32
  | 0x44 => w32 (s.time.taken.elim 0 fun e => e.2.2.2.2)
  | 0x48 => w32 (s.time.taken.elim 0 fun e => e.2.2.2.1)
  | 0x4C => w32 s.time.txts.length
  | _ => 0#32

/-- Capacity that DRAM_POP describes, GiB (R386). -/
def State.dramGib (s : State) : Nat :=
  let dens := nth [16, 24, 32, 64] (s.fld 0x18000004 18 16) 0
  let width := if s.flag 0x18000004 12 then 8 else 4
  8 * s.fld 0x18000004 5 4 * nth [1, 2, 4, 0] (s.fld 0x18000004 9 8) 0 * ((64 / width) * dens / 8)

def dramRo (s : State) (o : Nat) : W32 :=
  match o with
  | 0x0 => w32 (b2n s.dram.enabled)
  | 0x20 => w32 (place s.dram.trained.toNat 24 8 + (if s.dram.enabled then s.dramGib else 0) % 65536)
  | 0x24 => w32 (place (b2n s.dram.ue) 31 1 + place s.dram.channel 24 3 + place s.dram.rank 16 3)
  | 0x28 => w32 s.dram.addr
  | _ => 0#32

/-- The read-only fields of the register at an address, all other bits 0. -/
def State.roWord (s : State) (a : Nat) : W32 :=
  match canon a with
  | none => 0#32
  | some (b, o) =>
    match b with
    | 0 => if o == 8 then Config.chipSerial.setWidth 32 else chipRo s o
    | 1 => seedRo s o
    | 2 => sapRo s o
    | 3 => evtRo s a o
    | 4 => tallyRo s a o
    | 5 => pithRo s o
    | 6 => cambiumRo s o
    | 7 => heartRo s o
    | 8 => knotRo s o
    | 9 => budRo s o
    | 10 => twigRo s a o
    | 11 => groveRo s a o
    | 12 => prunerRo s o
    | 13 => sapwoodRo s o
    | 14 => coppiceRo s o
    | 15 => rootletRo s a o
    | 16 => xylemRo s o
    | 17 => barkRo s o
    | 18 => if o == 0x2C then s.canopy.shown else 0#32
    | 19 => crownRo s o
    | 20 => portRo s a o
    | 21 => if o ≥ 0x200000 then ringRo s o else portRo s a o
    | 22 => mmacRo s o
    | 23 => timeRo s o
    | 24 => dramRo s o
    | 25 => if o == 0 then w32 ((List.range 12).map fun i => (nth s.links i 0#2).toNat * 4 ^ i).sum else 0#32
    | 26 => match o with
      | 0x0 => 0x19624A3F#32
      | 0x4 => w32 (place s.bistDone.toNat 24 6 + place s.bistPass.toNat 16 6)
      | _ => 0#32
    | _ => 0#32

/-! ### Latched pairs (R141, R203, R259, R384, R391) -/

/-- The partners that a read of the register at an address latches: their addresses and values.
 [DEDUCED, log entry 25] -/
def State.partners (s : State) (a : Nat) : List (Nat × W32) :=
  let hi : Nat → Nat → List (Nat × W32) := fun n w => [(a + 4, w32 (n / 2 ^ 32 % 2 ^ w))]
  match canon a with
  | some (0, 0x8) => hi Config.chipSerial.toNat 32
  | some (3, 0x2C) => hi (s.src (s.fld 0x03000020 11 0)).time 32
  | some (4, 0x34) => hi (s.counter (s.fld 0x04000030 6 0) (s.fld 0x04000030 11 8)) 16
  | some (4, 0x204) => hi (s.cycles8 s.engSel / 8) 32
  | some (4, 0x214) => hi (s.engCount s.engSel (engNo a)) 16
  | some (6, 0x10) => hi s.headSeq 16
  | some (6, 0x18) => hi s.tailSeq 16
  | some (11, o) =>
    let g := s.grove? (a % 0x1000 / 0x100)
    match o with
    | 0x1024 => hi (g.elim 0 fun g => g.running.1.elim 0 (·.cursor)) 16
    | 0x1034 => hi (g.elim 0 fun g => g.running.2.elim 0 (·.cursor)) 16
    | 0x1044 => hi (g.elim 0 fun g => g.resync.elim 0 (·.cursor)) 16
    | _ => []
  | some (17, 0x18) => hi ((NMap.get? s.bark.keys (s.fld 0x11000010 12 0)).elim 0 (·.cnt)) 31
  | some (23, 0x4) => [(a + 4, w32 s.time.sec), (a + 8, w32 (s.time.sec / 2 ^ 32 % 2 ^ 16))]
  | some (24, 0x28) => hi s.dram.addr 9
  | _ => []

/-- Registers that show a latched value, by block and offset: the value as latched; before any read of the partner, the
reset value (CHIP_SERIAL_HI: the fused value). [DEDUCED, log entry 25] -/
def State.latched (s : State) (a : Nat) : Option W32 :=
  let l := NMap.get? s.regs.latch a
  match canon a with
  | some (0, 0xC) => some (l.getD (w32 (Config.chipSerial.toNat / 2 ^ 32)))
  | some (3, 0x30) => some (l.getD 0#32)
  | some (4, 0x38) => some (l.getD 0#32)
  | some (4, 0x208) => some (l.getD 0#32)
  | some (4, 0x218) => some (l.getD 0#32)
  | some (6, 0x14) => some (l.getD 0#32)
  | some (6, 0x1C) => some (l.getD 0#32)
  | some (11, o) => if o == 0x1028 || o == 0x1038 || o == 0x1048 then some (l.getD 0#32) else none
  | some (17, 0x1C) => some (l.getD 0#32)
  | some (23, 0x8) => some (l.getD 0#32)
  | some (23, 0xC) => some (l.getD 0#32)
  | some (24, 0x2C) => some (l.getD 0#32)
  | _ => none

/-! ### Reading -/

/-- VIEW_ACTIVE of a path (R380). -/
def pathNo : Path → Nat
  | .frame => 0
  | .admin => 1
  | .pith => 2

/-- The stored bits of the register at an address: class C fields from the shadow, or in force where `active`. -/
def State.rwWord (s : State) (a : Nat) (r : RegDef) (active : Bool) : W32 :=
  match s.home? a with
  | none => 0#32
  | some h => (s.reg h &&& (r.s ||| r.l)) ||| ((if active then s.reg h else s.regs.getShadow h) &&& r.c)

/-- The value that a path reads at an aligned address inside the map (R4, R370, R380). With AUTO_POLL set, MMAC_MODE shows the
polled result (R255). -/
def State.readVal (s : State) (path : Path) (a : Nat) : W32 :=
  match regAt a with
  | none => 0#32
  | some r =>
    if canon a == some (22, 4) && s.autoOn then w32 (place (b2n s.mmac.full) 2 1 + place s.mmac.speed 0 2) else
    match s.latched a with
    | some v => v
    | none => s.rwWord a r (s.flag 0x14 (pathNo path)) ||| (s.roWord a &&& (r.ro ||| r.w1c))
        ||| (if canon a == some (20, 0x1044) || canon a == some (21, 0x1044) then s.roWord a else 0#32)

/-- What a read leaves in the register file: latched partners, and an advanced TALLY_RD_SEL.OFFSET. -/
def State.readRegs (s : State) (a : Nat) : Regs :=
  let r := { s.regs with latch := (s.partners a).foldl (fun m p => NMap.set m p.1 p.2) s.regs.latch }
  if a == 0x04000024 then
    let w := s.reg 0x04000020
    r.put 0x04000020 (w32 (place (b2n (bit w 31)) 31 1 + (bits w 29 0 + 4) % 2 ^ 30))
  else r

/-- What a read changes outside the register file: indications are cleared (R244), the oldest transmit timestamp is
taken (R259). -/
def State.readFx (s : State) (a : Nat) : State :=
  match canon a with
  | some (22, 0x120) => { s with mmac := { s.mmac with ind := [] } }
  | some (23, 0x40) => { s with time := { s.time with taken := s.time.txts.head?, txts := s.time.txts.drop 1 } }
  | some (_, 0x1020) =>
    match gateSub a with
    | some p => s.setPort p { s.port p with ind := [] }
    | none => s
  | _ => s

/-- One read: the value and the state after it. -/
def State.read1 (s : State) (a : Nat) : State := { s.readFx a with regs := s.readRegs a }

end Sys2Proof.Machine
end

