-- ==== Sys2Proof/Machine/ResetOps.lean ====
section
/-!
DEFINITION. Reset and restart (spec/16: R345 to R347; spec/15: R340), and the operations of the recovery flash interface as
they are started (R358).
-/

namespace Sys2Proof.Machine

/-! ### Reset (R346) -/

/-- Registers of Sap, which no seal resets (R340). -/
def Regs.sapOnly (r : Regs) : Regs :=
  { val := r.val.filter fun p => blockOf (p.1 % 2 ^ 32) == 2, shadow := r.shadow.filter fun p => blockOf (p.1 % 2 ^ 32) == 2 }

/-- Every block is reset. What is outside the blocks stays: the media, the drives in their bays, the level of PWRFAIL_N, the
sideband target, the record of the last flush, and the model's own clock, outputs and free-value counter.
 [DESIGN CHOICE, log entry 13] -/
def State.blank (s : State) : State :=
  { now := s.now, fresh := s.fresh, out := s.out, ra := s.ra, readData := s.readData, pending := s.pending
    media := s.media, sideband := s.sideband
    drives := (s.drives.filter fun p => p.2.present).map fun p => (p.1, { present := true })
    sap := { pwrfailLow := s.sap.pwrfailLow, pwrfailHighAt := s.sap.pwrfailHighAt }
    sapw := { lastResult := s.sapw.lastResult, lastUs := s.sapw.lastUs } }

/-- A reset inside the device: BYP_HOLD keeps its level and pass-through replaces termination (Table 13.3).
 [DEDUCED, log entry 73] -/
def State.inner (s : State) : State :=
  { s.blank with
    ring := { byp := s.ring.byp, held := s.ring.held, passing := s.ring.held }
    alertFixed := s.alertFixed
    mmac := { phyRstN := s.mmac.phyRstN, phyHold := s.mmac.phyHold }
    seed := { straps := s.seed.straps } }

/-- Everything but Sap is held in reset after the Seal (R340). -/
def State.sealedState (s : State) : State :=
  let u := s.inner
  { u with regs := s.regs.sapOnly, sap := { s.sap with flush := some .sealed, res := [] } }

/-- Straps as sampled (Table 16.2). -/
def strapWord (modeSel : BitVec 4) (ringPt recForce : Bool) : BitVec 6 :=
  BitVec.ofNat 6 (modeSel.toNat + 16 * b2n ringPt + 32 * b2n recForce)

/-- The device enters recovery for a cause (R357): ALERT_N[1] and seed.recovery. -/
def State.recover (cause : Nat) (s : State) : State :=
  ({ s with seed := { s.seed with boot := .recovery, cause := cause, since := s.now }
            alertFixed := setNth s.alertFixed 1 true }).raise0 0 12

/-- RESET_N rises, or a restart begins: the straps are sampled (R345), and the Clocks phase starts (R347), or recovery where
REC_FORCE is 1 (R357). -/
def State.begin (straps : BitVec 6) (s : State) : State :=
  let pt := straps.getLsbD 4
  let s := { s with
    seed := { s.seed with boot := .clocks, since := s.now, straps := straps }
    ring := if pt then { s.ring with byp := s.ring.byp.orElse fun _ => some s.now } else {}
    alertFixed := setNth s.alertFixed 1 false }
  if straps.getLsbD 5 then s.recover 2 else s

/-- A restart that a register or Sap asks for: the same as a release of RESET_N (R346). -/
def State.restart (straps : BitVec 6) (s : State) : State := s.inner.begin straps

/-! ### Recovery operations (R358) -/

/-- Is the device in recovery? -/
def State.inRecovery (s : State) : Bool := s.seed.boot == .recovery

/-- SEED_REC_ADDR.PAGE and SEED_REC_OP.REC_SLOT. -/
def State.recPage (s : State) : Nat := s.fld 0x01000020 25 12
def State.recSlot (s : State) : Nat := s.fld 0x01000024 8 8

/-- Is a recovery operation refused: outside recovery, while one runs, below the slots, a SET_NEXT without its CHECK, or a
PROVISION of a full store? [DEDUCED, log entry 29] -/
def State.recRefused (s : State) (op : Nat) : Bool :=
  !s.inRecovery || s.seed.recBusy.isSome || match op with
    | 1 => s.recPage < 16
    | 2 => s.recPage < 16
    | 3 => false
    | 4 => !s.seed.checked.contains s.recSlot
    | 5 => s.media.imageKey.isSome
    | 6 => false
    | _ => true

/-- SEED_REC_OP.OP is written: the operation is refused with RESULT 1, or runs. -/
def State.recOp (op : Nat) (straps : BitVec 6) (s : State) : State :=
  if s.recRefused op then { s with seed := { s.seed with recResult := 1 } }
  else if op == 6 then s.restart straps
  else { s with seed := { s.seed with recBusy := some (op, s.recSlot, s.recPage) } }

end Sys2Proof.Machine
end

