-- ==== Sys2Proof/Machine/SpareOps.lean ====
section
/-!
DEFINITION. Drives on behalf of Grove Management (spec/06: R148 to R153; spec/07: R184): what Create and Add Spares check,
the formats and labels they wait for, and the spares that waiting slots take.
-/

namespace Sys2Proof.Machine

/-- Pith holds a begun command in a stage. -/
def State.begun (tag : Nat) (st : Stage) (s : State) : State := s.modCmd tag fun c => { c with stage := st }

/-- Refused with SCT 0x0, SC 0x02 and a cause in DW0. -/
def State.failCause (tag cause : Nat) (s : State) : State := s.finish tag { sct := 0, sc := 2, dw0 := w32 cause }

/-- Bytes that SAPWOOD's region must hold (R153). -/
def State.regionNeeds (s : State) : Nat :=
  16 * 2 ^ 20 + s.ringUnits * 16 + s.fld 0x0D000008 11 0 * 2 ^ 20
    + (s.groves.map fun p => 264 * p.2.w * 4112).sum

/-! ### Fields (R148, R202) -/

def Cmd.gmAction (c : Cmd) : Nat := bits c.cdw10 3 0
def Cmd.gmGrove (c : Cmd) : Nat := bits c.cdw10 9 8
def Cmd.gmDrives (c : Cmd) : List Nat := (List.range 24).filter fun i => bit c.cdw11 i
def Cmd.gmChunk (c : Cmd) : Nat := bits c.cdw12 1 0
def Cmd.gmZoned (c : Cmd) : Bool := bit c.cdw12 4
def Cmd.gmSpareFor (c : Cmd) : Nat := bits c.cdw12 11 8
def Cmd.gmSlot (c : Cmd) : Nat := bits c.cdw13 4 0
def Cmd.gmDrive (c : Cmd) : Nat := bits c.cdw13 12 8

/-! ### Drives as Create and Add Spares check them (R149, R150) -/

/-- Present, and initialised as far as Qualify? -/
def Drive.seen (v : Drive) : Bool := v.present && (v.st == .ready || v.st == .qualFail)

/-- Can the drive take the format of R142? -/
def Drive.formatOk (v : Drive) : Bool := v.info.lbafOk && (v.formatted || v.info.formatNvm)

/-- Blocks of a drive: a zoned one's head area lies in its conventional namespace. -/
def DriveInfo.total (i : DriveInfo) : Nat := i.blocks + i.zoned.elim 0 fun z => z.2.2.2.2.2

/-- Segments a grove of these drives has (R147, R170). -/
def segsOf (zoned : Bool) (c : Nat) (l : List DriveInfo) : Nat :=
  let low : List Nat → Nat := fun l => l.foldl min (l.headD 0)
  if zoned then
    let zcap := (l.head?.bind (·.zoned)).elim 0 (·.2.1)
    zcap / (64 * c) * low (l.map fun i => i.zoned.elim 0 fun z => z.2.2.2.2.1)
  else (low (l.map (·.blocks)) - segBase) / (64 * c)

/-- The grove that Create builds. -/
def State.newGrove (s : State) (c : Cmd) : Grove :=
  let infos := c.gmDrives.map fun d => (s.drive d).info
  let z := (infos.head?.bind (·.zoned)).getD (0, 0, 0, 0, 0, 0)
  let k := 16 * 2 ^ c.gmChunk
  { n := c.gmDrives.length, chunk := c.gmChunk, zoned := c.gmZoned
    members := c.gmDrives.map fun d => { drive := d }
    cap := (infos.map (·.blocks)).foldl min ((infos.map (·.blocks)).headD 0)
    lseq := (c.gmDrives.map s.newestLseq).foldl max 0
    reservePct := s.fld 0x0C000008 5 0, segCount := segsOf c.gmZoned k infos
    zone := if c.gmZoned then (z.1, z.2.1, z.2.1 / (64 * k)) else (0, 0, 0) }

/-- Does a drive meet what R170 asks of a member of a zoned grove? -/
def zonedOk (c : Nat) (i : DriveInfo) : Bool :=
  i.zoned.any fun z => z.2.1 / (64 * c) ≥ 1 && z.2.2.1 ≥ 4 && z.2.2.2.1 ≥ 4 && z.2.2.2.2.2 ≥ segBase

/-- No two of the drives differ in kind, zone size or ZCAP, and ZONED 0 names no zoned ones. -/
def alike (zoned : Bool) (l : List DriveInfo) : Bool :=
  (match l with
    | [] => true
    | i :: t => t.all fun j => i.zoned.isSome == j.zoned.isSome
        && i.zoned.map (fun z => (z.1, z.2.1)) == j.zoned.map (fun z => (z.1, z.2.1)))
    && (zoned || l.all fun i => i.zoned.isNone)

/-- The first cause that refuses a Create (R149). [DEDUCED, log entry 54] -/
def State.createCause (s : State) (c : Cmd) : Option Nat :=
  let ds := c.gmDrives
  let vs := ds.map s.drive
  let infos := vs.map (·.info)
  let k := 16 * 2 ^ c.gmChunk
  let w := (ds.length - 2) * k
  if c.gmChunk == 3 then some 9
  else if (s.grove? c.gmGrove).isSome then some 1
  else if ds.length < 6 || ds.length > 24 then some 2
  else if ds.any (fun d => !(s.drive d).seen || (s.memberOf d).isSome || (s.drive d).spare.isSome) then some 3
  else if !alike c.gmZoned infos then some 4
  else if vs.any (fun v => !v.formatOk || v.st == .qualFail) then some 5
  else if infos.any (fun i => DriveInfo.total i < segBase + 64 * 64 * k) then some 6
  else if s.regionBytes < s.regionNeeds + 264 * w * 4112 then some 7
  else if c.gmZoned && infos.any (fun i => !zonedOk k i) then some 8
  else none

/-- The first cause that refuses Add Spares (R150). [DEDUCED, log entry 54] -/
def State.spareCause (s : State) (c : Cmd) : Option Nat :=
  let ds := c.gmDrives
  if ds.any (fun d => !(s.drive d).present || (s.drive d).st != .ready) then some 1
  else if ds.any (fun d => !(s.drive d).formatOk) then some 2
  else if ds.any (fun d => (s.memberOf d).isSome) then some 3
  else none

/-! ### Commands to drives on behalf of an admin command -/

/-- Is a drive command of that kind still out for the admin command? -/
def State.fmtOut (s : State) (tag : Nat) : Bool := s.drives.any fun p => p.2.all.any fun x => x.purpose == .format tag
def State.labelOut (s : State) (tag : Nat) : Bool := s.drives.any fun p => p.2.all.any fun x =>
  match x.purpose with | .label _ t => t == some tag | _ => false

/-- Send Format NVM to the drives that are not in the required format (R149). -/
def State.sendFormats (tag : Nat) (ds : List Nat) (s : State) : State :=
  (ds.filter fun d => !(s.drive d).formatted).foldl (fun s d =>
    s.toDrive d { id := 0, purpose := .format tag, isWrite := false, lba := 0, nb := 0 }) s

/-- Erase the label of a drive: both copies. -/
def State.eraseLabel (tag : Nat) (d : Nat) (s : State) : State :=
  s.toDrive d { id := 0, purpose := .label none (some tag), isWrite := true, lba := 0, nb := 2, head := true, data := [zeroB, zeroB] }

/-- The command ends once none of its labels is still to be written. -/
def State.labelsDone (tag : Nat) (s : State) : State :=
  if s.labelOut tag then s else s.finishOk tag

/-! ### Spares and the slots that wait for one (R184) -/

/-- The failed slots of every grove that is not offline: the order of failure, grove, slot. -/
def State.allAwaiting (s : State) : List (Nat × Nat × Nat) :=
  (s.groves.filter fun p => !p.2.offline).flatMap fun p =>
    p.2.awaiting.map fun i => ((p.2.members[i]?).elim 0 (·.failOrder), p.1, i)

/-- Take spares into the slots that wait, oldest failure first (R183, R184), while AUTO is set. -/
def State.takeWaiting (s : State) : State :=
  if !s.flag 0x0B00000C 31 then s
  else (s.allAwaiting.mergeSort fun a b => a.1 ≤ b.1).foldl (fun s x =>
    match s.spareFor x.2.1 with
    | some d => s.takeSpare x.2.1 x.2.2 d
    | none => s) s

/-- Designate spares and write their labels. -/
def State.designate (tag : Nat) (c : Cmd) (s : State) : State :=
  let s := c.gmDrives.foldl (fun s d =>
    let s := s.setDrive d { s.drive d with spare := some c.gmSpareFor, settled := false }
    s.sendLabel d (s.spareLabel (s.newestLseq d + 1) c.gmSpareFor) (some tag)) s
  ((((s.begun tag .running).labelsDone tag).markOpen c.gmDrives).checkVault).takeWaiting

/-- Build a grove and write its labels. -/
def State.buildGrove (tag : Nat) (c : Cmd) (s : State) : State :=
  let s := s.setGrove c.gmGrove (s.newGrove c)
  let s := c.gmDrives.foldl (fun s d => s.setDrive d { s.drive d with settled := false }) s
  (((((s.begun tag .running).writeLabels c.gmGrove (some tag)).labelsDone tag).markOpen s.vault).checkVault).pump

/-- The formats of a Create or Add Spares are over: build, or end with an error where a drive did not take the format or no
longer passes. [DEDUCED, log entry 54] -/
def State.formatsDone (tag : Nat) (s : State) : State :=
  match s.cmd? tag with
  | none => s
  | some c =>
    if s.fmtOut tag || c.status.isSome then s
    else if c.gmDrives.any fun d => !(s.drive d).formatted then s.fail tag 0 6
    else match (if c.gmAction == 0 then s.createCause c else s.spareCause c) with
      | some k => s.failCause tag k
      | none => if c.gmAction == 0 then s.buildGrove tag c else s.designate tag c

/-- Admin commands that wait for drives go on: formats or labels of theirs are over, however they ended (R148 to R150, and
R429 for the labels that carry a CHECKPOINT's location). -/
def State.adminDrives (s : State) : State :=
  (s.bud.cmds.filter fun p => p.2.admin && p.2.status.isNone).foldl (fun s p =>
    match p.2.stage, p.2.opc == 0xC7 with
    | .placed, true => s.formatsDone p.1
    | .running, true => s.labelsDone p.1
    | .recorded, false => if s.labelOut p.1 then s else s.finish p.1 p.2.okStatus
    | _, _ => s) s

/-- What a change of a drive lets go on: admin commands that wait for drives, and every grove. -/
def State.driven (s : State) : State := s.adminDrives.pump

end Sys2Proof.Machine
end

