-- ==== Sys2Proof/Machine/RegOps.lean ====
section
/-!
DEFINITION. Writing the management address space (spec/18: R374, R379 to R385): the class test, the writes that blocks
refuse, commit groups with their snapshots and checks (Table 18.5), and what a write makes the machine do.
-/

namespace Sys2Proof.Machine

/-! ### What a write would leave -/

/-- Bits of a register that a write can set: class S, L and C fields. -/
def RegDef.rw (r : RegDef) : W32 := r.s ||| r.l ||| r.c

/-- CLASS field of a port's configuration register: its egress point, and the bit where CLASS starts. -/
def classField (a : Nat) : Option (Nat × Nat) :=
  match canon a with
  | some (22, 0) => some (34, 8)
  | some (_, 0x1000) => (gateSub a).map fun p => (p, 30)
  | _ => none

/-- May a port take a class (Table 10.3)? -/
def classOk (p cls : Nat) : Bool :=
  cls == 0 || (if p < 32 then cls == 1 || cls == 2 else if p == 34 then cls == 2 else cls == 3)

/-- Does a word ask for a class that the port may not take (R245)? -/
def classBad (a : Nat) (w : W32) : Bool :=
  match classField a with
  | some (p, lo) => !classOk p (bits w (lo + 1) lo)
  | none => false

/-- The stored bits after a (masked) write (R374); TAP_LOCK holds until the next RESET_N (R389).
[DEDUCED, log entry 22] -/
def State.written (s : State) (a : Nat) (r : RegDef) (data mask : W32) : W32 :=
  let old := s.rwWord a r false
  let w := ((old &&& ~~~mask) ||| (data &&& mask)) &&& r.rw
  if canon a == some (26, 8) then w ||| (old &&& 1#32) else w

/-! ### Class S and refusals (R379) -/

/-- Is the block of a register enabled, for the class test? -/
def State.blockOn (s : State) (a : Nat) : Bool :=
  match canon a with
  | some (24, _) => s.dram.enabled
  | some (21, o) =>
    if o ≥ 0x200000 then s.joinBit 32 || s.joinBit 33
    else (enableAddr a).any fun e => s.on e
  | _ => (enableAddr a).any fun e => s.on e

/-- The ENABLE bit of a register at offset 0x0000, which the class test exempts. -/
def exempt (a : Nat) : W32 := if enableAddr a == some a then 1#32 else 0#32

/-- Does the block refuse this value (R153, R225, R237, R245, R285, R286, R305, R317)? `wo` are the ones written to WO bits.
 [DEDUCED, log entry 22] -/
def State.blockRefuses (s : State) (path : Path) (a : Nat) (old new wo : W32) : Bool :=
  let sets := bit new 0 && !bit old 0
  classBad a new || match canon a with
  | some (5, 0xC) => bit wo 1 && s.rehearseRefused path
  | some (13, 0) => sets && s.regionBytes < s.regionNeeds
  | some (15, 0) => bit new 2 && !bit old 2 && s.powerRefused (a % 0x1000000 / 0x80000)
  | some (19, 0) => sets && s.sharedSize (s.fld 0x13000004 8 0) < (16 * 1048576 : Nat)
  | some (20, 0) => sets && blockOf a == 20 && s.fld (a + 4) 1 0 == 3
  | some (21, 0x200000) =>
    let m := bits new 1 0
    m != bits old 1 0 && (m == 3 || (m != 0 && !s.ringPt))
  | some (21, 0x20000C) => s.joinRefused new
  | _ => false

/-- STATUS of a write (Table 18.4): 0 done, 1 outside what the path reaches, 2 unaligned, 3 class violation, 4 refused. -/
def State.wrStatus (s : State) (path : Path) (a : Nat) (data mask : W32) : Nat :=
  if a % 4 != 0 then 2
  else if !inMap a || (s.inRecovery && path == .frame && !([0, 1, 2].contains (blockOf a))) then 1
  else if blockOf a == 26 && path != .pith then 4
  else match regAt a with
    | none => 0
    | some r =>
      let old := s.rwWord a r false
      let new := s.written a r data mask
      if s.blockOn a && (old ^^^ new) &&& r.s &&& ~~~(exempt a) != 0#32 then 3
      else if s.blockRefuses path a old new (data &&& mask &&& r.wo) then 4
      else 0

/-- STATUS of a read. -/
def State.rdStatus (s : State) (path : Path) (a : Nat) : Nat :=
  if a % 4 != 0 then 2
  else if !inMap a || (s.inRecovery && path == .frame && !([0, 1, 2].contains (blockOf a))) then 1 else 0

/-! ### Commit groups (R380 to R383, Table 18.5) -/

/-- Places of the registers of the group that bit `b` of the COMMIT register at `a` applies. -/
def groupRegs (a b : Nat) : List Nat :=
  let base := a - 0xFFC
  let gate : Nat → List Nat := fun sub =>
    [sub + 0x30, sub + 0x34, sub + 0x38, sub + 0x3C] ++ (List.range 256).map fun i => virt (sub + 0x44) i
  match blockOf a, b with
  | 2, 0 => [base + 4, base + 8]
  | 2, 1 => [base + 0xC, base + 0x10]
  | 4, 0 => (List.range 4).flatMap fun f => (List.range 7).map fun i => base + 0x100 + 0x20 * f + 4 * i
  | 4, 1 => [base + 0x40, base + 0x44]
  | 6, 0 => [base + 8]
  | 7, 0 => [base + 8]
  | 8, 0 => [base + 4]
  | 9, 0 => [base + 4, base + 8]
  | 10, 0 => [base + 4]
  | 11, 0 => [base + 4]
  | 11, 1 => [base + 8]
  | 12, 0 => [base + 4]
  | 13, 0 => [base + 8]
  | 14, 0 => [base + 4]
  | 15, 0 => [base + 0x14, base + 0x18]
  | 16, 0 => [base + 0xC, base + 0x10]
  | 16, 1 => [base + 0x1C, base + 0x20]
  | 18, 0 => (List.range 40).flatMap fun p => [virt (base + 0x104) p, virt (base + 0x108) p, virt (base + 0x10C) p]
  | 18, 1 => [base + 0x40, base + 0x44, base + 0x48]
  | 19, 0 => [base + 4]
  | 19, 1 => (List.range 8).map fun t => base + 0x100 + 4 * t
  | 20, k => if k < 4 then gate (base + 0x1000 + 0x1000 * k) else []
  | 21, 0 => if base % 0x1000000 < 0x200000 then gate (base + 0x1000) else []
  | _, _ => []

/-- Class C bits of the register kept at a place. -/
def cBits (h : Nat) : W32 := (regAt (h % 2 ^ 32)).elim 0#32 (·.c)

/-- A snapshot of a group's shadow. -/
def Regs.snapshot (r : Regs) (a b : Nat) : NMap W32 := (groupRegs a b).map fun h => (h, r.getShadow h &&& cBits h)

/-- The value that a register takes when a snapshot is applied. -/
def Regs.merge (r : Regs) (vals : NMap W32) (h : Nat) : W32 :=
  (r.get h &&& ~~~(cBits h)) ||| (NMap.getD vals h (r.get h) &&& cBits h)

/-- Put a snapshot in force. -/
def Regs.applyVals (r : Regs) (vals : NMap W32) : Regs := vals.foldl (fun q p => q.put p.1 (r.merge vals p.1)) r

/-- Is a field inside a range? -/
def inRange (w : W32) (hi lo top low : Nat) : Bool := low ≤ bits w hi lo && bits w hi lo ≤ top

/-- The egress point of a GATE group, from its COMMIT register and bit. -/
def gatePoint (a b : Nat) : Option Nat :=
  match blockOf a with
  | 20 => if b < 4 then some (4 * (a % 0x1000000 / 0x200000) + b) else none
  | 21 => if b == 0 && a % 0x1000000 < 0x200000 then some (32 + a % 0x1000000 / 0x100000) else none
  | _ => none

/-- Does a snapshot keep its block's rule: ranges without a stated treatment, and relations (R381)?
 [DEDUCED, log entry 24] -/
def State.groupOk (s : State) (a b : Nat) (v : Nat → W32) : Bool :=
  let base := a - 0xFFC
  match blockOf a, b with
  | 2, 0 => inRange (v (base + 8)) 23 16 255 1 && inRange (v (base + 8)) 15 8 255 1 && inRange (v (base + 8)) 7 0 255 1
  | 2, 1 =>
    let d := v (base + 0xC)
    let t := v (base + 0x10)
    inRange d 19 16 8 4 && inRange d 15 12 8 4 && inRange d 11 8 8 4 && inRange d 6 0 80 20
      && inRange t 31 24 30 0 && inRange t 23 16 125 100 && inRange t 11 8 15 1 && inRange t 7 0 120 90
      && bits t 7 0 < bits t 23 16
  | 4, 0 => (List.range 4).all fun f =>
    let x := base + 0x100 + 0x20 * f
    bits (v (x + 0x10)) 15 0 * 2 ^ 32 + (v (x + 0xC)).toNat ≤ bits (v (x + 0x18)) 15 0 * 2 ^ 32 + (v (x + 0x14)).toNat
  | 4, 1 => inRange (v (base + 0x40)) 28 24 20 0
  | 6, 0 => let w := v (base + 8)
    inRange w 15 8 90 10 && inRange w 7 0 95 20 && bits w 15 8 < bits w 7 0
  | 7, 0 => inRange (v (base + 8)) 7 0 90 5
  | 8, 0 => inRange (v (base + 4)) 16 0 65536 1
  | 9, 0 => inRange (v (base + 4)) 7 0 128 0 && inRange (v (base + 8)) 5 0 63 1
  | 10, 0 => let w := v (base + 4)
    inRange w 31 24 255 1 && inRange w 23 16 255 1 && inRange w 15 8 255 1 && inRange w 7 0 64 0
  | 11, 0 => inRange (v (base + 4)) 23 16 128 8 && inRange (v (base + 4)) 8 0 256 0
  | 12, 0 => let w := v (base + 4)
    inRange w 31 24 50 1 && inRange w 23 16 95 10 && inRange w 15 8 50 1 && inRange w 7 0 60 2 && bits w 15 8 < bits w 7 0
  | 13, 0 => inRange (v (base + 8)) 11 0 4095 64
  | 14, 0 => inRange (v (base + 4)) 31 20 4000 0 && inRange (v (base + 4)) 8 0 256 0
  | 15, 0 => inRange (v (base + 0x14)) 31 16 10000 50 && inRange (v (base + 0x14)) 15 0 60000 100
    && inRange (v (base + 0x18)) 23 16 255 1 && inRange (v (base + 0x18)) 7 0 255 1
  | 16, 0 => let w := v (base + 0xC)
    inRange w 31 16 32768 64 && inRange w 15 0 4000 4 && bits w 15 0 ≤ bits w 31 16 && inRange (v (base + 0x10)) 15 8 64 1
  | 16, 1 => let w := v (base + 0x20)
    inRange w 31 24 255 1 && inRange w 19 16 10 1 && inRange w 15 0 65535 1000
  | 18, 0 => (List.range 40).all fun p => (List.range 4).all fun t =>
    inRange (v (virt (base + 0x104) p)) (8 * t + 7) (8 * t) 255 1 && inRange (v (virt (base + 0x108) p)) (8 * t + 7) (8 * t) 255 1
  | 18, 1 => [base + 0x40, base + 0x44, base + 0x48].all fun x => bits (v x) 31 16 == 0 || inRange (v x) 15 0 65535 16
  | 19, 0 => inRange (v (base + 4)) 8 0 256 0 && s.sharedSize (bits (v (base + 4)) 8 0) ≥ (16 * 1048576 : Nat)
  | 19, 1 => (List.range 8).all fun t => let w := v (base + 0x100 + 4 * t)
    inRange w 31 24 100 0 && inRange w 23 12 4095 2 && inRange w 11 0 4094 1 && bits w 11 0 < bits w 23 12
  | _, _ =>
    match gatePoint a b with
    | none => true
    | some p =>
      let sub := subBase p
      let n := bits (v (sub + 0x3C)) 8 0
      n == 0 || (n ≤ s.gateShare p && inRange (v (sub + 0x30)) 29 0 999999999 1000
        && (List.range n).all fun i => bits (v (virt (sub + 0x44) i)) 23 0 > 0)

/-- The block's own event for a rejected snapshot, where it has one (R381). [DEDUCED, log entry 24] -/
def rejectEvent (a b : Nat) : Option (Nat × Nat) :=
  match blockOf a, b with
  | 2, _ => some (2, 30)
  | 6, _ => some (5, 20)
  | 12, _ => some (7, 8)
  | 18, _ => some (6, 26)
  | 19, 0 => some (6, 8)
  | 19, _ => some (6, 9)
  | 20, k => some (12 + a % 0x1000000 / 0x200000, 16 + k)
  | 21, _ => some (20 + a % 0x1000000 / 0x100000, 16)
  | _, _ => none

/-- CHIP_VIOL_ADDR and CHIP_VIOL_INFO of a rejection (R381, R385). -/
def Regs.violate (r : Regs) (a : Nat) (path : Path) (kind : Nat) : Regs :=
  { r with violAddr := w32 a, violPath := pathNo path, violKind := kind, violCount := (r.violCount + 1) % 65536 }

/-- The gate list that a snapshot spells; none where LIST_LEN is 0 (R252). -/
def gateListOf (v : Nat → W32) (p : Nat) : Option GateList :=
  let sub := subBase p
  let n := bits (v (sub + 0x3C)) 8 0
  if n == 0 then none
  else some
    { entries := (List.range n).map fun i =>
        (BitVec.ofNat 8 (bits (v (virt (sub + 0x44) i)) 31 24), bits (v (virt (sub + 0x44) i)) 23 0)
      cycle := bits (v (sub + 0x30)) 29 0
      base := (v (sub + 0x38)).toNat * 1000000000 + bits (v (sub + 0x34)) 29 0 }

/-- What a snapshot in force makes the machine do, beyond its values. `s` is the state before it. -/
def State.groupFx (s : State) (a b : Nat) (u : State) : State :=
  match blockOf a, b with
  | 2, 0 =>
    let u := if u.flag 0x02000004 12 then u else { u with sap := { u.sap with selfRefresh := false } }
    allRes.foldl (fun u r => if (u.res r).sp > 0 then u.applyTop r else u) u
  | 4, 1 => if u.reg 0x04000044 != s.reg 0x04000044 || u.reg 0x04000044 == 0#32 then
      { u with tally := { u.tally with lfsr := if u.reg 0x04000044 == 0#32 then 1#32 else u.reg 0x04000044 } } else u
  | 9, 0 => if u.pollOver && !s.pollOver then u.raise0 4 18 else u
  | 11, 0 => u.pump
  | 15, 0 => u.kickDrive (a % 0x1000000 / 0x80000)
  | 18, 1 => { u with canopy := { u.canopy with pol := [] } }
  | _, _ => u

/-- Is the group of a fabric or ring port's gates? -/
def isGate (a b : Nat) : Bool := (gatePoint a b).isSome

/-- Register file after the snapshot `vals` is applied: in force, or rejected. -/
def State.applyRegs (s : State) (a b : Nat) (path : Path) (vals : NMap W32) : Regs :=
  let r := { s.regs with snaps := NMap.erase s.regs.snaps (a * 8 + b) }
  if s.groupOk a b (s.regs.merge vals) then r.applyVals vals else r.violate a path 2

/-- State after the snapshot is applied, its registers as `applyRegs` leaves them. -/
def State.applyFx (s : State) (a b : Nat) (path : Path) (vals : NMap W32) (u : State) : State :=
  let u := { u with regs := s.applyRegs a b path vals }
  if s.groupOk a b (s.regs.merge vals) then
    match gatePoint a b with
    | some p =>
      let l := gateListOf (s.regs.merge vals) p
      (u.setPort p { u.port p with gate := l, gateAt := u.now, next := none }).raise0 (portGroup p) (20 + portSub p)
    | none => s.groupFx a b u
  else match rejectEvent a b with
    | some e => u.raise0 e.1 e.2
    | none => u.raise0 0 0

/-- Register file after a COMMIT bit is written: a snapshot waits for its boundary; a disabled block takes it at once; a
GATE snapshot is checked at once and waits for its first cycle start (R254). [DEDUCED, log entry 24] -/
def State.commitRegs (s : State) (path : Path) (a b : Nat) : Regs :=
  let vals := s.regs.snapshot a b
  if !s.blockOn a then s.applyRegs a b path vals
  else if isGate a b && !s.groupOk a b (s.regs.merge vals) then s.applyRegs a b path vals
  else { s.regs with snaps := NMap.set s.regs.snaps (a * 8 + b) { path := path, vals := vals } }

/-- State after a COMMIT bit is written. -/
def State.commitFx (s : State) (path : Path) (a b : Nat) (u : State) : State :=
  let vals := s.regs.snapshot a b
  if !s.blockOn a then s.applyFx a b path vals u
  else match gatePoint a b with
    | none => { u with regs := s.commitRegs path a b }
    | some p =>
      if !s.groupOk a b (s.regs.merge vals) then s.applyFx a b path vals u
      else
        let l := gateListOf (s.regs.merge vals) p
        let t := l.elim u.tbNs fun g => g.firstStart u.tbNs
        ({ u with regs := s.commitRegs path a b }).setPort p { u.port p with next := some (l, t) }

/-- One COMMIT bit. -/
def State.commit1 (path : Path) (a b : Nat) (s : State) : State :=
  { s.commitFx path a b s with regs := s.commitRegs path a b }

/-- A COMMIT register is written with these bits. -/
def State.commits (path : Path) (a : Nat) (ones : W32) (s : State) : State :=
  (List.range 4).foldl (fun s b => if bit ones b then s.commit1 path a b else s) s

/-- The safe boundary of a waiting group. [DEDUCED, log entry 24] -/
def State.boundary (a b : Nat) (x : Snap) (s : State) : State :=
  { s.applyFx a b x.path x.vals s with regs := s.applyRegs a b x.path x.vals }

/-! ### What a write leaves in the register file -/

/-- CROWN_PATH registers as they show a record (R235). -/
def Regs.loadPath (r : Regs) (x : PathRec) : Regs :=
  let hi := w32 (place (b2n x.v6) 29 1 + place (b2n x.tagged) 28 1 + place x.vid.toNat 16 12 + x.mac.toNat / 2 ^ 32)
  let r := (r.put 0x13000304 (w32 x.mac.toNat)).put 0x13000308 hi
  (List.range 4).foldl (fun r i => r.put (0x1300030C + 4 * i) (w32 (x.ip.toNat / 2 ^ (96 - 32 * i)))) r

/-- The plain write: class S and L bits in force, class C bits in the shadow. -/
def State.plainRegs (s : State) (a : Nat) (data mask : W32) : Regs :=
  match regAt a, s.home? a with
  | some r, some h =>
    let w := s.written a r data mask
    let q := s.regs.put h ((s.reg h &&& ~~~(r.s ||| r.l)) ||| (w &&& (r.s ||| r.l)))
    if r.c == 0#32 then q else q.putShadow h ((s.regs.getShadow h &&& ~~~r.c) ||| (w &&& r.c))
  | _, _ => s.regs

/-- What the operation bits of a write leave in the register file. -/
def State.opRegs (s : State) (path : Path) (a : Nat) (wo : W32) : Regs :=
  match canon a with
  | some (1, 0x10) => if bit wo 0 then {} else s.regs
  | some (1, 0x24) => if bits wo 2 0 == 6 && !s.recRefused 6 then {} else s.regs
  | some (18, 0x28) => if bit wo 1 && s.shaperSel then s.regs.put 0x12000024 s.shaperCfg else s.regs
  | some (19, 0x208) =>
    if bit wo 2 then
      match NMap.get? s.crown.fwd (s.reg 0x13000200).toNat with
      | some e => s.regs.put 0x13000204 e.word
      | none => s.regs
    else s.regs
  | some (19, 0x300) => s.regs.loadPath (NMap.getD s.crown.paths (s.fld 0x13000300 11 0) {})
  | some (_, 0xFFC) => (s.commits path a wo).regs
  | _ => s.regs

/-! ### What a write makes the machine do -/

/-- Deliver what is pending and has not been delivered to hosts (R393). -/
def State.redeliver (s : State) : State :=
  s.evt.foldl (fun s p => if p.2.pend && !p.2.told then s.deliver p.1 (max 1 p.2.raises) else s) s

/-- PEND bits are cleared (R391). -/
def State.clearPend (g : Nat) (hi : Bool) (ones : W32) (s : State) : State :=
  { s with evt := s.evt.map fun p =>
      let i := p.1 % 64
      let off := if hi then 32 else 0
      if p.1 / 64 == g && off ≤ i && i < off + 32 && bit ones (i - off)
      then (p.1, { p.2 with pend := false, raises := 0, told := false }) else p }

/-- CLASS of a port has been changed: its policer starts with tokens 0 (R282), sessions without an open port reset (R246). -/
def State.classFx (a : Nat) (u : State) : State :=
  match classField a with
  | some (p, _) =>
    State.resetClosed { u with canopy := { u.canopy with pol := NMap.erase u.canopy.pol p } }
  | none => u

/-- A port has been disabled: its sub-ports go down and sessions without an open port reset. -/
def State.portOff (l : List Nat) (u : State) : State := (u.linksDown l).resetClosed

/-- A class was refused (R245): fmac.class_invalid. [DEDUCED, log entry 22] -/
def State.classRefused (a : Nat) (u : State) : State :=
  match classField a with
  | some (p, _) => if p == 34 then u.raise0 7 25 else u.raise0 (portGroup p) (12 + portSub p)
  | none => u

/-- Sources of group 4 of the sub-ports disabled with a port. -/
def portPoints (a : Nat) : List Nat :=
  if blockOf a == 20 then rangeFrom (4 * (a % 0x1000000 / 0x200000)) 4 else [32 + a % 0x1000000 / 0x100000]

/-- A fabric port has been disabled: its gate lists in force are empty, their shadows keep their contents and no commit
waits (N5 of Table 17.3). -/
def Regs.emptyGates (r : Regs) (a : Nat) : Regs :=
  (portPoints a).foldl (fun r p =>
    let len := subBase p + 0x3C
    let r := { r with snaps := r.snaps.filter fun x => gatePoint (x.1 / 8) (x.1 % 8) != some p }
    if r.get len &&& 0x1FF#32 == 0#32 then r else r.put len (r.get len &&& ~~~0x1FF#32)) r

/-- A fabric port has been enabled: every egress point of it starts again with V = 0 (N4 of Table 17.3).
[DEDUCED, log entry 18] -/
def State.restartPoints (a : Nat) (u : State) : State :=
  (portPoints a).foldl (fun u p =>
    let u := { u with canopy := { u.canopy with sfq := NMap.erase u.canopy.sfq p } }
    (List.range 8).foldl (fun u t => u.tagHead p t true) u) u

/-- A fabric port has been disabled: none of its points has an operating gate list (N5 of Table 17.3). -/
def State.emptyGates (a : Nat) (u : State) : State :=
  (portPoints a).foldl (fun u p => if (u.port p).gate.isSome || (u.port p).next.isSome
    then u.setPort p { u.port p with gate := none, next := none } else u) u

/-- What an accepted write makes the machine do: `s` is the state before, `u` the state with the register file after,
`old` and `new` the stored bits, `wo` the ones written to WO bits, `ones` those written to RW1C bits.
 [DEDUCED, log entry 23; DESIGN CHOICE, log entry 80] -/
def State.writeFx (s u : State) (path : Path) (a : Nat) (old new wo ones : W32) : State :=
  let on_ := bit new 0 && !bit old 0
  let off := bit old 0 && !bit new 0
  match canon a with
  | some (1, 0x10) => if bit wo 0 then u.restart s.seed.straps else u
  | some (1, 0x24) => if bits wo 2 0 == 0 then u else u.recOp (bits wo 2 0) s.seed.straps
  | some (2, 0) => if off then allRes.foldl (fun u r => if (u.res r).sp > 0 then u.applyTop r else u) u else u
  | some (2, 0x24) => match s.selRes with
    | some r => u.notePin r (bit old 31)
    | none => u
  | some (3, o) =>
    if o == 0x1000 then u.clearPend (a % 0x1000 / 16) false ones
    else if o == 0x1004 then u.clearPend (a % 0x1000 / 16) true ones
    else u.redeliver
  | some (4, 0x210) =>
    let i := s.engSel * 8 + engNo a
    let u := if old == new then u else s.engSettle s.engSel u
    let u := if bit wo 23 then u.engStart s.engSel (engNo a) (NMap.erase u.tally.eng i) else u
    if bit ones 22 then { u with tally := { u.tally with ovf := without u.tally.ovf i } } else u
  | some (5, 0x8) => if bit wo 0 then { u with pith := { u.pith with kickAt := u.now } } else u
  | some (5, 0xC) =>
    let u := if bit wo 0 && u.canPlan then u.plan .operator else u
    let u := if bit wo 1 then u.rehearse path else u
    if bit wo 2 then (let d := u.draw 2; d.2.rearm (d.1 == 1)) else u
  | some (6, 0) => if on_ then u.resumeAppends else u
  | some (8, 0) => u.intake
  | some (9, 0xC) => u.checkTols
  | some (9, 0x120) =>
    let u := if bit wo 0 then u.openSession u.selSession u.stagedSession else u
    let u := if bit wo 1 && u.closable u.selSession then u.closeSession u.selSession none else u
    if bit wo 2 && (u.sess? u.selSession).any (fun x => x.st == .opened) then u.startReset u.selSession none else u
  | some (10, 0) => u.noteCredits
  | some (11, 0) => u.pump
  | some (14, 0) => if off then (NMap.keys u.pieces).foldl (fun s p => s.endAttach p) u else u
  | some (15, 0) =>
    let d := a % 0x1000000 / 0x80000
    let u := if on_ then u.enableRoot d else if off then u.disableRoot d else u
    (if bit new 2 != bit old 2 then u.setPowerOff d (bit new 2) else u).adminDrives
  | some (15, 0x1C) => let r := Res.drive (a % 0x1000000 / 0x80000)
    if (u.res r).sp > 0 then u.applyTop r else u
  | some (16, 0) =>
    if on_ then { u with xylem := { u.xylem with enabledAt := u.now, ratedAt := u.now, started := false } }
    else if off then { u with xylem := { u.xylem with started := false } } else u
  | some (18, 0x28) =>
    let u := if bit wo 0 then u.shaperWrite else u
    if bit wo 1 && u.shaperSel then u.shaperRead else u
  | some (19, 0) => if on_ then { u with crown := { u.crown with scrubAt := u.now } } else u
  | some (19, 0x208) =>
    let ep := u.reg 0x13000200
    let has := NMap.has u.crown.fwd ep.toNat
    let u := if bit wo 0 then u.writeFwd ep (s.reg 0x13000204) else u
    let u := if bit wo 1 then (if has then (u.dropFwd ep.toNat).fwdDone 0 else u.fwdDone 1) else u
    if bit wo 2 then u.fwdDone (if NMap.has u.crown.fwd ep.toNat then 0 else 1) else u
  | some (19, 0x31C) => if bit wo 0 then u.writePath (u.fld 0x13000300 11 0) u.stagedPath else u
  | some (20, 0) => if off then (u.emptyGates a).portOff (portPoints a) else if on_ then u.restartPoints a else u
  | some (21, 0x200008) => if u.ring.forced == some 2#16 && u.pith.take.isNone then u.forceHb none else u
  | some (21, 0x20000C) => u.joinChanged old new
  | some (22, 0) =>
    let u := if off then u.portOff [] else u
    if bits old 9 8 != bits new 9 8 then u.classFx a else u
  | some (22, 8) => if bit wo 30 && u.portOn 34 && !u.mmac.mdioBusy then u.mdioStart else u
  | some (23, 0x20) =>
    let u := if bit wo 0 then u.timeSet else u
    if bit wo 1 then u.timeStep else u
  | some (b, o) =>
    if b == 21 && o == 0 then (if off then u.portOff (portPoints a) else u)
    else if o == 0x1000 && bits old 31 30 != bits new 31 30 then u.classFx a
    else if o == 0xFFC then s.commits path a wo
    else u
  | none => u

/-- What a refused write makes the machine do besides chip.class_violation (R379). -/
def State.refusedFx (s : State) (path : Path) (a : Nat) : State :=
  match canon a with
  | some (5, 0xC) => s.rehearse path
  | some (13, 0) => s.raise0 7 1
  | some (15, 0) => s.raise0 (24 + a % 0x1000000 / 0x80000) 5
  | some (19, 0) => s.raise0 6 8
  | some (20, 0) => s.raise0 (12 + a % 0x1000000 / 0x200000) 0
  | some (20, 0x1000) => s.classRefused a
  | some (22, 0) => s.classRefused a
  | some (21, 0x200000) => s.raise0 1 17
  | some (21, 0x20000C) => s.raise0 1 16
  | _ => s

/-- Register file after a (masked) write. -/
def State.newRegs (s : State) (path : Path) (a : Nat) (data mask : W32) : Regs :=
  match s.wrStatus path a data mask with
  | 0 =>
    let u := { s with regs := s.plainRegs a data mask }
    let q := u.opRegs path a (data &&& mask &&& (regAt a).elim 0#32 (·.wo))
    if canon a == some (20, 0) && s.flag a 0 && !u.flag a 0 then q.emptyGates a else q
  | 3 => s.regs.violate a path 1
  | 4 => s.regs.violate a path 3
  | _ => s.regs

/-- One (masked) write by a path (R374, R379). -/
def State.write1 (path : Path) (a : Nat) (data mask : W32) (s : State) : State :=
  let r := s.newRegs path a data mask
  let t := match s.wrStatus path a data mask with
    | 0 =>
      match regAt a with
      | none => s
      | some d =>
        let plain := { s with regs := s.plainRegs a data mask }
        let u := if canon a == some (1, 0x10) || canon a == some (1, 0x24) then plain else { plain with regs := r }
        s.writeFx (if (canon a).any (fun (c : Nat × Nat) => c.2 == 0xFFC) then plain else u) path a (s.rwWord a d false)
          (s.written a d data mask) (data &&& mask &&& d.wo) (data &&& mask &&& d.w1c)
    | 3 => ({ s with regs := r }).raise0 0 0
    | 4 => ((({ s with regs := r }).refusedFx path a).raise0 0 0)
    | _ => s
  { t with regs := r }

end Sys2Proof.Machine
end

