-- ==== Sys2Proof/Machine/RegRows.lean ====
section
/-!
DEFINITION. The commands of the register bridge (spec/18): field writes, commit groups and their boundaries, reads with an
effect, Register Access frames, and the writes that other chapters name (spec/03 to spec/19).
-/

namespace Sys2Proof.Machine

/-- Do the blocks run at all, so that registers can be reached? -/
def State.alive (s : State) : Bool := s.seed.boot != .reset && s.seed.boot != .heldDead

/-- Is a path to the registers there (Table 18.2)? -/
def State.pathOpen (s : State) (path : Path) : Bool :=
  s.alive && (path == .frame || (s.pithServes && !s.inRecovery))

/-- A (masked) write as a command's whole effect, once it can pass the die links (R371). [DEDUCED, log entry 23] -/
def State.doWrite (s : State) (ok : Bool) (path : Path) (a : Nat) (data mask : W32) : Host.Outcome State Fault Refusal :=
  actR (s.alive && s.bridges path a && ok) (s.newRegs path a data mask) (s.write1 path a data mask) s

/-- A read as a command's whole effect: `readData` holds what it returned. [DEDUCED, log entry 23] -/
def State.doRead (s : State) (ok : Bool) (a : Nat) : Host.Outcome State Fault Refusal :=
  actR (s.alive && s.bridges .pith a && ok) (s.readRegs a) { s.read1 a with readData := s.readVal .pith a } s

/-- REGISTER_FIELD_WRITE (R379). -/
def execRegisterFieldWrite (path : Path) (addr data mask : W32) (s : State) : Host.Outcome State Fault Refusal :=
  s.doWrite (s.pathOpen path) path addr.toNat data mask

/-! ### Commits (R380) -/

/-- Bit `b` of a COMMIT register is written. [DEDUCED, log entry 23] -/
def State.doCommit (s : State) (ok : Bool) (a b : Nat) : Host.Outcome State Fault Refusal :=
  s.doWrite ok .pith a (w32 (2 ^ b)) (w32 (2 ^ b))

/-- COMMIT_APPLY (R381). A GATE group waits for GATE_LIST_SWAP. -/
def execCommitApply (addr bit : Nat) (s : State) : Host.Outcome State Fault Refusal :=
  match NMap.get? s.regs.snaps (addr * 8 + bit) with
  | none => act false s s
  | some x => actR (!isGate addr bit) (s.applyRegs addr bit x.path x.vals) (s.boundary addr bit x) s

/-- COMMIT register and bit of a sub-port's GATE group. -/
def gateCommit (p : Nat) : Nat × Nat := (portBase p + 0xFFC, portSub p)

/-- GATE_LIST_SWAP (R254): the first cycle start of the accepted list; its snapshot is in force. -/
def execGateListSwap (point : Nat) (s : State) : Host.Outcome State Fault Refusal :=
  match (s.port point).next with
  | none => act false s s
  | some (_, t) =>
    let c := gateCommit point
    let r := { s.regs with snaps := NMap.erase s.regs.snaps (c.1 * 8 + c.2) }
    let r := match NMap.get? s.regs.snaps (c.1 * 8 + c.2) with
      | some x => r.applyVals x.vals
      | none => r
    actR (linkPoint point && (s.tbOn || t ≤ s.tbNs)) r (s.gateSwap point) s

/-- XYLEM_COMMIT_TIMER. -/
def execXylemCommitTimer (s : State) : Host.Outcome State Fault Refusal := s.doCommit true 0x10000FFC 0
/-- XYLEM_COMMIT_RATE. -/
def execXylemCommitRate (s : State) : Host.Outcome State Fault Refusal := s.doCommit true 0x10000FFC 1
/-- BUD_COMMIT_FETCH. -/
def execBudCommitFetch (s : State) : Host.Outcome State Fault Refusal := s.doCommit true 0x09000FFC 0
/-- KNOT_COMMIT_LIMITS. -/
def execKnotCommitLimits (s : State) : Host.Outcome State Fault Refusal := s.doCommit true 0x08000FFC 0
/-- TWIG_COMMIT_STEAL. -/
def execTwigCommitSteal (engine : Nat) (s : State) : Host.Outcome State Fault Refusal :=
  s.doCommit (engineIndex engine) (twigBase engine + 0xFFC) 0
/-- HEARTWOOD_COMMIT_WB. -/
def execHeartwoodCommitWb (s : State) : Host.Outcome State Fault Refusal := s.doCommit true 0x07000FFC 0
/-- CAMBIUM_COMMIT_WATER (R140). -/
def execCambiumCommitWater (s : State) : Host.Outcome State Fault Refusal := s.doCommit true 0x06000FFC 0
/-- GROVE_COMMIT_LAG. -/
def execGroveCommitLag (s : State) : Host.Outcome State Fault Refusal := s.doCommit true 0x0B000FFC 0
/-- GROVE_COMMIT_ASSY. -/
def execGroveCommitAssy (s : State) : Host.Outcome State Fault Refusal := s.doCommit true 0x0B000FFC 1
/-- SAPWOOD_COMMIT_WATER. -/
def execSapwoodCommitWater (s : State) : Host.Outcome State Fault Refusal := s.doCommit true 0x0D000FFC 0
/-- PRUNER_COMMIT_THRESH. -/
def execPrunerCommitThresh (s : State) : Host.Outcome State Fault Refusal := s.doCommit true 0x0C000FFC 0
/-- COPPICE_COMMIT_LIMITS. -/
def execCoppiceCommitLimits (s : State) : Host.Outcome State Fault Refusal := s.doCommit true 0x0E000FFC 0
/-- CROWN_COMMIT_BUF (R225). -/
def execCrownCommitBuf (s : State) : Host.Outcome State Fault Refusal := s.doCommit true 0x13000FFC 0
/-- CROWN_COMMIT_ECN. -/
def execCrownCommitEcn (s : State) : Host.Outcome State Fault Refusal := s.doCommit true 0x13000FFC 1
/-- FMAC_COMMIT_GATE (R254): ports 0 to 7 are F0 to F7, 8 EAST, 9 WEST. -/
def execFmacCommitGate (port sub : Nat) (s : State) : Host.Outcome State Fault Refusal :=
  s.doCommit (port < 10 && (if port < 8 then sub < 4 else sub == 0)) (portBase (pointOf port 0) + 0xFFC) sub
/-- CANOPY_COMMIT_SCH (R281). -/
def execCanopyCommitSch (s : State) : Host.Outcome State Fault Refusal := s.doCommit true 0x12000FFC 0
/-- CANOPY_COMMIT_POLICE (R282). -/
def execCanopyCommitPolice (s : State) : Host.Outcome State Fault Refusal := s.doCommit true 0x12000FFC 1
/-- ROOTLET_COMMIT_IO. -/
def execRootletCommitIo (drive : Nat) (s : State) : Host.Outcome State Fault Refusal :=
  s.doCommit (driveIndex drive) (rootBase drive + 0xFFC) 0
/-- SAP_COMMIT_POLICY. -/
def execSapCommitPolicy (s : State) : Host.Outcome State Fault Refusal := s.doCommit true 0x02000FFC 0
/-- SAP_COMMIT_SAFETY. -/
def execSapCommitSafety (s : State) : Host.Outcome State Fault Refusal := s.doCommit true 0x02000FFC 1
/-- TALLY_COMMIT_FILTER (R404). -/
def execTallyCommitFilter (s : State) : Host.Outcome State Fault Refusal := s.doCommit true 0x04000FFC 0
/-- TALLY_COMMIT_SAMPLE (R403). -/
def execTallyCommitSample (s : State) : Host.Outcome State Fault Refusal := s.doCommit true 0x04000FFC 1

/-! ### Writes that other chapters name -/

/-- PORT_CLASS_WRITE (R245, R246). -/
def execPortClassWrite (point : Nat) (cls : BitVec 2) (s : State) : Host.Outcome State Fault Refusal :=
  let lo := if point == 34 then 8 else 30
  s.doWrite (arrivalPoint point) .pith (if point == 34 then 0x16000000 else subBase point) (w32 (cls.toNat * 2 ^ lo))
    (w32 (3 * 2 ^ lo))

/-- RING_JOIN_WRITE (R285, R293). -/
def execRingJoinWrite (joinE joinW : Bool) (s : State) : Host.Outcome State Fault Refusal :=
  s.doWrite true .pith 0x1520000C (w32 (b2n joinE + 2 * b2n joinW)) 3#32

/-- RESOURCE_PIN (R333): SAP_RES_CFG of the selected resource. -/
def execResourcePin (en : Bool) (sp : BitVec 2) (s : State) : Host.Outcome State Fault Refusal :=
  s.doWrite true .pith 0x02000024 (w32 (b2n en * 2 ^ 31 + sp.toNat)) 0x80000003#32

/-- DRIVE_POWER_OFF (R317): ROOTLET_CTRL.POWER_OFF. -/
def execDrivePowerOff (drive : Nat) (on : Bool) (s : State) : Host.Outcome State Fault Refusal :=
  s.doWrite (driveIndex drive) .pith (rootBase drive) (w32 (4 * b2n on)) 4#32

/-- ROOTLET_DISABLE (R315): ROOTLET_CTRL.ENABLE is cleared. -/
def execRootletDisable (drive : Nat) (s : State) : Host.Outcome State Fault Refusal :=
  s.doWrite (driveIndex drive) .pith (rootBase drive) 0#32 1#32

/-- ROOTLET_ENABLE (R315): ROOTLET_CTRL.ENABLE is set. -/
def execRootletEnable (drive : Nat) (s : State) : Host.Outcome State Fault Refusal :=
  s.doWrite (driveIndex drive) .pith (rootBase drive) 1#32 1#32

/-- WATCHDOG_KICK (R297): PITH_WDOG.KICK. -/
def execWatchdogKick (s : State) : Host.Outcome State Fault Refusal := s.doWrite s.pithServes .pith 0x05000008 1#32 1#32

/-- TAKEOVER (R300): PITH_OP.TAKEOVER. -/
def execTakeover (s : State) : Host.Outcome State Fault Refusal := s.doWrite true .pith 0x0500000C 1#32 1#32

/-- REHEARSE (R305): PITH_OP.REHEARSE. -/
def execRehearse (path : Path) (s : State) : Host.Outcome State Fault Refusal :=
  s.doWrite true path 0x0500000C 2#32 2#32

/-- EVENT_PEND_CLEAR (R391): EVT_PEND_LO and EVT_PEND_HI of a group. -/
def execEventPendClear (group : Nat) (ones : W64) (s : State) : Host.Outcome State Fault Refusal :=
  let a := 0x03001000 + 16 * group
  let t := (s.write1 .pith a (ones.setWidth 32) 0xFFFFFFFF#32).write1 .pith (a + 4) (w32 (ones.toNat / 2 ^ 32)) 0xFFFFFFFF#32
  actR (s.alive && s.bridges .pith a && group < 64) t.regs t s

/-- ENGINE_COUNTER_CLEAR (R399): CLEAR of TALLY_ENG_CFGn. -/
def execEngineCounterClear (n : Nat) (s : State) : Host.Outcome State Fault Refusal :=
  s.doWrite (n < 6) .pith (0x04000210 + 0x10 * n) 0x00800000#32 0x00800000#32

/-! ### Reads with an effect -/

/-- INDICATION_READ (R244): FMAC_IND or MMAC_IND. -/
def execIndicationRead (point : Nat) (s : State) : Host.Outcome State Fault Refusal :=
  s.doRead (arrivalPoint point) (if point == 34 then 0x16000120 else subBase point + 0x20)

/-- TXTS_READ (R259): TIME_TXTS_INFO. -/
def execTxtsRead (s : State) : Host.Outcome State Fault Refusal := s.doRead true 0x17000040

/-- RING_DATA_READ (R403): TALLY_RD_DATA. -/
def execRingDataRead (s : State) : Host.Outcome State Fault Refusal := s.doRead true 0x04000024

/-- LATCHED_PAIR_READ (R141, R203, R259, R384, R391): a _LO register. -/
def execLatchedPairRead (addr : Nat) (s : State) : Host.Outcome State Fault Refusal :=
  s.doRead (!(s.partners addr).isEmpty) addr

/-! ### Register Access frames (R373 to R375) -/

/-- Does the responder take a frame to this address, and from which address does it answer (R373)? -/
def State.raAddr (s : State) (dst : BitVec 48) : Option (BitVec 48) :=
  let own := s.portMac 34
  if s.inRecovery || own == 0#48 then
    if dst == recoveryMac || dst == 0xFFFFFFFFFFFF#48 then some recoveryMac else none
  else if dst == own then some own else none

/-- Is the request malformed (R375)? [DEDUCED, log entry 27] -/
def raMalformed (p : List Byte) : Bool :=
  let n := be p 1 1
  be p 0 1 / 16 != 1 || be p 0 1 % 16 != 1 || n == 0 || n > 64 || p.length < 8 + 16 * n

/-- One operation: the state after it, its STATUS and its DATA (Tables 18.3 and 18.4). -/
def State.raOp (s : State) (op a : Nat) (data mask : W32) : State × Nat × W32 :=
  match op with
  | 1 =>
    let st := s.rdStatus .frame a
    if st == 0 then (s.read1 a, 0, s.readVal .frame a) else (s, st, 0#32)
  | 2 =>
    let st := s.wrStatus .frame a data 0xFFFFFFFF#32
    let t := s.write1 .frame a data 0xFFFFFFFF#32
    (t, st, if st == 0 || st == 3 || st == 4 then t.readVal .frame a else 0#32)
  | 3 =>
    let st := s.wrStatus .frame a data mask
    let t := s.write1 .frame a data mask
    (t, st, if st == 0 || st == 3 || st == 4 then t.readVal .frame a else 0#32)
  | _ => (s, 6, 0#32)

/-- The operations from index `i`, `k` of them, in order; under STOP, those after a failed one are not executed.
 [DEDUCED, log entry 27] -/
def State.raOps (p : List Byte) (stop : Bool) : Nat → Nat → Bool → State → State × List Byte
  | 0, _, _, s => (s, [])
  | k + 1, i, failed, s =>
    let b := 8 + 16 * i
    let (t, st, d) :=
      if failed && stop then (s, 5, 0#32)
      else s.raOp (be p b 1) (be p (b + 4) 4) (w32 (be p (b + 8) 4)) (w32 (be p (b + 12) 4))
    let rest := State.raOps p stop k (i + 1) (failed || st != 0) t
    (rest.1, slice p b 1 ++ beBytes 1 st ++ beBytes 2 0 ++ slice p (b + 4) 4 ++ beBytes 4 d.toNat ++ slice p (b + 12) 4
      ++ rest.2)

/-- Can every operation of a request pass the die links (R371)? -/
def State.raPasses (s : State) (p : List Byte) : Bool :=
  s.flows 0 5 && (raMalformed p || (List.range (be p 1 1)).all fun i => s.bridges .frame (be p (12 + 16 * i) 4))

/-- A request is executed and answered, or discarded. -/
def State.raFrame (own src : BitVec 48) (vlan : Option (BitVec 16)) (p : List Byte) (s : State) : State :=
  if raMalformed p then (s.raise0 0 1).count 0 0 1
  else
    let n := be p 1 1
    let r := s.raOps p (be p 4 1 % 2 == 1) n 0 false
    let head := [0x12#8] ++ slice p 1 3 ++ slice p 4 1 ++ beBytes 3 0
    { r.1 with ra := { dstMac := src, srcMac := own, vlan := vlan, payload := head ++ r.2 } :: r.1.ra }

/-- REGISTER_ACCESS_FRAME (R373 to R375). [DEDUCED, log entry 27] -/
def execRegisterAccessFrame (dstMac srcMac : BitVec 48) (vlan : Option (BitVec 16)) (payload : List Byte) (s : State) :
    Host.Outcome State Fault Refusal :=
  match s.raAddr dstMac with
  | none => act false s s
  | some own =>
    let t := s.raFrame own srcMac vlan payload
    actR (s.alive && s.raPasses payload && s.portOn 34 && s.portClass 34 == 2) t.regs t s

end Sys2Proof.Machine
end

