-- ==== Sys2Proof/Machine/Pith.lean ====
section
/-!
DEFINITION. The commands of the Pith pairs (spec/13: R295 to R305; R378 for an interrupted Register Write).
-/

namespace Sys2Proof.Machine

/-! ### An interrupted Register Write (R378) -/

/-- The values of a Register Write's buffer, little-endian. -/
def wordsOf (n : Nat) (data : List Byte) : List W32 := (List.range n).map fun i => w32 (le data (4 * i) 4)

/-- Writes of a Register Write from index `i` on. -/
def State.writeFrom (a i : Nat) (l : List W32) (s : State) : State :=
  (l.zipIdx i).foldl (fun s p => s.write1 .admin (a + 4 * p.2) p.1 0xFFFFFFFF#32) s

/-- The bridge had completed `k` writes of the Register Write `tag` when the pair was fenced. -/
def State.cutWrite (cut : Option (Nat × Nat)) (s : State) : State :=
  match cut with
  | none => s
  | some (tag, k) =>
    match s.cmd? tag with
    | none => s
    | some c =>
      let n := bits c.cdw11 8 0
      if c.admin && c.opc == 0xC5 && c.stage == .accepted && !c.needTable && c.status.isNone && !bit c.cdw11 31 && n ≤ 256 && k < n
          && c.cdw10.toNat % 4 == 0 && inMap (c.cdw10.toNat + 4 * n - 4) then
        let vals := wordsOf n (c.pulledBytes c.dataIn)
        let s := (s.writeFrom c.cdw10.toNat 0 (vals.take k)).modCmd tag fun c => { c with stage := .running }
        { s with pith := { s.pith with cut := some { tag := tag, addr := c.cdw10.toNat, done := k, values := vals.drop k } } }
      else s

/-- The new pair makes the remaining writes. -/
def State.finishCut (s : State) : State :=
  match s.pith.cut with
  | none => s
  | some c => let s := s.writeFrom c.addr c.done c.values
              { s with pith := { s.pith with cut := none } }

/-- Does the active pair run? -/
def State.pairRuns (s : State) : Bool := s.pith.pair s.pith.activeB == .active

/-- LOCKSTEP_MISMATCH (R295). -/
def execLockstepMismatch (pairB : Bool) (cut : Option (Nat × Nat)) (s : State) :
    Host.Outcome State Fault Refusal :=
  let u := if pairB == s.pith.activeB then s.cutWrite cut else s
  actR (s.alive && (s.pith.pair pairB == .active || s.pith.pair pairB == .booting)) u.regs (u.mismatch pairB) s

/-- WATCHDOG_EXPIRY (R297). -/
def execWatchdogExpiry (cut : Option (Nat × Nat)) (s : State) : Host.Outcome State Fault Refusal :=
  actR (s.alive && s.pairRuns) (s.cutWrite cut).regs (s.cutWrite cut).watchdog s

/-- PITH_CHECKPOINT (R296). -/
def State.checkpointPith (s : State) : State :=
  let s := s.until (s.pith.ckptAt + s.fld 0x05000004 31 24 * 1000000)
  { s with pith := { s.pith with ckptAt := s.now } }

def execPithCheckpoint (s : State) : Host.Outcome State Fault Refusal := act (s.alive && s.pairRuns) s.checkpointPith s

/-- REARM (R301): PITH_OP.REARM, with the outcome of the self-test. -/
def execRearm (pass : Bool) (s : State) : Host.Outcome State Fault Refusal :=
  act (s.alive && !s.fencedPairs.isEmpty) (s.rearm pass) s

/-- REHEARSAL_BEGIN_DELAY_EXPIRY (R305). -/
def execRehearsalBeginDelayExpiry (s : State) : Host.Outcome State Fault Refusal :=
  act (s.alive && s.pairRuns && s.pith.rehearseAt.isSome) s.beginRehearsal s

/-! ### Phases of a takeover (Table 13.4) -/

/-- Is a takeover in a phase? -/
def State.takeIn (s : State) (p : TakePhase) : Bool := s.pith.take.any fun t => t.phase == p

/-- A phase ends: the next one begins, or the standby has failed. -/
def State.nextPhase (ok : Bool) (p : TakePhase) (s : State) : State :=
  if ok then { s with pith := { s.pith with take := s.pith.take.map fun t => { t with phase := p } } } else s.standbyFails

/-- STANDBY_WAKE_DONE (R298). -/
def execStandbyWakeDone (ok : Bool) (s : State) : Host.Outcome State Fault Refusal :=
  act (s.alive && s.takeIn .wake) (s.nextPhase ok .boot) s

/-- STANDBY_BOOT_DONE (R298). -/
def execStandbyBootDone (ok : Bool) (s : State) : Host.Outcome State Fault Refusal :=
  act (s.alive && s.takeIn .boot) (s.nextPhase ok .restore) s

/-- RING_HB_STATE.STATE as Pith writes it (Table 13.1). -/
def State.pithState (v : W32) (s : State) : State := s.write1 .pith 0x15200008 v 0xFFFFFFFF#32

/-- Resume: the remaining writes of a cut command, the held commands, STATE; an activation goes on to Bough 0. -/
def State.resumed (t : Takeover) (s : State) : State :=
  let s := s.finishCut.keepRegs s.finishCut.resume
  if t.cause == .activation then s.pithState 3#32 else if t.planned then s else s.pithState 1#32

def State.resumeAll (t : Takeover) (s : State) : State :=
  let s := s.resumed t
  if t.cause == .activation then s.startStep (s.pith.pending.getD 0) 0 else s

/-- STANDBY_RESTORE_DONE (R298, R300): a planned takeover waits until the old pair has completed what it holds. -/
def execStandbyRestoreDone (s : State) : Host.Outcome State Fault Refusal :=
  match s.pith.take with
  | none => act false s s
  | some t => actR (s.alive && t.phase == .restore && (!t.planned || s.pithHeld.isEmpty)) (s.resumed t).regs (s.resumeAll t) s

/-- BOOT_MS is over. -/
def State.takeTimeout (s : State) : State :=
  let s := s.until (s.pith.take.elim 0 (·.from_) + s.fld 0x05000004 23 16 * 1000000)
  s.standbyFails

/-- TAKEOVER_TIMEOUT (R299, R300). -/
def execTakeoverTimeout (s : State) : Host.Outcome State Fault Refusal := act (s.alive && s.pith.take.isSome) s.takeTimeout s

/-! ### Bough steps (R302, R303) -/

/-- BOUGH_VACATED (R303). -/
def execBoughVacated (bough : Nat) (s : State) : Host.Outcome State Fault Refusal :=
  act (boughIndex bough && s.stepIn bough 0 && s.boughEmpty bough) (s.vacated bough) s

/-- RELOAD_ABORT (R303): Vacate is not over in 30 ms. -/
def execReloadAbort (bough : Nat) (s : State) : Host.Outcome State Fault Refusal :=
  act (boughIndex bough && s.stepIn bough 0 && !s.boughEmpty bough) (s.stepAbort bough) s

/-- RELOAD_RETRY (R303). -/
def execReloadRetry (bough : Nat) (s : State) : Host.Outcome State Fault Refusal :=
  act (boughIndex bough && s.stepIn bough 2) (s.stepRetry bough) s

/-- A Bough is loaded; after B3 the new pair writes STATE 0x0001, and the pending firmware is the running one. -/
def State.ucodeMark (b : Nat) (s : State) : State :=
  if b < 3 then s
  else
    let slot := 1 - s.seed.slot
    let rev := le (s.flashBytes (slotBase slot) 24) 20 4
    let s := { s with seed := { s.seed with fwSlot := slot, fwRev := rev } }
    s.pithState 1#32

/-- MICROCODE_LOADED (R303). -/
def execMicrocodeLoaded (bough : Nat) (s : State) : Host.Outcome State Fault Refusal :=
  actR (boughIndex bough && s.stepIn bough 1) (s.ucodeMark bough).regs ((s.ucodeMark bough).loaded bough) s

end Sys2Proof.Machine
end

