-- ==== Sys2Proof/Machine/AdminOps.lean ====
section
/-!
DEFINITION. What admin commands share (spec/03: R80 to R87; spec/05: R115, R116, R429): how Pith and Bud take one up, the
bytes that they land at the host, log pages, Identify structures, features, and the namespace records on their way.
-/

namespace Sys2Proof.Machine

/-! ### Taking up a command -/

/-- An admin command that waits to be served by Pith or, for its own opcodes, by Bud (R80). -/
def State.adminAt (s : State) (tag opc : Nat) : Option Cmd :=
  (s.cmd? tag).filter fun c => c.admin && c.opc == opc && c.stage == .accepted && !c.needTable && c.status.isNone
    && (budOpcode opc || s.pithServes)

/-- The whole effect of an admin command, for the sub-operations that `sub` picks. -/
def State.serveAdmin (s : State) (tag opc : Nat) (sub : Cmd → Bool) (f : Cmd → State → State) :
    Host.Outcome State Fault Refusal :=
  match s.adminAt tag opc with
  | none => act false s s
  | some c => act (sub c) (f c s) s

/-- The same, where the effect writes registers: `r` is the register file after it; `way` says whether the die links let it
through (R8, R12). -/
def State.serveAdminR (s : State) (tag opc : Nat) (way : Cmd → Bool) (r : Cmd → Regs) (f : Cmd → State → State) :
    Host.Outcome State Fault Refusal :=
  match s.adminAt tag opc with
  | none => act false s s
  | some c => actR (way c) (r c) (f c s) s

/-- Land bytes in the buffer that DPTR names; the command ends when the last packet is answered (R49).
 [DEDUCED, log entry 46] -/
def State.pushAdmin (tag : Nat) (bytes : List Byte) (s : State) : State :=
  if bytes.isEmpty then s.finishOk tag
  else
    let s := s.modCmd tag fun c => { c with pulled := [(0, bytes)], handed := true, stage := .released }
    match s.cmd? tag with
    | none => s
    | some c =>
      ((packets c 0 bytes.length).foldl (fun (x : Nat × State) f =>
        let last := x.1 + f.len == bytes.length
        let d := x.2.dataDesc tag c f x.1 (some (slice bytes x.1 f.len)) none
        (x.1 + f.len, x.2.request { d with ar := last, last := last })) (0, s)).2

/-- Bytes that the spec leaves open, a fresh choice each time (log entry 2). [DESIGN CHOICE, log entry 2] -/
def State.openBytes (s : State) (code n : Nat) : List Byte × State :=
  (fitBytes n (Config.freePage (code + 65536 * s.fresh) n), { s with fresh := s.fresh + 1 })

/-! ### Text -/

/-- The `k` lowest hexadecimal digits of a number, most significant first. -/
def hexText (k n : Nat) : List Byte :=
  (List.range k).map fun i =>
    let d := n / 16 ^ (k - 1 - i) % 16
    BitVec.ofNat 8 (if d < 10 then 48 + d else 55 + d)

/-- A text field padded with spaces. -/
def textField (k : Nat) (l : List Byte) : List Byte := (l ++ List.replicate k 32#8).take k

/-- Put fields at their offsets into a structure of zero bytes. -/
def layout (n : Nat) (fs : List (Nat × List Byte)) : List Byte :=
  fs.foldl (fun l f => l.take f.1 ++ f.2 ++ l.drop (f.1 + f.2.length)) (List.replicate n 0#8)

/-! ### Log pages (Table 3.11) -/

/-- One 64-byte entry of the Error Information page. [DESIGN CHOICE, log entry 8] -/
def errorEntry (count : Nat) (e : Nat × Nat × Nat × Nat) : List Byte :=
  fitBytes 64 (leBytes 8 count ++ leBytes 2 e.2.1 ++ leBytes 2 e.1 ++ leBytes 2 (e.2.2.2 * 2 + e.2.2.1 * 512))

/-- Error Information of a session: newest first, numbered from the errors recorded since open.
 [DESIGN CHOICE, log entry 8] -/
def Session.errorPage (x : Session) : List Byte :=
  fitBytes 4096 ((x.errors.zipIdx).flatMap fun p => errorEntry (x.errTotal - p.2) p.1)

/-- SMART / Health: the warning of R137 and the composite temperature; the rest is open. -/
def State.smartPage (s : State) : List Byte × State :=
  let (b, s) := s.openBytes 2 512
  let warn := if s.heart.ns.any fun p => p.2.notReady then 8 else 0
  (leBytes 1 warn ++ leBytes 2 (s.tcase + 273) ++ b.drop 3, s)

/-- Firmware Slot Information: the running slot, the slot of the next start, and the revisions of both. -/
def State.firmwarePage (s : State) : List Byte :=
  let next := s.dir.elim 0 (·.2.next)
  let frs : Nat → List Byte := fun i => (s.slotImage i).elim (List.replicate 8 0#8) fun img => hexText 8 (imgFwRev img)
  layout 512 [(0, leBytes 1 (s.seed.fwSlot + 1 + (next + 1) * 16)), (8, frs 0), (16, frs 1)]

/-- Changed Namespace List. -/
def Session.changedPage (x : Session) : List Byte := fitBytes 4096 ((x.changedNs.take 1024).flatMap (leBytes 4))

/-- Commands Supported and Effects: bit 0 of each opcode served; its other bits are open. -/
def State.effectsPage (s : State) : List Byte × State :=
  let (b, s) := s.openBytes 5 2048
  let word (ok : Bool) (i : Nat) : List Byte :=
    if ok then leBytes 4 (le b i 4 / 2 * 2 + 1) else leBytes 4 0
  let acs := (List.range 256).flatMap fun o => word (adminOpcode o) (4 * o)
  let iocs := (List.range 256).flatMap fun o => word (ioOpcode o) (1024 + 4 * o)
  (fitBytes 4096 (acs ++ iocs), s)

/-- Queue Status of a session: 16 bytes per queue pair. -/
def State.queuePage (s : State) (x : Session) : List Byte :=
  (rangeFrom x.qpBase x.qpCount).flatMap fun q =>
    let y := (s.qp? q).getD { sid := 0 }
    fitBytes 16 (leBytes 2 q ++ leBytes 1 y.st.code ++ leBytes 1 y.cause ++ leBytes 2 y.sqHead ++ leBytes 2 y.cqTail
      ++ leBytes 2 y.credits)

/-- Lost Data Ranges (Table 7.4). -/
def State.lostPage (s : State) : List Byte :=
  let ent : LostEntry → List Byte := fun e =>
    leBytes 4 e.nsid ++ leBytes 6 e.slba ++ leBytes 4 e.nlb ++ leBytes 1 e.cause ++ leBytes 1 e.grove ++ leBytes 4 e.seg
      ++ leBytes 4 0 ++ leBytes 8 e.time
  fitBytes 32752 (leBytes 4 s.sapw.lost.length ++ leBytes 8 s.sapw.lostTotal ++ leBytes 4 0 ++ s.sapw.lost.flatMap ent)

/-- Host Event Log (Table 19.3). -/
def HostLog.page (l : HostLog) : List Byte :=
  let ent : HostEntry → List Byte := fun e =>
    leBytes 8 e.time ++ leBytes 2 e.source ++ leBytes 1 e.count ++ leBytes 1 e.scope ++ leBytes 4 e.detail.toNat
  fitBytes 4112 (leBytes 4 l.entries.length ++ leBytes 8 l.total ++ leBytes 4 0 ++ l.entries.flatMap ent)

/-- The bytes of a log page, for a session; none where the page is not served (R86). [PRESUMED, log entry 44] -/
def State.logPage (s : State) (lid sid : Nat) (x : Session) : Option (List Byte × State) :=
  match lid with
  | 0x01 => some (x.errorPage, s)
  | 0x02 => some s.smartPage
  | 0x03 => some (s.firmwarePage, s)
  | 0x04 => some (x.changedPage, s)
  | 0x05 => some s.effectsPage
  | 0xC0 => some (s.queuePage x, s)
  | 0xC1 => some (s.openBytes 0xC1 4096)
  | 0xC2 => some (s.lostPage, s)
  | 0xC3 => some ((NMap.getD s.bud.hostLog sid {}).page, s)
  | _ => none

/-- A page is read with RAE 0: asynchronous events may name it again (R395); the Changed Namespace List is cleared.
 [DEDUCED, log entry 77] -/
def State.pageRead (lid sid : Nat) (s : State) : State :=
  let s := s.modSess sid fun x =>
    { x with namedPages := without x.namedPages lid, changedNs := if lid == 4 then [] else x.changedNs }
  State.tryAer sid s

/-- GET_LOG_PAGE (R86). -/
def State.getLog (tag : Nat) (c : Cmd) (s : State) : State :=
  match s.sess? c.sid with
  | none => s
  | some x =>
    let lid := bits c.cdw10 7 0
    let off := c.cdw12.toNat + c.cdw13.toNat * 2 ^ 32
    match s.logPage lid c.sid x with
    | none => s.fail tag 1 9
    | some (page, t) =>
      if off > page.length then s.fail tag 0 2
      else
        let t := t.pushAdmin tag (slice page off c.adminLen)
        if bit c.cdw10 15 then t else t.pageRead lid c.sid

/-! ### Identify (R85, Table 3.10) -/

/-- Stripe data in blocks less one. -/
def State.stripeLess1 (s : State) (g : Nat) : Nat := ((s.grove? g).elim 0 Grove.w) - 1

/-- The Identify Controller structure of a session. [PRESUMED, log entry 44] -/
def State.idController (s : State) (sid : Nat) (x : Session) : List Byte :=
  let vid := s.reg 0x00000010
  let maxcmd := (s.qp? x.qpBase).elim 0 (·.sqSize)
  layout 4096
    [(0, leBytes 2 (bits vid 15 0)), (2, leBytes 2 (bits vid 31 16)), (4, textField 20 (hexText 16 Config.chipSerial.toNat)),
     (24, textField 40 (asciiBytes "EV9624")), (64, textField 8 (hexText 8 s.seed.fwRev)), (77, leBytes 1 12),
     (78, leBytes 2 (sid + 1)), (80, leBytes 4 0x20000), (96, leBytes 4 4), (256, leBytes 2 12), (258, leBytes 1 3),
     (259, leBytes 1 3), (260, leBytes 1 4), (261, leBytes 1 2), (320, leBytes 2 1), (512, leBytes 1 0x66),
     (513, leBytes 1 0x44), (514, leBytes 2 maxcmd), (516, leBytes 4 4096), (520, leBytes 2 13)]

/-- The Identify Namespace structure. [PRESUMED, log entry 44] -/
def State.idNamespace (s : State) (nsid : Nat) (n : Namespace) : List Byte :=
  let w := s.stripeLess1 n.grove
  layout 4096
    [(0, leBytes 8 n.nsze), (8, leBytes 8 n.ncap), (16, leBytes 8 (s.nuse nsid)), (24, leBytes 1 18), (25, leBytes 1 1),
     (26, leBytes 1 (if n.flbas == 1 then 0x11 else 0)), (28, leBytes 1 1), (29, leBytes 1 n.dps), (34, leBytes 2 255),
     (36, leBytes 2 255), (64, leBytes 2 w), (66, leBytes 2 w), (72, leBytes 2 w), (128, leBytes 4 (12 * 65536)),
     (132, leBytes 4 (16 + 12 * 65536))]

/-- The NVM-specific namespace structure (CNS 0x05): 64-bit guard format, 48-bit reference tag. -/
def idNvmNamespace : List Byte := layout 4096 [(12, leBytes 4 256), (16, leBytes 4 256)]

/-- A list of NSIDs above one. -/
def nsidList (l : List Nat) (above : Nat) : List Byte :=
  fitBytes 4096 (((l.filter (above < ·)).take 1024).flatMap (leBytes 4))

/-- A controller list from one CNTLID on. -/
def cntlList (sids : List Nat) (low : Nat) : List Byte :=
  let l := ((sids.map (· + 1)).filter (low ≤ ·)).take 2047
  fitBytes 4096 (leBytes 2 l.length ++ l.flatMap (leBytes 2))

/-- An Identify structure; none where CNS is not served. [PRESUMED, log entry 44] -/
def State.identifyData (s : State) (c : Cmd) (x : Session) : Option (List Byte) :=
  let zero : List Byte := List.replicate 4096 0#8
  let csi0 := bits c.cdw11 31 24 == 0
  let ns := NMap.get? s.heart.ns c.nsid
  let mine := ns.filter fun n => n.attached.contains c.sid
  let low := bits c.cdw10 31 16
  match bits c.cdw10 7 0 with
  | 0x00 => some (mine.elim zero fun n => s.idNamespace c.nsid n)
  | 0x01 => some (s.idController c.sid x)
  | 0x02 => some (nsidList ((s.heart.ns.filter fun p => p.2.attached.contains c.sid).map (·.1)) c.nsid)
  | 0x03 => some zero
  | 0x05 => if csi0 then some (if mine.isSome then idNvmNamespace else zero) else none
  | 0x06 => if csi0 then some zero else none
  | 0x10 => some (nsidList (NMap.keys s.heart.ns) c.nsid)
  | 0x11 => some (ns.elim zero fun n => s.idNamespace c.nsid n)
  | 0x12 => some (cntlList (ns.elim [] (·.attached)) low)
  | 0x13 => some (cntlList ((s.bud.sess.filter fun p => p.2.st != .opening).map (·.1)) low)
  | _ => none

/-- IDENTIFY (R85). -/
def State.identify (tag : Nat) (c : Cmd) (s : State) : State :=
  match s.sess? c.sid with
  | none => s
  | some x =>
    match s.identifyData c x with
    | none => s.fail tag 0 2
    | some l => s.pushAdmin tag l

/-! ### Abort and Asynchronous Event Request (R83, R109, R395) -/

/-- Can a command still be aborted: not given to an engine, not begun by Pith? R83 speaks of engines only: an admin command that Pith
has begun runs on. [DEDUCED, log entry 48] -/
def Cmd.abortable (c : Cmd) : Bool :=
  c.status.isNone && (c.stage == .accepted || c.stage == .ledger || c.stage == .ready
    || (c.admin && c.opc == 0x0C && c.stage == .running))

/-- ABORT (R77, R83, R109). [DEDUCED, log entry 48] -/
def State.abortCmd (tag : Nat) (c : Cmd) (s : State) : State :=
  let q := bits c.cdw10 15 0
  let before := s.bud.cmds.filter fun p => p.2.sid == c.sid && p.2.admin && p.2.opc == 8 && p.2.status.isNone && p.2.order < c.order
  let target := s.bud.cmds.find? fun p => p.1 != tag && p.2.sid == c.sid && p.2.qpid == q && p.2.cid == bits c.cdw10 31 16
    && p.2.abortable
  if before.length ≥ 4 then s.fail tag 1 3
  else if (s.qp? q).any fun y => y.sid == c.sid && y.st == .error then s.fail tag 7 0x85
  else match target with
    | some (t, _) => ((s.modCmd tag fun c => { c with after := some t }).fail t 0 7).finishOk tag
    | none => s.finish tag { sct := 0, sc := 0, dw0 := 1#32 }

/-- ASYNCHRONOUS_EVENT_REQUEST (R83, R395). -/
def State.aer (tag : Nat) (c : Cmd) (s : State) : State :=
  if (s.aers c.sid).length ≥ 4 then s.fail tag 1 5
  else State.tryAer c.sid (s.begun tag .running)

/-! ### Features (R87, Table 3.12) -/

/-- Parity Lag sets GROVE_LAG.LAG_EN and commits group LAG (R165). -/
def State.setLag (on_ : Bool) (s : State) : State :=
  let s := s.write1 .pith 0x0B000004 (w32 (b2n on_ * 2 ^ 31)) 0x80000000#32
  s.boundary 0x0B000FFC 0 { path := .pith, vals := s.regs.snapshot 0x0B000FFC 0 }

/-- Set a feature of the session or the station; none where the FID or its value is not taken.
 [DEDUCED, log entry 45] -/
def State.setFeature (s : State) (c : Cmd) : Option State :=
  let v := c.cdw11
  let n := v.toNat
  match bits c.cdw10 7 0 with
  | 0x0B => some (s.modSess c.sid fun x => { x with aec := v &&& 0x80000300#32 })
  | 0x0F =>
    if n == 0 || (100 ≤ n && n ≤ 3600000) then some (s.modSess c.sid fun x => { x with kato := ceilDiv n 100 * 100 }) else none
  | 0xC0 => some (s.modSess c.sid fun x => { x with latency := some (min n 5000000) }).checkTols
  | 0xC1 => some ((s.writeSessShaper false (4 * c.sid) n c.cdw12.toNat).writeSessShaper false (4 * c.sid + 2) n c.cdw12.toNat)
  | 0xC2 => some (s.modSess c.sid fun x => { x with hardFlush := bit v 0 }).checkFlushes
  | 0xC3 => some (s.setLag (bit v 0))
  | _ => none

/-- A feature's value (DW0, DW1): the current one, or the default. [DEDUCED, log entry 45] -/
def State.getFeature (s : State) (c : Cmd) (x : Session) (default_ : Bool) : Option (W32 × W32) :=
  let q := x.qpCount - 1
  let qos := NMap.getD s.canopy.sess (4 * c.sid) { rate := 0, burst := 0 }
  match bits c.cdw10 7 0 with
  | 0x07 => some (w32 (q + q * 65536), 0#32)
  | 0x0B => some (if default_ then 0x80000300#32 else x.aec, 0#32)
  | 0x0F => some (w32 (if default_ then 0 else x.kato), 0#32)
  | 0xC0 => some (w32 (if default_ then s.fld 0x0900000C 22 0 else s.tolerance x), 0#32)
  | 0xC1 => some (if default_ then (0#32, 0#32) else (w32 qos.rate, w32 qos.burst))
  | 0xC2 => some (w32 (b2n (!default_ && x.hardFlush)), 0#32)
  | 0xC3 => some (w32 (b2n (default_ || s.lagOn)), 0#32)
  | _ => none

/-- GET_FEATURES (R87). -/
def State.getFeat (tag : Nat) (c : Cmd) (s : State) : State :=
  let sel := bits c.cdw10 10 8
  match s.sess? c.sid with
  | none => s
  | some x =>
    if sel ≥ 2 then s.fail tag 0 2
    else match s.getFeature c x (sel == 1) with
      | none => s.fail tag 0 2
      | some (a, b) => s.finish tag { sct := 0, sc := 0, dw0 := a, dw1 := b }

/-! ### Namespaces (R115, R116, R429) -/

/-- Sum of NCAP over the namespaces of a grove, those on their way among them. -/
def State.groveNcap (s : State) (g : Nat) : Nat :=
  ((s.heart.ns.filter fun p => p.2.grove == g).map fun p => p.2.ncap).sum
  + ((s.nsRecords.filter fun r => r.2.1 == 0 && !NMap.has s.heart.ns r.1).map fun r => (r.2.2.filter fun n => n.grove == g).elim 0 (·.ncap)).sum

/-- NSIDs that no namespace has, or is about to have, or had until a delete that no CHECKPOINT covers yet (R116). -/
def State.freeNsids (s : State) : List Nat :=
  (rangeFrom 1 4096).filter fun n => !NMap.has s.heart.ns n && !(s.heart.gone.any fun p => p.1 == n) && !(s.nsRecords.any fun r => r.1 == n)

/-- The namespace that a create asks for: NSZE, NCAP, FLBAS, DPS and the grove of its 4,096-byte buffer. -/
def nsOf (data : List Byte) : Namespace :=
  { grove := le data 384 2, nsze := le data 0 8, ncap := le data 8 8, flbas := le data 26 1, dps := le data 29 1 }

/-- Are the fields of a namespace to be created in range? -/
def Namespace.ok (n : Namespace) : Bool := n.nsze ≤ 2 ^ 40 && n.ncap ≤ n.nsze && n.flbas ≤ 1 && n.dps == n.flbas

/-- NAMESPACE_CREATE (R115). -/
def State.nsCreate (tag : Nat) (data : List Byte) (c : Cmd) (s : State) : State :=
  let n := nsOf data
  if bits c.cdw10 3 0 != 0 || !n.ok then s.fail tag 0 2
  else match s.grove? n.grove with
    | none => s.fail tag 0 2
    | some g =>
      if s.groveNcap n.grove + n.ncap > g.usable then s.fail tag 1 0x15
      else
        let ids := s.freeNsids
        let (k, s) := s.draw ids.length
        match ids[k]? with
        | none => s.fail tag 1 0x16
        | some id =>
          (s.modCmd tag fun c => { c with nsid := id, stage := .running }).append n.grove id (.nsRecord 0 (some n)) (.admin tag)

/-- Each of the sessions notes a namespace as changed. -/
def State.noteChanged (nsid : Nat) (sids : List Nat) (s : State) : State :=
  sids.foldl (fun s i => s.modSess i fun x => { x with changedNs := insertAsc nsid x.changedNs }) s

/-- NAMESPACE_DELETE (R116): detached from every session at once. [DEDUCED, log entry 51] -/
def State.nsDelete (tag : Nat) (c : Cmd) (s : State) : State :=
  match (NMap.get? s.heart.ns c.nsid).filter fun n => !n.deleting with
  | none => s.fail tag 0 0x0B
  | some n =>
    let s := { s with heart := { s.heart with ns := NMap.set s.heart.ns c.nsid { n with attached := [], deleting := true, was := n.attached } } }
    (s.noteChanged c.nsid n.attached).begun tag .running

/-- Does no command of the namespace fetched before the detach remain (R116)? -/
def State.nsIdle (s : State) (nsid : Nat) : Bool := !(s.bud.cmds.any fun p => !p.2.admin && p.2.nsid == nsid && !p.2.posted)

/-- May the NAMESPACE record of a delete be written? -/
def State.deleteDue (s : State) (nsid : Nat) : Bool :=
  (NMap.get? s.heart.ns nsid).any (·.deleting) && s.nsIdle nsid && !(s.nsRecords.any fun r => r.1 == nsid && r.2.1 == 1)

/-- NAMESPACE_DELETE_RECORD (R116). -/
def State.deleteRecord (nsid : Nat) (s : State) : State :=
  let who := s.bud.cmds.find? fun p => p.2.admin && p.2.opc == 0x0D && bits p.2.cdw10 3 0 == 1 && p.2.nsid == nsid
    && p.2.stage == .running && p.2.status.isNone
  s.append ((NMap.get? s.heart.ns nsid).elim 0 (·.grove)) nsid (.nsRecord 1 (NMap.get? s.heart.ns nsid)) (who.elim .none fun p => .admin p.1)

/-- Session IDs of a controller list; none where it is malformed. -/
def cntlIds (data : List Byte) : Option (List Nat) :=
  let n := le data 0 2
  let ids := (List.range n).map fun i => le data (2 + 2 * i) 2
  if 1 ≤ n && n ≤ 2047 && ids.all fun i => 1 ≤ i && i ≤ 4096 then some (ids.map (· - 1)) else none

/-- NAMESPACE_ATTACH and NAMESPACE_DETACH (R429): the whole new set goes into a record. [DEDUCED, log entry 51] -/
def State.nsAttach (tag : Nat) (data : List Byte) (c : Cmd) (s : State) : State :=
  let attach := bits c.cdw10 3 0 == 0
  let live := (NMap.get? s.heart.ns c.nsid).any fun n => !n.deleting
  match (s.nsNewest c.nsid).filter (fun _ => live), cntlIds data with
  | none, _ => s.fail tag 0 0x0B
  | some _, none => s.fail tag 1 0x1C
  | some n, some ids =>
    if bits c.cdw10 3 0 > 1 then s.fail tag 0 2
    else if attach && ids.any n.attached.contains then s.fail tag 1 0x18
    else if !attach && ids.any (fun i => !n.attached.contains i) then s.fail tag 1 0x1A
    else
      let set := if attach then ids.foldl (fun l i => insertAsc i l) n.attached else n.attached.filter fun i => !ids.contains i
      (s.begun tag .running).append n.grove c.nsid (.nsRecord 3 (some { n with attached := set })) (.admin tag)

end Sys2Proof.Machine
end

