-- ==== Sys2Proof/Machine/FlashOps.lean ====
section
/-!
DEFINITION. Writing the flash outside recovery (spec/16: R359, R360; spec/03: R82; spec/13: R302): the downloaded image, the
image that Save Configuration builds, and the end of a write.
-/

namespace Sys2Proof.Machine

/-! ### Firmware Image Download and Commit (R80, R82) -/

/-- The downloaded image: the parts at their offsets, 0xFF where none was sent. [DEDUCED, log entry 52] -/
def Pith.imageBytes (p : Pith) : List Byte :=
  let len := p.download.foldl (fun n x => max n (x.1 + x.2.length)) 0
  p.download.foldl (fun l x => l.take x.1 ++ x.2 ++ l.drop (x.1 + x.2.length)) (List.replicate len 0xFF#8)

/-- FIRMWARE_IMAGE_DOWNLOAD: OFST counts 4-byte words. -/
def State.download (tag : Nat) (data : List Byte) (c : Cmd) (s : State) : State :=
  let s := { s with pith := { s.pith with
    download := NMap.set s.pith.download (c.cdw11.toNat * 4) (fitBytes c.adminLen data) } }
  s.finishOk tag

/-- CA and FS of a Firmware Commit. -/
def Cmd.ca (c : Cmd) : Nat := bits c.cdw10 5 3
def Cmd.fs (c : Cmd) : Nat := bits c.cdw10 2 0

/-- Begin a flash write for a command (R359): one at a time. -/
def State.startWrite (tag slot ca : Nat) (img : List Byte) (s : State) : State :=
  ({ s with seed := { s.seed with write := some (tag, slot, ca), image := img } }).begun tag .placed

/-- Firmware Commit: any other CA, a slot that is none, or the slot that the device started from is refused.
 [DEDUCED, log entry 52] -/
def State.commitFw (tag : Nat) (c : Cmd) (s : State) : State :=
  if c.ca > 3 then s.fail tag 1 7
  else if c.fs != 1 && c.fs != 2 then s.fail tag 1 6
  else
    let slot := c.fs - 1
    if c.ca != 2 && slot == s.seed.slot then s.fail tag 1 6
    else s.startWrite tag slot c.ca (if c.ca == 2 then [] else s.pith.imageBytes)

/-! ### Save Configuration (R360) -/

/-- A SET record for what a register holds beyond the merged image, in its RW fields. [DEDUCED, log entry 53] -/
def State.savedSet (s : State) (merged : NMap W32) (a : Nat) : Option ImgRec :=
  match regAt a with
  | none => none
  | some d =>
    let mask := (s.reg a ^^^ NMap.getD merged a (resetOf a)) &&& d.rw
    if mask == 0#32 || a ≥ 2 ^ 32 || s.home? a != some a || blockOf a == 1 || blockOf a == 26 then none
    else some { kind := 1, addr := a, mask := mask, value := s.reg a &&& mask }

/-- A SEQ record that writes a whole register, but for RO fields: a record whose mask names one is skipped (R356).
 [DEDUCED, log entry 36] -/
def seqRec (a : Nat) (v : W32) : ImgRec := { kind := 2, addr := a, mask := (regAt a).elim 0xFFFFFFFF#32 fun d => ~~~d.ro, value := v }

/-- SEQ records of a static forwarding entry, a path record, a shaper and a session: their window, then its operation. -/
def fwdSeq (ep : Nat) (e : Fwd) : List ImgRec :=
  [seqRec 0x13000200 (w32 ep), seqRec 0x13000204 e.word, seqRec 0x13000208 1#32]

def pathSeq (n : Nat) (r : PathRec) : List ImgRec :=
  let hi := w32 (place (b2n r.v6) 29 1 + place (b2n r.tagged) 28 1 + place r.vid.toNat 16 12 + r.mac.toNat / 2 ^ 32)
  [seqRec 0x13000300 (w32 n), seqRec 0x13000304 (w32 r.mac.toNat), seqRec 0x13000308 hi]
    ++ (List.range 4).map (fun i => seqRec (0x1300030C + 4 * i) (w32 (r.ip.toNat / 2 ^ (96 - 32 * i))))
    ++ [seqRec 0x1300031C 1#32]

def shaperSeq (ns : Bool) (i : Nat) (x : Shaper) : List ImgRec :=
  [seqRec 0x12000020 (w32 (b2n ns * 2 ^ 31 + i)), seqRec 0x12000024 (w32 (x.rate * 65536 + x.burst)), seqRec 0x12000028 1#32]

def sessSeq (i : Nat) (x : Session) : List ImgRec :=
  [seqRec 0x09000100 (w32 i), seqRec 0x09000104 x.hostEp,
   seqRec 0x09000108 (w32 (leNat (x.ports.map portByte))),
   seqRec 0x0900010C (w32 (x.qpBase + x.qpCount * 65536 + b2n x.priv * 2 ^ 31)), seqRec 0x09000110 x.qcbHandle,
   seqRec 0x09000114 (w32 x.qcbGen.toNat), seqRec 0x09000118 (w32 x.qcbOff.toNat),
   seqRec 0x0900011C (w32 (x.qcbOff.toNat / 2 ^ 32)), seqRec 0x09000120 1#32]

/-- Every SEQ record that Save Configuration writes. [DEDUCED, log entry 53] -/
def State.savedSeq (s : State) : List ImgRec :=
  let learned := (s.crown.fwd.filter fun p => p.2.learned).map fun p => p.2.path
  (s.crown.paths.filter fun p => !learned.contains p.1).flatMap (fun p => pathSeq p.1 p.2)
    ++ (s.crown.fwd.filter fun p => !p.2.learned).flatMap (fun p => fwdSeq p.1 p.2)
    ++ (s.canopy.sess.filter fun p => p.2.window).flatMap (fun p => shaperSeq false p.1 p.2)
    ++ (s.canopy.ns.filter fun p => p.2.window).flatMap (fun p => shaperSeq true p.1 p.2)
    ++ (s.bud.sess.filter fun p => p.2.st == .opened || p.2.st == .resetting).flatMap (fun p => sessSeq p.1 p.2)

/-- The bytes of a record. -/
def ImgRec.bytes (r : ImgRec) : List Byte :=
  leBytes 1 r.kind ++ leBytes 3 0 ++ leBytes 4 r.addr ++ leBytes 4 r.mask.toNat ++ leBytes 4 r.value.toNat

/-- The bytes of an overlay. -/
def overlayBytes (index flags : Nat) (recs : List ImgRec) : List Byte :=
  let body := recs.flatMap ImgRec.bytes
  let head := leBytes 2 0x4F56 ++ leBytes 1 index ++ leBytes 1 flags ++ leBytes 4 recs.length
    ++ leBytes 4 (16 + body.length)
  head ++ leBytes 4 (Config.crc32c (head ++ leBytes 4 0 ++ body)).toNat ++ body

/-- Overwrite bytes of an image. -/
def patch (l : List Byte) (i : Nat) (b : List Byte) : List Byte := l.take i ++ b ++ l.drop (i + b.length)

/-- The running image without its SAVED overlays. -/
def dropSaved (img : List Byte) : List Byte :=
  (List.range 16).foldl (fun l i =>
    let off := le l (84 + 4 * i) 4
    if off != 0 && (overlayAt l off).saved then patch l (84 + 4 * i) (leBytes 4 0) else l) img

/-- First byte past the parts that an image names. -/
def imgEnd (img : List Byte) : Nat :=
  let part : Nat → Nat := fun o => le img o 4 + le img (o + 4) 4
  let ovl := (ovlOffs img).map fun o => o + le img (o + 8) 4
  ovl.foldl max (max 256 (max (part 24) (max (part 32) (part 40))))

/-- The image that Save Configuration builds from the running one, signed under the image key.
 [DEDUCED, log entry 53] -/
def State.saveImage (s : State) (key : BitVec 256) (run : List Byte) (ctr : Nat) : List Byte :=
  let img := dropSaved run
  let merged := mergeSets (recordsOf img (s.seed.straps.toNat % 16))
  let keys := (NMap.keys merged).foldl (fun l a => insertAsc a l) (NMap.keys s.regs.val)
  let recs := keys.filterMap (s.savedSet merged) ++ s.savedSeq
  let off := imgEnd img
  let body := img.take off ++ overlayBytes 15 3 recs
  let len := ceilDiv body.length 4096 * 4096
  let body := fitBytes len body
  let body := patch body (84 + 60) (leBytes 4 off)
  let body := patch body 48 (leBytes 1 (ovlOffs body).length)
  let serial := 2 ^ 63 + ctr % 2 ^ 63
  let body := patch (patch body 8 (leBytes 8 serial)) 16 (leBytes 4 len)
  patch body 240 (beBytes 16 (imageTag key body serial).toNat)

/-- SAVE_CONFIGURATION: refused once a Firmware Commit has written or marked the other slot (R360).
 [DEDUCED, log entry 53] -/
def State.saveConfig (tag : Nat) (s : State) : State :=
  if s.seed.dirtySlot then s.fail tag 0 0x0C
  else match s.slotImage s.seed.slot, s.media.imageKey with
    | some run, some key =>
      let ctr := s.dir.elim 0 (·.2.saveCtr)
      s.startWrite tag (1 - s.seed.slot) 0xF (s.saveImage key run ctr)
    | _, _ => s.fail tag 0 6

/-! ### The end of a write (R359) -/

/-- Erase the slot and program an image. [DEDUCED, log entry 30] -/
def State.programSlot (slot : Nat) (img : List Byte) (s : State) : State :=
  let base := slotBase slot
  let m := s.media.flash.filter fun p => p.1 < base || base + slotSize ≤ p.1
  { s with media := { s.media with flash := putFlash m base (img.take slotSize) } }

/-- A Firmware Commit (`ca` is not Save Configuration's 0xF) has written or marked the other slot since this start (R360).
 [DEDUCED, log entry 53] -/
def State.noteDirty (slot ca : Nat) (s : State) : State :=
  if slot == s.seed.slot || ca == 0xF then s else { s with seed := { s.seed with dirtySlot := true } }

/-- Write the directory for a write that marks a slot; Save Configuration counts SAVE_CTR. -/
def State.markSlot (slot ca : Nat) (s : State) : State :=
  let ctr := s.dir.elim 0 (·.2.saveCtr)
  if ca == 0 then s else s.writeDir slot (if ca == 0xF then ctr + 1 else ctr)

/-- The command of a write that went well: CA 0x3 goes on to its activation (R302). -/
def State.writeOk (tag slot ca : Nat) (s : State) : State :=
  if ca != 3 then s.finishOk tag
  else if (s.slotImage slot).any fun img => imgCtx img == s.seed.ctxFormat then
    State.plan .activation { s with pith := { s.pith with pending := some tag } }
  else s.fail tag 1 0x0B

/-- FLASH_WRITE_DONE: the slot is programmed and read back, the directory written, the command completed. Where the flash did
not take every byte, how many it took is open (log entry 2). [DEDUCED, log entry 30; DEDUCED, log entry 52] -/
def State.flashDone (tag slot ca : Nat) (ok : Bool) (s : State) : State :=
  let img := s.seed.image
  let s := { s with seed := { s.seed with write := none, image := [] } }
  let live := (s.cmd? tag).any fun c => c.status.isNone
  let (n, s) := if ok then (img.length, s) else s.draw img.length
  let s := if ca == 2 then s else (s.programSlot slot (img.take n)).noteDirty slot ca
  if !ok then s.fail tag 0 6
  else if (s.slotImage slot).isNone then s.fail tag 1 7
  else if !live then s
  else (((s.markSlot slot ca).noteDirty slot ca).writeOk tag slot ca).raise0 0 13

/-- May the write that runs end now: an activation waits for a takeover that runs? -/
def State.writeEnds (s : State) : Bool :=
  match s.seed.write with
  | none => false
  | some (_, _, ca) => ca != 3 || s.canPlan

end Sys2Proof.Machine
end

