-- ==== Sys2Proof/Machine/Admin.lean ====
section
/-!
DEFINITION. The admin commands (spec/03: R80 to R87; spec/05: R115, R116, R429; spec/11: R269, R270; spec/13: R302;
spec/16: R359, R360; spec/18: R376, R377), Grove Management apart.
-/

namespace Sys2Proof.Machine

/-- The host data of an admin command, as its READs brought it (R71). -/
def Cmd.hostData (c : Cmd) : List Byte := c.pulledBytes c.dataIn

/-- Are these the bytes that the READs of the command have brought (R71)? A row that names others is no event of this command.
 [DESIGN CHOICE, log entry 14] -/
def Cmd.brought (c : Cmd) (data : List Byte) : Bool := data == c.hostData

/-- Every value of the sub-operation. -/
def anySub (_ : Cmd) : Bool := true

/-- GET_LOG_PAGE (R86). -/
def execGetLogPage (tag : Nat) (s : State) : Host.Outcome State Fault Refusal :=
  s.serveAdmin tag 0x02 anySub (fun c s => s.getLog tag c) 

/-- IDENTIFY (R85). -/
def execIdentify (tag : Nat) (s : State) : Host.Outcome State Fault Refusal :=
  s.serveAdmin tag 0x06 anySub (fun c s => s.identify tag c)

/-- ABORT (R83, R109). -/
def execAbort (tag : Nat) (s : State) : Host.Outcome State Fault Refusal :=
  s.serveAdmin tag 0x08 anySub (fun c s => s.abortCmd tag c)

/-- The register file after a Set Features: Parity Lag is a register's. [DEDUCED, log entry 45] -/
def State.featRegs (s : State) (c : Cmd) : Regs :=
  if bits c.cdw10 7 0 == 0xC3 then (s.setLag (bit c.cdw11 0)).regs else s.regs

/-- SET_FEATURES (R87). -/
def State.setFeat (tag : Nat) (c : Cmd) (s : State) : State :=
  match s.setFeature c with
  | none => s.fail tag 0 2
  | some s => s.finishOk tag

def execSetFeatures (tag : Nat) (s : State) : Host.Outcome State Fault Refusal :=
  s.serveAdminR tag 0x09 (fun _ => true) s.featRegs (fun c s => s.setFeat tag c)

/-- GET_FEATURES (R87). -/
def execGetFeatures (tag : Nat) (s : State) : Host.Outcome State Fault Refusal :=
  s.serveAdmin tag 0x0A anySub (fun c s => s.getFeat tag c)

/-- ASYNCHRONOUS_EVENT_REQUEST (R395). -/
def execAsynchronousEventRequest (tag : Nat) (s : State) : Host.Outcome State Fault Refusal :=
  s.serveAdmin tag 0x0C anySub (fun c s => s.aer tag c)

/-! ### Namespaces -/

/-- NAMESPACE_CREATE (R115): SEL 0; a reserved SEL ends here with an error. -/
def execNamespaceCreate (tag : Nat) (data : List Byte) (s : State) : Host.Outcome State Fault Refusal :=
  s.serveAdmin tag 0x0D (fun c => bits c.cdw10 3 0 != 1 && c.brought data) (fun c s => s.nsCreate tag data c)

/-- NAMESPACE_DELETE (R116): SEL 1. -/
def execNamespaceDelete (tag : Nat) (s : State) : Host.Outcome State Fault Refusal :=
  s.serveAdmin tag 0x0D (fun c => bits c.cdw10 3 0 == 1) (fun c s => s.nsDelete tag c)

/-- NAMESPACE_DELETE_RECORD (R116). -/
def execNamespaceDeleteRecord (nsid : Nat) (s : State) : Host.Outcome State Fault Refusal :=
  act (s.deleteDue nsid) (s.deleteRecord nsid) s

/-- NAMESPACE_ATTACH (R429): SEL 0; a reserved SEL ends here with an error. -/
def execNamespaceAttach (tag : Nat) (data : List Byte) (s : State) : Host.Outcome State Fault Refusal :=
  s.serveAdmin tag 0x15 (fun c => bits c.cdw10 3 0 != 1 && c.brought data) (fun c s => s.nsAttach tag data c)

/-- NAMESPACE_DETACH (R429): SEL 1. -/
def execNamespaceDetach (tag : Nat) (data : List Byte) (s : State) : Host.Outcome State Fault Refusal :=
  s.serveAdmin tag 0x15 (fun c => bits c.cdw10 3 0 == 1 && c.brought data) (fun c s => s.nsAttach tag data c)

/-! ### Firmware -/

/-- FIRMWARE_IMAGE_DOWNLOAD (R80). -/
def execFirmwareImageDownload (tag : Nat) (data : List Byte) (s : State) : Host.Outcome State Fault Refusal :=
  s.serveAdmin tag 0x11 (·.brought data) (fun c s => s.download tag data c)

/-- FIRMWARE_COMMIT_WRITE (R82): CA 0x0; any other value beyond 0x3 ends here with an error. -/
def execFirmwareCommitWrite (tag : Nat) (s : State) : Host.Outcome State Fault Refusal :=
  s.serveAdmin tag 0x10 (fun c => s.seed.write.isNone && (c.ca == 0 || c.ca > 3)) (fun c s => s.commitFw tag c)

/-- FIRMWARE_COMMIT_WRITE_MARK (R82): CA 0x1. -/
def execFirmwareCommitWriteMark (tag : Nat) (s : State) : Host.Outcome State Fault Refusal :=
  s.serveAdmin tag 0x10 (fun c => s.seed.write.isNone && c.ca == 1) (fun c s => s.commitFw tag c)

/-- FIRMWARE_COMMIT_MARK (R82): CA 0x2. -/
def execFirmwareCommitMark (tag : Nat) (s : State) : Host.Outcome State Fault Refusal :=
  s.serveAdmin tag 0x10 (fun c => s.seed.write.isNone && c.ca == 2) (fun c s => s.commitFw tag c)

/-- FIRMWARE_ACTIVATE (R302): CA 0x3. -/
def execFirmwareActivate (tag : Nat) (s : State) : Host.Outcome State Fault Refusal :=
  s.serveAdmin tag 0x10 (fun c => s.seed.write.isNone && c.ca == 3) (fun c s => s.commitFw tag c)

/-- SAVE_CONFIGURATION (R360). -/
def execSaveConfiguration (tag : Nat) (s : State) : Host.Outcome State Fault Refusal :=
  s.serveAdmin tag 0xC6 (fun _ => s.seed.write.isNone) (fun _ s => s.saveConfig tag)

/-- FLASH_WRITE_DONE (R359). -/
def execFlashWriteDone (ok : Bool) (s : State) : Host.Outcome State Fault Refusal :=
  match s.seed.write with
  | none => act false s s
  | some (tag, slot, ca) => act s.writeEnds (s.flashDone tag slot ca ok) s

/-! ### Sessions -/

/-- KEEP_ALIVE (R84): the timer restarts. -/
def State.keepAlive (tag : Nat) (c : Cmd) (s : State) : State :=
  (s.modSess c.sid fun x => { x with kaSince := s.now }).finishOk tag

def execKeepAlive (tag : Nat) (s : State) : Host.Outcome State Fault Refusal :=
  s.serveAdmin tag 0x18 anySub (fun c s => s.keepAlive tag c)

/-- The session that CDW10 names. -/
def Cmd.target (c : Cmd) : Nat := bits c.cdw10 11 0

/-- SESSION_OPEN (R59). -/
def State.sessOpen (tag : Nat) (c : Cmd) (s : State) : State :=
  (s.begun tag .placed).openSession c.target
    { hostEp := c.cdw11, ports := portsOf c.cdw12, qpBase := bits c.cdw13 13 0, qpCount := bits c.cdw13 24 16
      priv := bit c.cdw13 31, qcbHandle := c.dpHandle, qcbGen := c.dpGen, qcbOff := c.dpOff, openTag := some tag }

def execSessionOpen (tag : Nat) (s : State) : Host.Outcome State Fault Refusal :=
  s.serveAdmin tag 0xC0 anySub (fun c s => s.sessOpen tag c)

/-- SESSION_CLOSE (R79): a session that closes itself gets its completion first. -/
def State.sessClose (tag : Nat) (c : Cmd) (s : State) : State :=
  if !s.closable c.target then s.fail tag 0 2
  else if c.target == c.sid then (s.finishOk tag).closeSession c.target none
  else (s.begun tag .running).closeSession c.target (some tag)

def execSessionClose (tag : Nat) (s : State) : Host.Outcome State Fault Refusal :=
  s.serveAdmin tag 0xC1 anySub (fun c s => s.sessClose tag c)

/-- SESSION_RESET (R78): the completion comes before the reset begins. -/
def State.sessReset (tag : Nat) (c : Cmd) (s : State) : State :=
  if (s.sess? c.target).any fun x => x.st == .opened then (s.finishOk tag).startReset c.target none else s.fail tag 0 2

def execSessionReset (tag : Nat) (s : State) : Host.Outcome State Fault Refusal :=
  s.serveAdmin tag 0xC2 anySub (fun c s => s.sessReset tag c)

/-- SESSION_QUERY (R81). -/
def execSessionQuery (tag : Nat) (s : State) : Host.Outcome State Fault Refusal :=
  s.serveAdmin tag 0xC3 anySub (fun c s => s.pushAdmin tag (s.queryBytes c.target))

/-! ### Registers (R376, R377) -/

/-- The checks made before any access. -/
def Cmd.regsOk (c : Cmd) : Bool :=
  let n := bits c.cdw11 8 0
  let a := c.cdw10.toNat
  a % 4 == 0 && 1 ≤ n && n ≤ 256 && inMap a && inMap (a + 4 * n - 4) && !(c.opc == 0xC5 && bit c.cdw11 31 && n != 1)

/-- Do the accesses of a Register Read or Write pass the die links? -/
def State.regsWay (s : State) (c : Cmd) : Bool :=
  !c.regsOk || (List.range (bits c.cdw11 8 0)).all fun i => s.bridges .admin (c.cdw10.toNat + 4 * i)

/-- Read registers one after another: the values, and the state after their effects. -/
def State.readSeq (a : Nat) : Nat → State → List W32 × State
  | 0, s => ([], s)
  | k + 1, s =>
    let r := State.readSeq (a + 4) k (s.read1 a)
    (s.readVal .admin a :: r.1, r.2)

/-- The values that a Register Read reads, and the state after their effects. -/
def State.regReads (s : State) (c : Cmd) : List W32 × State :=
  if c.regsOk then State.readSeq c.cdw10.toNat (bits c.cdw11 8 0) s else ([], s)

/-- REGISTER_READ. [DEDUCED, log entry 46] -/
def State.regRead (tag : Nat) (c : Cmd) (s : State) : State :=
  if !c.regsOk then s.fail tag 0 2
  else (s.regReads c).2.pushAdmin tag ((s.regReads c).1.flatMap fun v => leBytes 4 v.toNat)

def execRegisterRead (tag : Nat) (s : State) : Host.Outcome State Fault Refusal :=
  s.serveAdminR tag 0xC4 s.regsWay (fun c => (s.regReads c).2.regs) (fun c s => s.regRead tag c)

/-- Writes one after another; the first rejected or refused one ends the command, with its status. -/
def State.writeSeq (a mask : Nat) : Nat → List W32 → State → State × Status
  | _, [], s => (s, { sct := 0, sc := 0 })
  | i, v :: t, s =>
    let st := s.wrStatus .admin (a + 4 * i) v (w32 mask)
    let s := s.write1 .admin (a + 4 * i) v (w32 mask)
    if st == 3 then (s, { sct := 7, sc := 0x87, dw0 := w32 i })
    else if st == 4 then (s, { sct := 0, sc := 2, dw0 := w32 i })
    else State.writeSeq a mask (i + 1) t s

/-- The writes of a Register Write, and the status that it ends with. -/
def State.regWrites (s : State) (data : List Byte) (c : Cmd) : State × Status :=
  if !c.regsOk then (s, { sct := 0, sc := 2 })
  else if bit c.cdw11 31 then State.writeSeq c.cdw10.toNat c.cdw13.toNat 0 [c.cdw12] s
  else State.writeSeq c.cdw10.toNat (2 ^ 32 - 1) 0 (wordsOf (bits c.cdw11 8 0) data) s

/-- REGISTER_WRITE. [DEDUCED, log entry 46] -/
def State.regWrite (tag : Nat) (data : List Byte) (c : Cmd) (s : State) : State :=
  (s.regWrites data c).1.finish tag (s.regWrites data c).2

def execRegisterWrite (tag : Nat) (data : List Byte) (s : State) : Host.Outcome State Fault Refusal :=
  s.serveAdminR tag 0xC5 (fun c => s.regsWay c && c.brought data) (fun c => (s.regWrites data c).1.regs) (fun c s => s.regWrite tag data c)

/-! ### Session keys (R269, R270) -/

/-- Fields of a Session Key Load. -/
def Cmd.keySlot (c : Cmd) : Nat := b2n (bit c.cdw10 16)
def Cmd.keyOp (c : Cmd) : Nat := bits c.cdw10 18 17

/-- Key and salt of a load, each taken most significant byte first: plain, or unwrapped under the key-encryption key of the image.
 [PRESUMED, log entry 103] -/
def State.keyData (s : State) (c : Cmd) (data : List Byte) : Option (BitVec 256 × BitVec 32) :=
  let of : List Byte → BitVec 256 × BitVec 32 := fun l => (BitVec.ofNat 256 (be l 0 32), BitVec.ofNat 32 (be l 32 4))
  if !bit c.cdw10 20 then some (of data)
  else (s.seed.kek.bind fun k => Config.keyUnwrap k (data.take 48)).bind fun l =>
    if l.length == 40 && le l 36 4 == 0 then some (of l) else none

/-- LIMIT_LOG2: 0 takes BARK_LIMIT.DEF_LOG2. -/
def State.keyLimit (s : State) (c : Cmd) : Nat :=
  let n := bits c.cdw11 5 0
  if n == 0 then s.fld 0x11000008 5 0 else n

/-- The transmit slot of a session. [DEDUCED, log entry 50] -/
def State.txOf (s : State) (sid : Nat) : Nat := NMap.getD s.bark.tx sid 0

/-- The first cause that refuses a Session Key Load (R269). FORMAT has one bit and both its values are defined, so cause 7
names nothing. -/
def State.keyCause (s : State) (c : Cmd) (data : List Byte) : Option Nat :=
  let sid := c.target
  let slot := c.keySlot
  let load := c.keyOp < 2
  let lim := bits c.cdw11 5 0
  if !(s.sess? sid).any (fun x => x.st == .opened || x.st == .resetting) then some 1
  else if load && s.txOf sid == slot && s.keyState (2 * sid + slot) == 1 then some 2
  else if c.keyOp == 2 && s.keyState (2 * sid + slot) != 1 then some 3
  else if c.keyOp == 3 && s.txOf sid == slot then some 4
  else if load && lim != 0 && (lim < 16 || lim > 62) then some 5
  else if load && (s.keyData c data).isNone then some 6
  else none

/-- Make a slot the transmit slot: what waited unsent for a valid one goes (R267). [DEDUCED, log entry 50] -/
def State.selectKey (sid slot : Nat) (s : State) : State :=
  State.sendReserved (some sid) { s with bark := { s.bark with tx := NMap.set s.bark.tx sid slot } }

/-- Put a key into a slot, its station counter 0. [DEDUCED, log entry 50] -/
def State.putKey (sid slot lim : Nat) (k : BitVec 256 × BitVec 32) (s : State) : State :=
  { s with bark := { s.bark with
      keys := NMap.set s.bark.keys (2 * sid + slot) { key := k.1, salt := k.2, limitLog2 := lim } } }

/-- The effect of a Session Key Load; a change of transmit slot follows the completion (R270). -/
def State.keyOp (tag : Nat) (data : List Byte) (c : Cmd) (s : State) : State :=
  let sid := c.target
  match s.keyCause c data with
  | some k => s.failCause tag k
  | none =>
    match c.keyOp with
    | 3 => ({ s with bark := { s.bark with keys := NMap.erase s.bark.keys (2 * sid + c.keySlot) } }).finishOk tag
    | 2 => (s.finishOk tag).selectKey sid c.keySlot
    | op =>
      match s.keyData c data with
      | none => s
      | some k =>
        let s := (s.putKey sid c.keySlot (s.keyLimit c) k).finishOk tag
        s.selectKey sid (if op == 1 then c.keySlot else s.txOf sid)

/-- KEY_LOAD: OP 0. -/
def execKeyLoad (tag : Nat) (data : List Byte) (s : State) : Host.Outcome State Fault Refusal :=
  s.serveAdmin tag 0xC8 (fun c => c.keyOp == 0 && c.brought data) (fun c s => s.keyOp tag data c)

/-- KEY_LOAD_AND_SELECT: OP 1. -/
def execKeyLoadAndSelect (tag : Nat) (data : List Byte) (s : State) : Host.Outcome State Fault Refusal :=
  s.serveAdmin tag 0xC8 (fun c => c.keyOp == 1 && c.brought data) (fun c s => s.keyOp tag data c)

/-- KEY_SELECT: OP 2. -/
def execKeySelect (tag : Nat) (s : State) : Host.Outcome State Fault Refusal :=
  s.serveAdmin tag 0xC8 (fun c => c.keyOp == 2) (fun c s => s.keyOp tag [] c)

/-- KEY_CLEAR: OP 3. -/
def execKeyClear (tag : Nat) (s : State) : Host.Outcome State Fault Refusal :=
  s.serveAdmin tag 0xC8 (fun c => c.keyOp == 3) (fun c s => s.keyOp tag [] c)

end Sys2Proof.Machine
end

