-- ==== Sys2Proof/Machine/GroveMgmt.lean ====
section
/-!
DEFINITION. The actions of Grove Management (spec/06: R148 to R151; spec/07: R202).
-/

namespace Sys2Proof.Machine

/-! ### The actions (Tables 6.2 and 7.6) -/

/-- GROVE_CREATE; a reserved action ends here: 0x5 to 0x7 with DW0 0, 0xD to 0xF with cause 7 after those of R202. -/
def State.gmCreate (tag : Nat) (c : Cmd) (s : State) : State :=
  if c.gmAction != 0 then
    if c.gmAction < 8 then s.failCause tag 0
    else s.failCause tag (if (s.grove? c.gmGrove).isNone then 8 else 7)
  else match s.createCause c with
    | some k => s.failCause tag k
    | none => (((s.begun tag .placed).sendFormats tag c.gmDrives).formatsDone tag)

/-- GROVE_DELETE (R148): the members are free and the grove's staging is gone. [DEDUCED, log entry 54] -/
def State.gmDelete (tag : Nat) (c : Cmd) (s : State) : State :=
  let gi := c.gmGrove
  match s.grove? gi with
  | none => s.failCause tag 1
  | some g =>
    if s.heart.ns.any (fun p => p.2.grove == gi) || s.nsRecords.any (fun r => r.2.2.any fun n => n.grove == gi) then
      s.failCause tag 2
    else
      let ds := (g.members.filter fun m => m.st != .failed).map (·.drive)
      let s := { s with
        groves := NMap.erase s.groves gi
        sapw := { s.sapw with entries := s.sapw.entries.filter fun p => p.2.grove != gi }
        pieces := s.pieces.filter fun p => p.2.grove != gi
        drives := s.drives.map fun (p : Nat × Drive) => if ds.contains p.1 then (p.1, { p.2 with queue := [] }) else p }
      let s := ds.foldl (fun s d => s.eraseLabel tag d) (s.begun tag .running)
      (s.labelsDone tag).checkVault

/-- ADD_SPARES (R150). -/
def State.gmAdd (tag : Nat) (c : Cmd) (s : State) : State :=
  match s.spareCause c with
  | some k => s.failCause tag k
  | none => ((s.begun tag .placed).sendFormats tag c.gmDrives).formatsDone tag

/-- REMOVE_SPARES: the untaken spares among DRIVES. -/
def State.gmRemove (tag : Nat) (c : Cmd) (s : State) : State :=
  let ds := c.gmDrives.filter fun d => (s.drive d).spare.isSome && (s.memberOf d).isNone
  let s := ds.foldl (fun s d => (s.setDrive d { s.drive d with spare := none }).eraseLabel tag d) (s.begun tag .running)
  (s.labelsDone tag).checkVault

/-- RELEASE_NAMESPACES (R137). -/
def State.gmRelease (tag : Nat) (c : Cmd) (s : State) : State :=
  if (s.grove? c.gmGrove).isNone then s.failCause tag 1
  else
    let s := { s with heart := { s.heart with ns := s.heart.ns.map fun (p : Nat × Namespace) =>
      (p.1, if p.2.grove == c.gmGrove then { p.2 with notReady := false } else p.2) } }
    s.finishOk tag

/-- Is the slot of a grove one that its members have? -/
def slotCause (g : Grove) (c : Cmd) : Bool := c.gmSlot ≥ g.n

/-- REBUILD_NOW (R183, R202). -/
def State.gmRebuild (tag : Nat) (c : Cmd) (s : State) : State :=
  match s.grove? c.gmGrove with
  | none => s.failCause tag 8
  | some g =>
    let st := (g.members[c.gmSlot]?).elim .working (·.st)
    if slotCause g c then s.failCause tag 11
    else if g.offline then s.failCause tag 10
    else if st == .working then s.failCause tag 1
    else if st == .rebuilding then s.failCause tag 9
    else if !(s.spares.contains c.gmDrive && s.serves c.gmDrive c.gmGrove g) then s.failCause tag 2
    else (s.takeSpare c.gmGrove c.gmSlot c.gmDrive).pump.finishOk tag

/-- PAUSE_REBUILD. -/
def State.gmPause (tag : Nat) (c : Cmd) (s : State) : State :=
  match s.grove? c.gmGrove with
  | none => s.failCause tag 8
  | some g => if g.running.1.isNone && g.running.2.isNone then s.failCause tag 3
    else (s.setGrove c.gmGrove { g with paused := true }).finishOk tag

/-- RESUME_REBUILD. -/
def State.gmResume (tag : Nat) (c : Cmd) (s : State) : State :=
  match s.grove? c.gmGrove with
  | none => s.failCause tag 8
  | some g => if !g.paused then s.failCause tag 4
    else (s.setGrove c.gmGrove { g with paused := false }).pump.finishOk tag

/-- FAIL_MEMBER (R181, R202). -/
def State.gmFail (tag : Nat) (c : Cmd) (s : State) : State :=
  match s.grove? c.gmGrove with
  | none => s.failCause tag 8
  | some g =>
    let st := (g.members[c.gmSlot]?).elim .working (·.st)
    if slotCause g c then s.failCause tag 11
    else if st == .failed then s.failCause tag 12
    else if g.offline || (st == .working && g.down ≥ 2) then s.failCause tag 5
    else (s.failMember c.gmGrove c.gmSlot).finishOk tag

/-- Stripes of every segment that is not free, ascending. -/
def Grove.allStripes (g : Grove) : List Nat := (NMap.keys g.segs).flatMap fun a => rangeFrom (64 * a) 64

/-- Begin a resynchronization: the intent ranges first, then, in a full one, every other stripe (R198, R199). -/
def State.startResync (gi mode reason : Nat) (first : List Nat) (s : State) : State :=
  match s.grove? gi with
  | none => s
  | some g =>
    let rest := if mode == 2 then g.allStripes.filter fun n => !first.contains n else []
    (s.setGrove gi { g with resync := some { mode := mode, reason := reason, todo := first ++ rest } }).raise
      (evSrc (8 + gi) 10) 0#32

/-- The stripes that the grove's newest intent record names. -/
def Intent.stripes (i : Intent) : List Nat :=
  i.ranges.flatMap fun r => rangeFrom (64 * r.1 + r.2.2.1) (r.2.2.2 + 1 - r.2.2.1)

/-- VERIFY (R198, R202): a full resynchronization with REASON 7. [DEDUCED, log entry 54] -/
def State.gmVerify (tag : Nat) (c : Cmd) (s : State) : State :=
  match s.grove? c.gmGrove with
  | none => s.failCause tag 8
  | some g =>
    if g.offline then s.failCause tag 10
    else if g.resync.isSome then s.failCause tag 6
    else
      let first := (g.holders.head?.bind fun d => NMap.get? s.media.intents d).elim [] Intent.stripes
      (s.startResync c.gmGrove 2 7 (first.filter fun n => NMap.has g.segs (n / 64))).finishOk tag

end Sys2Proof.Machine
end

