-- ==== Sys2Proof/Machine/AdminGrove.lean ====
section
/-!
DEFINITION. The commands of Grove Management (spec/06, R148 to R150; spec/07, R202).
-/

namespace Sys2Proof.Machine

/-- GROVE_CREATE (R149): ACTION 0x0; a reserved action ends here with its error. -/
def execGroveCreate (tag : Nat) (s : State) : Host.Outcome State Fault Refusal :=
  s.serveAdmin tag 0xC7 (fun c => [0, 5, 6, 7, 13, 14, 15].contains c.gmAction) (fun c s => s.gmCreate tag c)

/-- GROVE_DELETE (R148): ACTION 0x1. -/
def execGroveDelete (tag : Nat) (s : State) : Host.Outcome State Fault Refusal :=
  s.serveAdmin tag 0xC7 (fun c => c.gmAction == 1) (fun c s => s.gmDelete tag c)

/-- ADD_SPARES (R150): ACTION 0x2. -/
def execAddSpares (tag : Nat) (s : State) : Host.Outcome State Fault Refusal :=
  s.serveAdmin tag 0xC7 (fun c => c.gmAction == 2) (fun c s => s.gmAdd tag c)

/-- REMOVE_SPARES (R148): ACTION 0x3. -/
def execRemoveSpares (tag : Nat) (s : State) : Host.Outcome State Fault Refusal :=
  s.serveAdmin tag 0xC7 (fun c => c.gmAction == 3) (fun c s => s.gmRemove tag c)

/-- RELEASE_NAMESPACES (R148): ACTION 0x4. -/
def execReleaseNamespaces (tag : Nat) (s : State) : Host.Outcome State Fault Refusal :=
  s.serveAdmin tag 0xC7 (fun c => c.gmAction == 4) (fun c s => s.gmRelease tag c)

/-- REBUILD_NOW (R202): ACTION 0x8. -/
def execRebuildNow (tag : Nat) (s : State) : Host.Outcome State Fault Refusal :=
  s.serveAdmin tag 0xC7 (fun c => c.gmAction == 8) (fun c s => s.gmRebuild tag c)

/-- PAUSE_REBUILD (R202): ACTION 0x9. -/
def execPauseRebuild (tag : Nat) (s : State) : Host.Outcome State Fault Refusal :=
  s.serveAdmin tag 0xC7 (fun c => c.gmAction == 9) (fun c s => s.gmPause tag c)

/-- RESUME_REBUILD (R202): ACTION 0xA. -/
def execResumeRebuild (tag : Nat) (s : State) : Host.Outcome State Fault Refusal :=
  s.serveAdmin tag 0xC7 (fun c => c.gmAction == 10) (fun c s => s.gmResume tag c)

/-- FAIL_MEMBER (R202): ACTION 0xB. -/
def execFailMember (tag : Nat) (s : State) : Host.Outcome State Fault Refusal :=
  s.serveAdmin tag 0xC7 (fun c => c.gmAction == 11) (fun c s => s.gmFail tag c)

/-- VERIFY (R202): ACTION 0xC. -/
def execVerify (tag : Nat) (s : State) : Host.Outcome State Fault Refusal :=
  s.serveAdmin tag 0xC7 (fun c => c.gmAction == 12) (fun c s => s.gmVerify tag c)

end Sys2Proof.Machine
end

