-- ==== Sys2Proof/Machine/Crown.lean ====
section
/-!
DEFINITION. The commands of the switch (spec/09, spec/10): frames in, the selection of frames out, ageing, and the
forwarding and path windows.
-/

namespace Sys2Proof.Machine

/-- Can a frame arrive at a point: CTRL always; an external port that exists, is up, is not passed through, and is not shed? -/
def State.canArrive (s : State) (p : Nat) : Bool :=
  if p == 35 then s.on 0x13000000
  else s.portOn p && !s.sap.shed && (s.on 0x13000000 || s.seed.boot == .recovery)
    && (p == 34 || (s.port p).up) && !s.passes p

/-- FRAME_RECEIVE (R220, R221). -/
def execFrameReceive (point : Nat) (f : Frame) (s : State) : Host.Outcome State Fault Refusal :=
  act (framePoint point && s.canArrive point) (if point == 35 then s.fromCtrl f else s.arrive point f) s

/-- PAUSE_FRAME_RECEIVE (R243): counted and discarded, whatever it asks. -/
def execPauseFrameReceive (point : Nat) (opcode : BitVec 16) (s : State) : Host.Outcome State Fault Refusal :=
  act (arrivalPoint point && s.canArrive point) (s.indicateAll point (pauseKind point opcode.toNat).toList) s

/-- HEARTBEAT_RECEIVE (R290): the RING block sees a heartbeat on its way to CTRL, in a ring or a chain. -/
def execHeartbeatReceive (west : Bool) (station state : BitVec 16) (s : State) : Host.Outcome State Fault Refusal :=
  act ((s.ringMode == 1 || s.ringMode == 2) && s.canArrive (32 + b2n west)) (s.heartbeat west station state) s

/-- EGRESS_SELECT (R279, R280): the next frame of an egress point starts, if one may; from an internal port, pulled write data
reaches its Bough (R11). -/
def execEgressSelect (point : Nat) (s : State) : Host.Outcome State Fault Refusal :=
  let t := (s.noteGates point).select (s.waitingAt point) point
  act (egressPoint point && s.pointReady point) (if point > 35 then t.pump else t) s

/-- A scrub: SCRUB_US after the last one, and what gates have held past a cycle by then is counted (R229, R253). -/
def State.scrubDue (s : State) : State :=
  ((List.range 34).foldl (fun s p => s.noteGates p) (s.until (s.crown.scrubAt + s.fld 0x13000008 25 16 * 1000))).scrub

/-- CROWN_SCRUB (R229): every SCRUB_US. -/
def execCrownScrub (s : State) : Host.Outcome State Fault Refusal := act (s.on 0x13000000) s.scrubDue s

/-- LEARNED_ENTRY_AGE_OUT (R224): a learned entry was not refreshed for LEARN_AGE_S seconds. -/
def execLearnedEntryAgeOut (ep : W32) (s : State) : Host.Outcome State Fault Refusal :=
  match NMap.get? s.crown.fwd ep.toNat with
  | none => act false s s
  | some e => act e.learned ((s.until (e.refreshed + s.fld 0x13000014 15 0 * 1000000000)).dropFwd ep.toNat) s

/-- FWD_ENTRY_READ (R235): CROWN_FWD_OP.READ loads the entry for CROWN_FWD_KEY into CROWN_FWD_DATA.
 [DEDUCED, log entry 19] -/
def execFwdEntryRead (s : State) : Host.Outcome State Fault Refusal :=
  match NMap.get? s.crown.fwd (s.reg 0x13000200).toNat with
  | none => act true (s.fwdDone 1) s
  | some e => actR true (s.regs.put 0x13000204 e.word) (s.fwdDone 0) s

/-- FWD_ENTRY_WRITE (R224, R235): CROWN_FWD_OP.WRITE. -/
def execFwdEntryWrite (s : State) : Host.Outcome State Fault Refusal :=
  act true (s.writeFwd (s.reg 0x13000200) (s.reg 0x13000204)) s

/-- FWD_ENTRY_DELETE (R235): CROWN_FWD_OP.DELETE. -/
def execFwdEntryDelete (s : State) : Host.Outcome State Fault Refusal :=
  let ep := (s.reg 0x13000200).toNat
  act true (if NMap.has s.crown.fwd ep then (s.dropFwd ep).fwdDone 0 else s.fwdDone 1) s

/-- PATH_RECORD_WRITE (R235): CROWN_PATH_OP.WRITE. -/
def execPathRecordWrite (s : State) : Host.Outcome State Fault Refusal :=
  act true (s.writePath (s.fld 0x13000300 11 0) s.stagedPath) s

end Sys2Proof.Machine
end

