-- ==== Sys2Proof/Machine/Io.lean ====
section
/-!
DEFINITION. I/O commands (spec/03, spec/04, spec/05, spec/08): fetch turns and polls, placement and stealing, the start of
each I/O opcode, translation, and Coppice's shoots.
-/

namespace Sys2Proof.Machine

/-! ### Fetch and poll (R66, R67) -/

/-- FETCH (R67): one turn of a queue pair. -/
def execFetch (qpid : Nat) (s : State) : Host.Outcome State Fault Refusal :=
  act (qpIndex qpid && s.canFetch qpid) (s.startFetch qpid) s

/-- May a poll of the queue pair begin (R66)? -/
def State.canPoll (s : State) (q : Nat) : Bool :=
  s.on 0x09000000 && s.xylem.started && s.sap.flush.isNone
    && (s.qp? q).any fun x => x.st == .enabled && x.poll > 0
      && (s.sess? x.sid).any fun y => y.st == .opened && !y.fetchStopped

/-- The poll interval ends, and Bud READs the shadow record. -/
def State.poll (q : Nat) (s : State) : State :=
  match s.qp? q with
  | none => s
  | some x =>
    let s := s.until (x.polledAt + s.pollEvery x)
    (s.modQp q fun x => { x with polledAt := s.now }).readShadow q false

/-- SHADOW_POLL (R66). -/
def execShadowPoll (qpid : Nat) (s : State) : Host.Outcome State Fault Refusal :=
  act (qpIndex qpid && s.canPoll qpid) (s.poll qpid) s

/-! ### Placement (R99) -/

/-- The engine of a list with the most free contexts, the lowest index of several; none where no context is free. -/
def State.mostFree (s : State) (l : List Nat) : Option Nat :=
  (l.foldl (fun best e =>
    let f := s.ctxFree e
    if f > best.elim 0 (·.2) then some (e, f) else best) none).map (·.1)

/-- The engine that R99 chooses. [DEDUCED, log entry 55] -/
def State.placeOn (s : State) (q : Nat) : Option Nat :=
  let h := s.home q
  if s.ctxFree h > 0 then some h
  else (s.mostFree (rangeFrom (h / 16 * 16) 16)).orElse fun _ => s.mostFree (List.range 64)

/-- Put a command at the tail of an engine's deque. -/
def State.putAt (tag e : Nat) (s : State) : State :=
  let t := s.twig e
  let s := s.setTwig e { t with deque := t.deque ++ [tag] }
  (s.modCmd tag fun c => { c with stage := .placed, engine := some e }).stamp tag 3

/-- COMMAND_PLACE (R99): from Knot on the Root die to the engine's Bough. -/
def execCommandPlace (tag : Nat) (s : State) : Host.Outcome State Fault Refusal :=
  match (s.cmd? tag).filter fun c => c.stage == .ready && c.status.isNone with
  | none => act false s s
  | some c => match s.placeOn c.qpid with
    | none => act false s s
    | some e => act (s.flows 5 (engineDie e)) (s.putAt tag e) s

/-! ### Stealing (R102, R105) -/

/-- TWIG_STEAL of an engine. -/
def State.stealCfg (s : State) (e : Nat) : W32 := s.reg (twigBase e + 4)

/-- Is the Bough of an engine giving up its ready commands: being vacated, or this engine disabled (R105, Table 4.10)? -/
def State.leaving (s : State) (v : Nat) : Bool :=
  (s.twig v).vacating || (s.twig v).reloading || !s.on (twigBase v)

/-- Commands of a deque that were never stolen. -/
def State.stealable (s : State) (v : Nat) : List Nat :=
  (s.twig v).deque.filter fun t => (s.cmd? t).any fun c => !c.stolen

/-- How many commands a steal takes: BATCH, half the deque, the thief's free contexts, and no command stolen before (R102).
 [DESIGN CHOICE, log entry 95] -/
def State.booty (s : State) (e v : Nat) : Nat :=
  min (min (max 1 (bits (s.stealCfg e) 7 0)) ((s.twig v).deque.length / 2)) (min (s.ctxFree e) (s.stealable v).length)

/-- May `e` rob `v` (R102)? -/
def State.canRob (s : State) (e v : Nat) : Bool :=
  let r := s.stealCfg e
  let depth := (s.twig v).deque.length
  let need := if s.leaving v then 1 else if e / 16 == v / 16 then max 1 (bits r 15 8) else max 1 (bits r 23 16)
  s.flag (twigBase v) 2 && depth ≥ need && s.booty e v > 0 && s.flows (engineDie e) (engineDie v)

/-- Victims in the order in which R102 tries them: own Bough, the two ring neighbours, the opposite Bough. -/
def victims (e : Nat) : List Nat :=
  let k := e / 16
  ([0, 1, 3, 2].flatMap fun d => rangeFrom ((k + d) % 4 * 16) 16).filter (· != e)

/-- The victim of one attempt: of at most 4 of the order, from where the last failed attempt stopped, the first that may be
robbed. [DESIGN CHOICE, log entry 95] -/
def State.victim (s : State) (e : Nat) : Option Nat :=
  (((victims e).drop ((s.twig e).tried % 63)).take 4).find? (s.canRob e)

/-- Move commands from the tail of a deque, in their order. -/
def State.rob (e v : Nat) (s : State) : State :=
  let l := s.stealable v
  let take := l.drop (l.length - s.booty e v)
  let tv := s.twig v
  let s := s.setTwig v { tv with deque := tv.deque.filter fun t => !take.contains t }
  let te := s.twig e
  let s := s.setTwig e { te with deque := te.deque ++ take, tried := 0 }
  let s := take.foldl (fun s t => s.modCmd t fun c => { c with stolen := true, engine := some e }) s
  take.foldl (fun s t =>
    let c := s.cmd? t
    (s.engEvent e 0x12 1 c).engEvent v 0x13 1 c) s

/-- May an engine try to steal? -/
def State.canSteal (s : State) (e : Nat) : Bool :=
  let t := s.twig e
  s.running e && t.deque.isEmpty && s.flag (twigBase e) 1 && s.ctxFree e > 0 && t.backoff ≤ s.now

/-- One attempt; after a failed one the engine waits BACKOFF × 10 ns. [DESIGN CHOICE, log entry 95] -/
def State.steal (e : Nat) (s : State) : State :=
  match s.victim e with
  | some v => s.rob e v
  | none =>
    let s := s.engEvent e 0x14 1 none
    s.setTwig e { s.twig e with backoff := s.now + max 1 (bits (s.stealCfg e) 31 24) * 10, tried := ((s.twig e).tried + 4) % 64 }

/-- STEAL_ATTEMPT (R102). -/
def execStealAttempt (engine : Nat) (s : State) : Host.Outcome State Fault Refusal :=
  act (engineIndex engine && s.canSteal engine) (s.steal engine) s

/-! ### Starting a command (R101) -/

/-- Does an engine still serve its deque: one that takes no more placements does (R101, R105), not one that is fenced or whose
microcode is being loaded; its Bough's ways to the Trunk and Root dies are open (R8, log entry 89)? -/
def State.engineServes (s : State) (e : Nat) : Bool :=
  !(s.twig e).fenced && !(s.twig e).reloading && s.flows (engineDie e) 0 && s.flows (engineDie e) 5

/-- Is the command at the head of its engine's deque, and does the engine serve it (R101)? -/
def State.startable (s : State) (tag opc : Nat) : Bool :=
  (s.cmd? tag).any fun c => !c.admin && c.opc == opc && c.status.isNone && c.stage == .placed
    && c.engine.any fun e => s.engineServes e && (s.twig e).deque.head? == some tag

/-- Start it: S3 of Table 4.5. -/
def State.start (tag : Nat) (s : State) : State :=
  match s.cmd? tag with
  | none => s
  | some c =>
    let s := match c.engine with
      | some e =>
        let t := s.twig e
        (s.setTwig e { t with deque := without t.deque tag, started := t.started ++ [tag] }).engEvent e 0x10 1 (some c)
      | none => s
    (s.modCmd tag fun c => { c with stage := .running }).stamp tag 4

/-- Is a namespace's grove offline (R195)? -/
def State.nsOffline (s : State) (nsid : Nat) : Bool := (s.grove? (s.groveOf nsid)).any (·.offline)

/-- FLUSH (R107, R108): it starts; a hard flush goes on with the stripes that hold covered data. -/
def State.runFlush (tag : Nat) (s : State) : State := (s.start tag).pump

/-- FLUSH. -/
def execFlush (tag : Nat) (s : State) : Host.Outcome State Fault Refusal :=
  act (s.startable tag 0) (s.runFlush tag) s

/-! ### Write (R134, R153, R426) -/

/-- Slots of the reserve for the Pruner and the map stream (SAPWOOD_WATER). -/
def State.reserveSlots (s : State) : Nat := s.fld 0x0D000008 11 0 * 1048576 / 4112

/-- Would a pull leave less than the reserve free, or is there no header for each of its entries (R153)?
 [DEDUCED, log entry 57] -/
def State.pullShort (s : State) (c : Cmd) : Bool :=
  s.slotsFree < s.reserveSlots + c.nlb || s.headersFree < ceilDiv c.nlb 256

/-- May a command pull: its staging fits (R153), Sapwood is enabled, no flush runs (R155), and its grove takes host data
(Table 6.8)? [DEDUCED, log entry 57] -/
def State.pullFits (s : State) (c : Cmd) : Bool :=
  let segs := (s.grove? (s.groveOf c.nsid)).elim 0 (·.freeSegs)
  s.on 0x0D000000 && !s.pullShort c && segs > 6 && s.sap.flush.isNone

/-- Does an older pull wait for the block store (R423)? [DEDUCED, log entry 57] -/
def State.olderPull (s : State) (c : Cmd) : Bool :=
  s.bud.cmds.any fun p => p.2.stalled && p.2.status.isNone && p.2.fseq.getD 0 < c.fseq.getD 0
    && ((s.grove? (s.groveOf p.2.nsid)).elim 0 (·.freeSegs)) > 6

/-- Reserve the staging entries of a Write: pieces of up to 256 blocks from its SLBA (R134). [DEDUCED, log entry 57] -/
def State.reserveEntries (tag : Nat) (c : Cmd) (s : State) : State :=
  let g := s.groveOf c.nsid
  (List.range (ceilDiv c.nlb 256)).foldl (fun s i =>
    let n := min 256 (c.nlb - 256 * i)
    let (k, s) := s.newEntry { grove := g, nsid := c.nsid, lba := c.slba + 256 * i, fseq := c.fseq.getD 0
                               blocks := List.replicate n none, owner := some tag }
    s.modCmd tag fun c => { c with entries := c.entries ++ [k] }) s

/-- Begin the pull of a Write that has started, or let it wait; sapwood.pull_stall each time a pull comes to wait for staging (R153).
 [DEDUCED, log entry 57] -/
def State.pull (tag : Nat) (s : State) : State :=
  match s.cmd? tag with
  | none => s
  | some c =>
    if s.nsOffline c.nsid then s.fail tag 2 0x80
    else if s.pullFits c && !s.olderPull c then
      let s := (s.modCmd tag fun c => { c with stalled := false, short := false }).reserveEntries tag c
      s.pullData tag 0 (s.xferLen c)
    else
      let t := s.modCmd tag fun c => { c with stalled := true, short := s.pullShort c }
      if s.pullShort c && !c.short then t.raise0 7 0 else t

/-- WRITE (R134): the head of an engine's deque starts its pull; a pull that waited for staging tries again. -/
def execWrite (tag : Nat) (s : State) : Host.Outcome State Fault Refusal :=
  if s.startable tag 1 then act true ((s.start tag).pull tag) s
  else act ((s.cmd? tag).any fun c => c.stalled && c.status.isNone) (s.pull tag) s

/-! ### Read, Compare and the journalled commands -/

/-- READ (R95): it starts; Heartwood's answer is TRANSLATION_DONE. -/
def execRead (tag : Nat) (s : State) : Host.Outcome State Fault Refusal :=
  act (s.startable tag 2) (s.start tag) s

/-- COMPARE (R92): it starts, and pulls the host's data beside its translation. -/
def execCompare (tag : Nat) (s : State) : Host.Outcome State Fault Refusal :=
  act (s.startable tag 5)
    (let s' := s.start tag
     match s'.cmd? tag with
     | none => s'
     | some c => s'.pullData tag 0 (s'.xferLen c)) s

/-- Start a command whose change is one journalled record (R128, R129). -/
def State.runJournalled (tag : Nat) (body : Cmd → Option RecBody) (s : State) : State :=
  let s := s.start tag
  match s.cmd? tag with
  | none => s
  | some c =>
    if s.nsOffline c.nsid then s.fail tag 2 0x80
    else match body c with
      | none => s.finishOk tag
      | some b => s.append (s.groveOf c.nsid) c.nsid b (.command tag)

/-- WRITE_ZEROES (R129): ZERO, or DEALLOCATED with DEAC. -/
def execWriteZeroes (tag : Nat) (s : State) : Host.Outcome State Fault Refusal :=
  act (s.startable tag 8)
    (s.runJournalled tag fun c => some (.zero (c.fseq.getD 0) c.slba c.nlb (bit c.cdw12 25))) s

/-- DATASET_MANAGEMENT (R129): with AD every range in one change; without it nothing changes. -/
def execDatasetManagement (tag : Nat) (s : State) : Host.Outcome State Fault Refusal :=
  act (s.startable tag 9)
    (s.runJournalled tag fun c =>
      if bit c.cdw11 2 && !c.ranges.isEmpty then some (.deallocate (c.fseq.getD 0) c.ranges) else none) s

/-! ### Translation (R122, R125, R126) -/

/-- Look every window of the range up: counts, misses, and use of cache and pages (Table 19.6). -/
def State.lookups (c : Cmd) (s : State) : State :=
  (windowsOf c.slba c.nlb).foldl (fun s lba =>
    let blocks := windowPart c.slba c.nlb lba
    let hit := s.tcHit c.nsid blocks
    let s := match c.engine with
      | some e =>
        let s := s.engEvent e 0x20 1 (some c)
        if hit then s else s.engEvent e 0x21 1 (some c)
      | none => s
    let s := if hit then s else
      let s := if NMap.has s.heart.pages (dirKey c.nsid lba) then s.usePage (dirKey c.nsid lba) else s
      if NMap.has s.heart.pages (leafKey c.nsid lba) then s.usePage (leafKey c.nsid lba) else s
    blocks.foldl (fun s b => s.useTag c.nsid b) s) s

/-! ### Reads (R207) -/

/-- Runs of blocks that need no drive read: first index and count. -/
def directRuns : List (Nat × Loc) → List (Nat × Nat)
  | [] => []
  | (i, l) :: t =>
    match l, directRuns t with
    | .data _ _, u => u
    | _, (j, n) :: u => if j == i + 1 then (i, n + 1) :: u else (i, 1) :: (j, n) :: u
    | _, [] => [(i, 1)]

/-- The pieces of a read from its pinned translation (R126, R207): drive reads, and what needs none. -/
def State.readPinned (tag : Nat) (c : Cmd) (s : State) : State :=
  let locs := c.pins.map fun p => (p.1 - c.slba, p.2)
  let g := s.groveOf c.nsid
  let runs := (s.grove? g).elim [] fun x => chunkRuns x (locs.filterMap fun p => match p.2 with
    | .data seg off => some (p.1, seg, off)
    | _ => none)
  let s := runs.foldl (fun s r => s.readRun tag g r) s
  (directRuns locs).foldl (fun s r =>
    s.serve tag r.1 ((rangeFrom r.1 r.2).map fun i => s.direct (c.slba + i) ((locs[i]?).elim .unmapped (·.2))) none) s

/-- The range is translated: pins, release point, and the pieces of the read (R126, R138). -/
def State.translated (tag : Nat) (c : Cmd) (s : State) : State :=
  let s := s.lookups c
  let locs := (List.range c.nlb).map fun i => (i, s.loc c.nsid (c.slba + i))
  match locs.find? fun p => p.2 == .lost with
  | some (i, _) => s.finish tag { sct := 7, sc := 0x84, dw0 := w32 (c.slba + i) }
  | none =>
    let c' := { c with pins := locs.map fun p => (c.slba + p.1, p.2) }
    let s := (s.modCmd tag fun c => { c with pins := locs.map fun p => (c.slba + p.1, p.2) }).stamp tag 5
    (s.release tag).readPinned tag c'

/-- TRANSLATION_DONE (R126): every window is looked up; a page that is not in DRAM is read from the grove first. -/
def execTranslationDone (tag : Nat) (s : State) : Host.Outcome State Fault Refusal :=
  match (s.cmd? tag).filter Cmd.translating with
  | none => act false s s
  | some c =>
    let ok := s.on 0x07000000 && c.engine.all fun e => s.flows (engineDie e) 5
    match (s.pagesMissing c).head? with
    | some k => act ok (s.readPage c.nsid k) s
    | none => act ok (s.translated tag c) s

/-- SHOOT_LINGER_EXPIRY (R208): LINGER_US after its drive read a shoot stops being attachable and drops its pin. -/
def execShootLingerExpiry (shoot : Nat) (s : State) : Host.Outcome State Fault Refusal :=
  match (s.piece? shoot).filter fun x => x.shoot && x.attachable && x.done with
  | none => act false s s
  | some x =>
    act true ((s.until (x.doneAt + x.lingerUs * 1000)).endAttach shoot) s

end Sys2Proof.Machine
end

