-- ==== Sys2Proof/Machine/Dlink.lean ====
section
/-!
DEFINITION. The die links (spec/01: R12, R13) and the fencing of a Bough (spec/04: R106; spec/07: Table 7.1).
-/

namespace Sys2Proof.Machine

open Sys2Proof

/-! ### Reach (R12) -/

/-- Does a Bough reach the Trunk die or the Root die by some route? [DEDUCED, log entry 31] -/
def State.reaches (s : State) (k : Nat) : Bool := (s.dieRoute 0 k).isSome || (s.dieRoute 4 k).isSome

/-- Is a Bough fenced? -/
def State.boughFenced (s : State) (k : Nat) : Bool := (s.twig (16 * k)).fenced

/-! ### Fencing a Bough (R106) -/

/-- A started command goes on under another engine: a read runs again from its pinned translation, a write that is not all
staged starts its pull again. -/
def State.runAgain (tag : Nat) (s : State) : State :=
  match s.cmd? tag with
  | none => s
  | some c =>
    if c.status.isSome then s
    else if c.isRead && !c.pins.isEmpty then
      let s := { s with pieces := s.pieces.map fun (p : Nat × Piece) =>
        (p.1, { p.2 with recips := p.2.recips.filter fun r => r.tag != tag }) }
      let s := s.modCmd tag fun c => { c with got := [], handed := false }
      s.readPinned tag c
    else if c.opc == 1 && c.stage == .running && !c.entries.isEmpty then
      let mine : Desc → Bool := fun d => match d.kind with | .dataRead t _ => t == tag | _ => false
      let s := { s with xylem := { s.xylem with backlog := s.xylem.backlog.filter fun d => !mine d } }
      let s := (s.xylem.descs.filter fun p => mine p.2).foldl (fun s p => s.freeDesc p.1) s
      let s := s.modCmd tag fun c => { c with pulled := [] }
      s.pullData tag 0 (s.xferLen c)
    else s

/-- Place a command of a fenced Bough on the running engine with the most free contexts; a started one stays started. -/
def State.redispatch (started : Bool) (tag : Nat) (s : State) : State :=
  match s.mostFree (List.range 64) with
  | none => s.modCmd tag fun c => { c with engine := none, stage := if started then c.stage else .ready }
  | some e =>
    let t := s.twig e
    let s := s.setTwig e (if started then { t with started := t.started ++ [tag] } else { t with deque := t.deque ++ [tag] })
    let s := s.modCmd tag fun c => { c with engine := some e }
    if started then s.runAgain tag else s

/-- The drives of a Bough become failed members; a spare among them is one no more. [DEDUCED, log entry 66] -/
def State.failBough (k : Nat) (s : State) : State :=
  let ds := rangeFrom (6 * k) 6
  let s := ds.foldl (fun s d => s.setDrive d { s.drive d with spare := none }) s
  ds.foldl (fun s d => s.failDrive d) s

/-- Fence a Bough: its engines stop, its commands go elsewhere, its drives fail. -/
def State.fenceBough (k : Nat) (s : State) : State :=
  let es := rangeFrom (16 * k) 16
  let ready := es.flatMap fun e => (s.twig e).deque
  let started := es.flatMap fun e => (s.twig e).started
  let s := es.foldl (fun s e => s.setTwig e { s.twig e with fenced := true, deque := [], started := [] }) s
  let s := s.raise0 3 (48 + k)
  let s := if ready.isEmpty && started.isEmpty then s else s.raise0 5 2
  let s := started.foldl (fun s t => s.redispatch true t) s
  let s := ready.foldl (fun s t => s.redispatch false t) s
  ((s.passStripes k).failBough k).noteCredits.driven

/-- Fence every Bough that reaches neither die any more. -/
def State.fenceLost (s : State) : State :=
  (List.range 4).foldl (fun s k => if s.boughFenced k || s.reaches k then s else s.fenceBough k) s

/-! ### Rows -/

/-- DLINK_RETRAIN (R12): a link that is up retrains; one that is down stays so until the next start (log entry 96).
 [DESIGN CHOICE, log entry 96] -/
def execDlinkRetrain (link : Nat) (s : State) : Host.Outcome State Fault Refusal :=
  act ((Instr.dlinkRetrain link).wf && (s.link link == 2#2 || s.link link == 3#2))
    (({ s.setLink link 1#2 with linkAt := setNth s.linkAt link s.now }).raise0 3 link) s

/-- A retrain is over, at full or reduced width; what the replay buffers held goes on (R12). -/
def State.retrained (link : Nat) (reduced : Bool) (s : State) : State :=
  (if reduced then (s.setLink link 3#2).raise0 3 (16 + link) else s.setLink link 2#2).intake

/-- DLINK_RETRAIN_DONE (R12). -/
def execDlinkRetrainDone (link : Nat) (reduced : Bool) (s : State) : Host.Outcome State Fault Refusal :=
  act ((Instr.dlinkRetrainDone link reduced).wf && s.link link == 1#2 && s.seed.boot != .selftest) (s.retrained link reduced) s

/-- A link not back within 1 ms is down; traffic takes another route, and a Bough that has none is fenced. -/
def State.linkLost (link : Nat) (s : State) : State :=
  let s := s.until (nth s.linkAt link 0 + 1000000)
  ((s.setLink link 0#2).raise0 3 (32 + link)).fenceLost.intake

/-- DLINK_DOWN (R12). -/
def execDlinkDown (link : Nat) (s : State) : Host.Outcome State Fault Refusal :=
  act ((Instr.dlinkDown link).wf && s.link link == 1#2 && s.seed.boot != .selftest) (s.linkLost link) s

end Sys2Proof.Machine
end

