-- ==== Sys2Proof/Machine/JournalOps.lean ====
section
/-!
DEFINITION. What a durable Cambium record does (spec/05: R116, R125, R128, R429; spec/06: R162, R175), map write-back
(R124) and compaction (R132).
-/

namespace Sys2Proof.Machine

/-! ### Map changes (Table 5.5) -/

/-- Apply the pieces of a Commit: each block that is still STAGED where the piece says (R128). -/
def State.applyCommit (nsid seq : Nat) (l : List MovePiece) (s : State) : State :=
  l.foldl (fun s m => s.setRun nsid m.slba m.nlb seq (fun i x => x == .staged m.fromA (m.fromB + i))
    fun i => .data m.seg (m.off + i)) s

/-- Apply the pieces of a Relocate: each block that is still DATA at its old location. -/
def State.applyRelocate (nsid seq : Nat) (l : List MovePiece) (s : State) : State :=
  l.foldl (fun s m => s.setRun nsid m.slba m.nlb seq (fun i x => x == .data m.fromA (m.fromB + i))
    fun i => .data m.seg (m.off + i)) s

/-- Apply a LOST record: DATA at the failed location; for a lost map page every block that no write has staged since.
 [DEDUCED, log entry 85] -/
def State.applyLost (nsid seq slba nlb : Nat) (loc : Option (Nat × Nat)) (s : State) : State :=
  s.setRun nsid slba nlb seq
    (fun i x => match loc with
      | some (a, o) => x == .data a (o + i)
      | none => match x with | .staged _ _ => false | _ => true)
    fun _ => .lost

/-- The namespace is gone: every block of it is unmapped; its NSID is free once a CHECKPOINT after the delete record is durable
(R116). -/
def State.dropNamespace (nsid seq : Nat) (s : State) : State :=
  let key : Nat → Bool := fun k => k / 2 ^ 48 != nsid
  let page : Nat → Bool := fun k => k / 2 / 2 ^ 33 != nsid
  { s with heart := { s.heart with
      ns := NMap.erase s.heart.ns nsid, rootChanged := true
      map := s.heart.map.filter fun p => key p.1
      onDrive := s.heart.onDrive.filter fun p => key p.1
      rooted := s.heart.rooted.filter fun p => key p.1
      rootedLoc := s.heart.rootedLoc.filter fun p => page p.1
      gone := s.heart.gone ++ [(nsid, seq)]
      pages := s.heart.pages.filter fun p => page p.1
      pageLoc := s.heart.pageLoc.filter fun p => page p.1
      tc := s.heart.tc.map fun p => (p.1, p.2.filter fun w => w / 257 / 2 ^ 33 != nsid) } }

/-- Sessions of one list that are not in another. -/
def minus (a b : List Nat) : List Nat := a.filter fun i => !b.contains i

/-- Apply a NAMESPACE record (R115, R116, R429); a copy carried forward changes nothing of a namespace that lives. -/
def State.applyNamespace (nsid seq action : Nat) (n : Option Namespace) (s : State) : State :=
  match action, n, NMap.get? s.heart.ns nsid with
  | 1, _, _ => s.dropNamespace nsid seq
  | 0, some _, some _ => s
  | 0, some n, none => { s with heart := { s.heart with ns := NMap.set s.heart.ns nsid n, rootChanged := true } }
  | _, some n, some old =>
    let new := if old.deleting then { old with was := n.attached } else { old with attached := n.attached }
    let s := { s with heart := { s.heart with ns := NMap.set s.heart.ns nsid new, rootChanged := true } }
    (s.noteChanged nsid (minus new.attached old.attached ++ minus old.attached new.attached)).checkTols
  | _, _, _ => s

/-- The place of a page changed: its parent holds the pointer. -/
def State.parentDirty (key seq : Nat) (s : State) : State :=
  let (n, lba, _) := pageSpan key
  if key % 2 == 0 then s.dirtyPage (dirKey n lba) seq else { s with heart := { s.heart with rootChanged := true } }

/-- Entries of a map replaced within the blocks of a page: those that `mine` names become those of `image`. -/
def replaceSpan {α : Type} (mine : Nat → Bool) (m image : NMap α) : NMap α :=
  (image.filter fun p => mine p.1).foldl (fun (a : NMap α) (p : Nat × α) => NMap.set a p.1 p.2) (m.filter fun p => !mine p.1)

/-- Is a map key one of the blocks of a page; is a page key one of the leaf pages of a directory page? -/
def inPage (key x : Nat) : Bool := let (n, lo, k) := pageSpan key; mapKey n lo ≤ x && x < mapKey n lo + k
def leafOf (key x : Nat) : Bool := x % 2 == 0 && dirKey (pageSpan x).1 (pageSpan x).2.1 == key

/-- A page stands written at a location, with these contents: of a leaf page what the drives hold of its window; of a directory
page what the root reaches (R117, R132). -/
def State.pageAt (key seg off : Nat) (image : NMap Loc) (leaves : NMap (Nat × Nat)) (s : State) : State :=
  let s := { s with heart := { s.heart with pageLoc := NMap.set s.heart.pageLoc key (seg, off) } }
  if key % 2 == 0 then { s with heart := { s.heart with onDrive := replaceSpan (inPage key) s.heart.onDrive image } }
  else { s with heart := { s.heart with
      rooted := replaceSpan (inPage key) s.heart.rooted image
      rootedLoc := NMap.set (replaceSpan (leafOf key) s.heart.rootedLoc leaves) key (seg, off) } }

/-- A copied page moves if it still lies where it was (R128). -/
def State.pageMoved (key seg off : Nat) (o : Nat × Nat) (s : State) : State :=
  if NMap.get? s.heart.pageLoc key != some o then s
  else { s with heart := { s.heart with
      pageLoc := NMap.set s.heart.pageLoc key (seg, off)
      rootedLoc := if key % 2 == 1 then NMap.set s.heart.rootedLoc key (seg, off) else s.heart.rootedLoc } }

/-- Apply a PAGE_WRITTEN record: a write-back's page is clean, but for what changed since; a copied page moves if it still
lies where it was (R124, R128). -/
def State.applyPage (key seq seg off : Nat) (old : Option (Nat × Nat)) (image : NMap Loc) (leaves : NMap (Nat × Nat))
    (s : State) : State :=
  match old with
  | some o => if NMap.get? s.heart.pageLoc key == some o then (s.pageMoved key seg off o).parentDirty key seq else s
  | none =>
    match (NMap.get? s.heart.pages key).filter fun p => p.writing.isSome with
    | none => s
    | some p =>
      let s := s.pageAt key seg off image leaves
      let p' := { p with writing := none, image := [], leaves := [], dirty := p.again, again := none }
      let s := { s with heart := { s.heart with pages := NMap.set s.heart.pages key p' } }
      s.parentDirty key seq

/-- The runs of blocks that a record changes (Table 5.7). -/
def RecBody.runs : RecBody → List (Nat × Nat)
  | .extentCommit _ l => l.map fun m => (m.slba, m.nlb)
  | .relocate l => l.map fun m => (m.slba, m.nlb)
  | .zero _ a n _ => [(a, n)]
  | .deallocate _ l => l
  | .lost a n _ (some _) => [(a, n)]
  | _ => []

/-- Apply the change of a record that has become durable (R130); what a lost map page held was LOST at once (R125). -/
def State.applyRec (r : Rec) (s : State) : State :=
  match r.body with
  | .extentCommit _ l => s.applyCommit r.nsid r.seq l
  | .zero _ slba nlb deac => s.setRun r.nsid slba nlb r.seq (fun _ _ => true) fun _ => if deac then .dealloc else .zero
  | .deallocate _ l => l.foldl (fun s x => s.setRun r.nsid x.1 x.2 r.seq (fun _ _ => true) fun _ => .dealloc) s
  | .relocate l => s.applyRelocate r.nsid r.seq l
  | .lost slba nlb _ (some loc) => s.applyLost r.nsid r.seq slba nlb (some loc)
  | .lost _ _ _ none => s
  | .pageWritten key seg off old image leaves => s.applyPage key r.seq seg off old image leaves
  | .nsRecord action n => s.applyNamespace r.nsid r.seq action n
  | .segmentState _ _ _ => s
  | .rebuildCursor _ _ _ _ _ => s
  | .checkpoint _ => s
  | .pad => s

/-! ### What waited for the record -/

/-- The free segments of a grove have changed: pruner.urgent and pruner.stall on entering those modes (R173). -/
def State.noteMode (gi : Nat) (s : State) : State :=
  match s.grove? gi with
  | none => s
  | some g =>
    let m := s.prunerMode g
    let t := s.setGrove gi { g with mode := m }
    if m == g.mode || m < 2 then t else t.raise (evSrc (8 + gi) (14 + m)) 0#32

/-- A segment is free (R175): its rebuild bits go, and the last one of a zone set sends Zone Reset. -/
def State.segFreed (gi a : Nat) (s : State) : State :=
  let s := s.modGrove gi fun g => { g with segs := NMap.erase g.segs a }.modRebuilds fun r => { r with bitmap := without r.bitmap a }
  let s := s.modGrove gi fun g => if g.rbSeg == some a then { g with rbSeg := none, rbNext := 0, rbJob := none } else g
  let s := s.noteMode gi
  match s.grove? gi with
  | none => s
  | some g =>
    if g.zoned && !g.heldSets.contains (a / g.k) && (rangeFrom (a / g.k * g.k) g.k).all fun b => !NMap.has g.segs b then
      g.zoneAll gi (a / g.k) 4 s
    else s

/-- Write the label of every member of every grove (R132, R151). [DEDUCED, log entry 51] -/
def State.labelAll (tag : Option Nat) (s : State) : State :=
  (NMap.keys s.groves).foldl (fun s gi => s.writeLabels gi tag) s

/-- Append a CHECKPOINT with the tail that the ring then has. -/
def State.checkpoint (cont : Cont) (s : State) : State :=
  let s := { s with heart := { s.heart with rootChanged := false } }
  s.append 0 0 (.checkpoint s.tailSeq) cont

/-- A CHECKPOINT is durable: its location goes into every label. [DEDUCED, log entry 68] -/
def State.checkpointed (seq tail : Nat) (tag : Option Nat) (s : State) : State :=
  let at_ := (s.camb.ring.find? fun r => r.seq == seq).elim 0 fun r => 16 * r.pos
  let image := (NMap.get? s.camb.images seq).getD (s.rootImage seq tail)
  let s := { s with camb := { s.camb with
                      ckptSeq := seq, ckptPos := at_, images := s.camb.images.filter fun p => seq < p.1 }
                    heart := { s.heart with gone := s.heart.gone.filter fun p => seq < p.2 }
                    media := { s.media with ckpt := some image } }
  match tag.filter fun t => (s.cmd? t).any fun c => c.status.isNone with
  | none => s.labelAll none
  | some t => ((s.begun t .recorded).labelAll (some t)).adminDrives

/-- What a durable record lets go on. -/
def State.continue_ (r : Rec) (s : State) : State :=
  match r.body, r.cont with
  | .checkpoint tail, .admin tag => s.checkpointed r.seq tail (some tag)
  | .checkpoint tail, _ => s.checkpointed r.seq tail none
  | _, .admin tag => s.checkpoint (.admin tag)
  | _, .command tag => s.finishOk tag
  | _, .stripe gi n => s.stripeRecorded gi n
  | _, .segFree gi a => s.segFreed gi a
  | .nsRecord 1 _, .none => s.checkpoint .none
  | _, .none => s

/-- A record becomes durable: its change is applied, and what waited goes on (R128, R130). -/
def State.recordDurable (r : Rec) (s : State) : State :=
  let mark : Rec → Rec := fun x => if x.seq == r.seq then { x with durable := true } else x
  let s := { s with camb := { s.camb with ring := s.camb.ring.map mark } }
  ((s.applyRec r).continue_ r).driven

/-! ### Write-back (R124) -/

/-- Dirty pages. -/
def State.dirtyPages (s : State) : NMap Page := s.heart.pages.filter fun p => p.2.dirty.isSome

/-- The grove that a page belongs to. -/
def State.pageGrove (s : State) (key : Nat) : Option Nat := (NMap.get? s.heart.ns (pageSpan key).1).map (·.grove)

/-- Write-backs under way in a grove. -/
def State.writeBacks (s : State) (gi : Nat) : Nat :=
  (s.heart.pages.filter fun p => p.2.writing.isSome && s.pageGrove p.1 == some gi).length

/-- May the page be written back: dirty, none of it on its way, nothing STAGED in it (R121), RATE allowing, and room for it in
staging, the reserve included (R153)? -/
def State.canWriteBack (s : State) (key : Nat) : Bool :=
  (NMap.get? s.heart.pages key).any (fun p => p.dirty.isSome && p.writing.isNone) && !s.pagePinned key
    && (match s.pageGrove key with
      | some gi => (s.grove? gi).any (fun g => !g.offline) && s.writeBacks gi < max 1 (s.fld 0x07000008 15 8)
      | none => false)
    && s.slotsFree > 0 && s.headersFree > 0

/-- Does write-back start without the ring asking: the dirty share is above DIRTY_PCT, or no page can be evicted?
 [DEDUCED, log entry 68] -/
def State.writeBackDue (s : State) : Bool :=
  s.dirtyPages.length * 100 > s.fld 0x07000008 7 0 * s.pageRoom
    || (s.heart.pages.length ≥ s.pageRoom && s.evictable.isNone)

/-- Stage a page in the MAP stream. -/
def State.writeBack (key : Nat) (s : State) : State :=
  match s.pageGrove key with
  | none => s
  | some gi =>
    let bytes := s.pageBytes key
    let (image, leaves) := s.pageHolds key
    let (e, s) := s.newEntry { stream := .map, grove := gi, released := true, blocks := [some (sealed bytes 0 0)]
                               src := [(0, key, 0, 0)] }
    let s := { s with heart := { s.heart with pages := NMap.modify s.heart.pages key fun p =>
      { p with writing := some e, image := image, leaves := leaves, again := none } } }
    (s.queueEntry e).pump

/-! ### Compaction (R132) -/

/-- The dirty page with the lowest first-dirtied SEQ, a leaf before a directory page. -/
def State.oldestDirty (s : State) : Option Nat :=
  ((s.dirtyPages.filter fun p => s.canWriteBack p.1).foldl (fun (best : Option (Nat × Nat)) p =>
    let k := p.2.dirty.getD 0 * 2 + p.1 % 2
    match best with
    | none => some (p.1, k)
    | some b => if k < b.2 then some (p.1, k) else some b) none).map (·.1)

/-- Is the record one of a write whose staging entry still exists? -/
def State.stagedWrite (s : State) (r : Rec) : Bool :=
  match r.body with
  | .extentCommit f _ => s.sapw.entries.any fun e => e.2.stream == .host && e.2.fseq == f
  | _ => false

/-- The tail that compaction may move to (R132); a record not yet durable stays, and without a CHECKPOINT nothing moves. -/
def State.newTail (s : State) : Nat :=
  if s.camb.ckptSeq == 0 then s.tailSeq
  else
    let firsts := s.heart.pages.filterMap fun p => p.2.dirty
    let staged := ((s.camb.ring.find? s.stagedWrite).map (·.seq)).toList
    max s.tailSeq ((firsts ++ staged).foldl min (min s.camb.ckptSeq (s.headSeq + 1)))

/-- Is a record one that Table 5.7 carries forward (not a poisoned one, R388): the latest of its kind for a segment not yet free, a live namespace, a
rebuild in progress? -/
def State.carried (s : State) (r : Rec) : Bool :=
  let later : (RecBody → Bool) → Bool := fun p => s.camb.ring.any fun x => !x.poisoned && x.seq > r.seq && x.grove == r.grove && x.nsid == r.nsid && p x.body
  if r.poisoned then false else match r.body with
  | .segmentState seg _ _ =>
    !later (fun b => match b with | .segmentState a _ _ => a == seg | _ => false)
      && (s.grove? r.grove).any fun g => NMap.has g.segs seg
  | .nsRecord _ _ =>
    !later (fun b => match b with | .nsRecord _ _ => true | _ => false) && NMap.has s.heart.ns r.nsid
  | .rebuildCursor slot _ _ _ _ =>
    !later (fun b => match b with | .rebuildCursor x _ _ _ _ => x == slot | _ => false)
      && (s.grove? r.grove).any fun g => g.rebuilds.any fun x => x.slot == slot
  | _ => false

/-- Move the tail: what Table 5.7 carries forward is appended again, from the ring reserve (R425). -/
def State.moveTail (s : State) : State :=
  let t := s.newTail
  let cut := s.camb.ring.filter fun r => r.seq < t
  let fwd := cut.filter s.carried
  if (fwd.map (·.units)).sum > s.ringUnits - s.ringUsed then s
  else
    let s := { s with camb := { s.camb with ring := s.camb.ring.filter fun r => t ≤ r.seq } }
    (fwd.foldl (fun s r => s.pushRec r.grove r.nsid r.body .none) s).resumeAppends

/-- Is a CHECKPOINT on its way? -/
def State.ckptOut (s : State) : Bool :=
  s.camb.ring.any (fun r => !r.durable && (match r.body with | .checkpoint _ => true | _ => false))
    || s.camb.waiting.any fun w => match w.2.2.1 with | .checkpoint _ => true | _ => false

/-- One round of compaction: write back the oldest dirty page, record a CHECKPOINT where a root pointer changed, move the tail;
it is over below LOW_PCT. [DEDUCED, log entry 68] -/
def State.compact (s : State) : State :=
  let s := match s.oldestDirty with
    | some k => s.writeBack k
    | none => s
  let s := if s.heart.rootChanged && !s.ckptOut then s.checkpoint .none else s
  let s := s.moveTail
  if s.ringPct < s.fld 0x06000008 15 8 then { s with camb := { s.camb with compacting := false } } else s

end Sys2Proof.Machine
end

