-- ==== Sys2Proof/Machine/GroveOps.lean ====
section
/-!
DEFINITION. Groves at work: opening stripes and segments (spec/06: R159, R161, R171), the Pruner (R173 to R175), and one
stripe of a resynchronization (spec/07: R199, R200).
-/

namespace Sys2Proof.Machine

/-! ### Opening a stripe (R159, R161) -/

/-- The segments of a zone set (itself, on a conventional grove) that are not free. -/
def Grove.setSegs (g : Grove) (u : Nat) : NMap Seg := g.segs.filter fun p => p.1 / g.k == u

/-- Zone sets (segments) in use, ascending, and how many are free. -/
def Grove.usedSets (g : Grove) : List Nat :=
  g.heldSets.foldl (fun l u => insertAsc u l) (g.segs.map fun p => p.1 / g.k).eraseDups
def Grove.freeSets (g : Grove) : Nat := g.segCount / g.k - g.usedSets.length

/-- The number at place `i` among those not in an ascending list. -/
def nthFree (used : List Nat) (i : Nat) : Nat := used.foldl (fun x u => if u ≤ x then x + 1 else x) i

/-- The stripe that a stream opens next without taking another segment: in its open segment, or in the next one of its zone
set. -/
def Grove.nextStripe (g : Grove) (k : Stream) : Option Nat :=
  match (g.stream k).seg with
  | some a =>
    if (g.stream k).next < 64 then some (64 * a + (g.stream k).next)
    else if g.zoned && a % g.k != g.k - 1 then some (64 * (a + 1))
    else none
  | none => none

/-- May the stream open another segment: the HOST stream none in Stalled mode (Table 6.8)? -/
def State.maySegment (s : State) (g : Grove) (k : Stream) : Bool :=
  g.freeSets > 0 && (k != .host || s.prunerMode g != 3)

/-- Does P or Q of a stripe that was in the window before the start have to be rewritten first (R164)? -/
def Grove.rewriting (g : Grove) : Bool := g.stripes.any fun p => p.2.rewrite && !(p.2.pDone && p.2.qDone)

/-- May a stream open a stripe? [DESIGN CHOICE, log entry 61] -/
def State.canOpen (s : State) (gi : Nat) (k : Stream) : Bool :=
  s.on 0x0B000000 && s.sap.flush.isNone && s.assembler.isSome && (s.grove? gi).any fun g =>
    !g.offline && (g.stream k).cur.isNone && !(g.stream k).queue.isEmpty && !g.rewriting
      && (match g.nextStripe k with
        | some n => NMap.has g.segs (n / 64) || k != .host || s.prunerMode g != 3
        | none => s.maySegment g k)

/-- Take a segment into use: its state, its record, and Zone Open on the first one of a zone set (R171, R172). The stream's
intent bound stays where it already covers the segment. -/
def State.openSeg (gi a : Nat) (k : Stream) (s : State) : State :=
  match s.grove? gi with
  | none => s
  | some g =>
    let st := g.stream k
    let covered := (st.seg.any fun o => o < a) && 64 * a < st.bound
    let bound := if covered then st.bound else 64 * a
    let g := { g with
      segs := NMap.set g.segs a { st := 0, stream := k }
      intent := g.intent.map fun i => if covered then i else { i with bounds := match k with
        | .host => (bound, i.bounds.2) | .reloc => (i.bounds.1, bound, i.bounds.2.2) | .map => (i.bounds.1, i.bounds.2.1, bound) } }
    let s := s.setGrove gi (g.setStream k { st with
      seg := some a, next := 0, bound := bound, zone := if g.zoned then some (a / g.k) else none })
    let s := (s.segRecord gi a 0 .none).noteMode gi
    if g.zoned && a % g.k == 0 then g.zoneAll gi (a / g.k) 1 s else s

/-- The segment that a stream takes when it needs another one: which free one is open (a free value).
 [DESIGN CHOICE, log entry 61] -/
def State.newSeg (gi : Nat) (k : Stream) (s : State) : State :=
  match s.grove? gi with
  | none => s
  | some g =>
    let (i, s) := s.draw g.freeSets
    s.openSeg gi (nthFree g.usedSets i * g.k) k

/-- Put stripe `n` under an engine, with a parity buffer of its Bough; the chunks of slots without a drive are missing.
 [DEDUCED, log entry 62] -/
def State.putStripe (gi n e : Nat) (k : Stream) (s : State) : State :=
  let s := { s with asmNext := (e + 1) % 64 }
  s.modGrove gi fun g =>
    let gone := (List.range g.n).filter fun t => !g.writable t
    let x : Stripe := { stream := k, lastAdd := s.now, engine := some e, parityBuf := true, missing := gone
                        pDone := gone.contains (g.pSlot n), qDone := gone.contains (g.qSlot n) }
    let g := { g with stripes := NMap.set g.stripes n x }
    g.setStream k { g.stream k with cur := some n, next := n % 64 + 1 }

/-- A stream opens a stripe, in another segment where the one it has is full. -/
def State.openStripe (gi : Nat) (k : Stream) (s : State) : State :=
  match s.assembler with
  | none => s
  | some e =>
    let s := match (s.grove? gi).bind fun g => g.nextStripe k with
      | some n => if n % 64 == 0 && !(s.grove? gi).any (fun (g : Grove) => NMap.has g.segs (n / 64)) then s.openSeg gi (n / 64) k else s
      | none => s.newSeg gi k
    match (s.grove? gi).bind fun g => g.nextStripe k with
    | some n => (s.putStripe gi n e k).pump
    | none => s

/-! ### The Pruner (R173 to R175, R192) -/

/-- Live blocks of a zone set (a segment). -/
def State.setLive (s : State) (gi : Nat) (g : Grove) (u : Nat) : Nat := ((g.setSegs u).map fun p => s.live gi p.1).sum

/-- May the Pruner reclaim a zone set (a segment) now: sealed whole, and live-0, suspect, or what its mode takes? -/
def State.isVictim (s : State) (gi : Nat) (g : Grove) (u : Nat) : Bool :=
  let l := g.setSegs u
  let live := s.setLive gi g u
  let m := s.prunerMode g
  !l.isEmpty && l.all (fun p => p.2.st == 1) && !g.heldSets.contains u
    && (live == 0 || (s.on 0x0C000000 && (l.any (fun p => p.2.suspect) || m ≥ 2
      || (m == 1 && live * 100 ≤ s.fld 0x0C000004 23 16 * (64 * g.w * l.length)))))

/-- Order of choice: suspect ones first, then the lowest live count, then the one sealed earliest. -/
def State.victimKey (s : State) (gi : Nat) (g : Grove) (u : Nat) : Nat × Nat × Nat :=
  let l := g.setSegs u
  (if s.on 0x0C000000 && l.any (fun p => p.2.suspect) then 0 else 1, s.setLive gi g u,
    (l.map fun p => p.2.sealedAt).foldl min (l.head?.elim 0 fun p => p.2.sealedAt))

/-- Is one key before another? -/
def keyLt (a b : Nat × Nat × Nat) : Bool :=
  a.1 < b.1 || (a.1 == b.1 && (a.2.1 < b.2.1 || (a.2.1 == b.2.1 && a.2.2 < b.2.2)))

/-- The victim (R174). -/
def State.pruneVictim (s : State) (gi : Nat) (g : Grove) : Option Nat :=
  (g.usedSets.filter (s.isVictim gi g)).foldl (fun best u => match best with
    | none => some u
    | some b => if keyLt (s.victimKey gi g u) (s.victimKey gi g b) then some u else some b) none

/-- Reclaim one segment: its state and record, and the reads of what is still live in it (R175).
 [DEDUCED, log entry 63] -/
def State.reclaim (gi a : Nat) (s : State) : State :=
  match s.grove? gi with
  | none => s
  | some g =>
    match NMap.get? g.segs a with
    | none => s
    | some y =>
      let s := (s.setGrove gi { g with segs := NMap.set g.segs a { y with st := 2 } }).segRecord gi a 2 .none
      let offs := (y.summary.map fun x => x.2.2).filter fun o => s.liveAt gi a o
      let cls := if s.prunerMode g ≥ 2 then 0 else 1
      (chunkRuns g (offs.zipIdx.map fun p => (p.2, a, p.1))).foldl (fun s x =>
        s.startPiece { grove := gi, seg := a, stripe := x.2.2.1, d := x.2.2.2.1, b0 := x.2.2.2.2.1, nb := x.2.2.2.2.2
                       recips := [], copy := true, cls := cls } none) s

/-- Reclaim the victim: on a zoned grove every segment of its zone set. [DEDUCED, log entry 63] -/
def State.prune (gi : Nat) (s : State) : State :=
  let s := s.noteMode gi
  match s.grove? gi with
  | none => s
  | some g =>
    match s.pruneVictim gi g with
    | none => s
    | some u => ((g.setSegs u).foldl (fun s p => s.reclaim gi p.1) s).pump

/-- May a segment be freed (R175): reclaimed or sealed with nothing live left, its copies out of the window, no pin?
 [DEDUCED, log entry 63] -/
def State.canFree (s : State) (gi a : Nat) : Bool :=
  (s.grove? gi).any (fun g => !g.offline && (NMap.get? g.segs a).any fun y => y.st == 2 || y.st == 1)
    && s.live gi a == 0
    && !(s.pieces.any fun p => p.2.copy && p.2.grove == gi && p.2.seg == a)
    && !(((s.sapw.entries.map (·.2)) ++ s.sapw.queued).any fun e =>
      e.stream == .reloc && e.grove == gi && e.src.any fun x => x.2.2.1 == a)
    && !s.segPinned gi a

/-- Append SEGMENT_STATE free; the segment is free once it is durable. -/
def State.freeSeg (gi a : Nat) (s : State) : State :=
  (s.modGrove gi fun g => { g with segs := NMap.modify g.segs a fun y => { y with st := 3 } }).segRecord gi a 3 (.segFree gi a)

/-! ### Resynchronization (R199, R200) -/

/-- The next stripe of the resync order that no rebuild will come to is checked (R199). [DEDUCED, log entry 65] -/
def State.resyncNext (gi n : Nat) (chunks : List (Option (List (List Byte)))) (s : State) : State :=
  match s.grove? gi with
  | none => s
  | some g =>
    let chunk : Nat → Option (List (List Byte)) := fun t => if g.readable t n then (chunks[t]?).bind id else none
    ((s.checkStripe gi n chunk).verified gi n).pump

end Sys2Proof.Machine
end

