-- ==== Sys2Proof/Machine/Grove.lean ====
section
/-!
DEFINITION. The rows of GROVE, the Pruner and the drive completions (spec/06, spec/07; spec/14: R323).
-/

namespace Sys2Proof.Machine

open Sys2Proof

/-- STRIPE_OPEN (R161): a stream with staged blocks opens a stripe. -/
def execStripeOpen (grove : Nat) (stream : Stream) (s : State) : Host.Outcome State Fault Refusal :=
  act ((Instr.stripeOpen grove stream).wf && s.canOpen grove stream) (s.openStripe grove stream) s

/-- The open stripe of a stream, where CLOSE_MS closes it. -/
def State.idleStripe (s : State) (gi : Nat) (k : Stream) : Option Stripe :=
  if s.fld 0x0B000008 15 0 == 0 || !s.on 0x0B000000 then none
  else (s.grove? gi).bind fun g => if g.offline then none else (g.stream k).cur.bind fun n => NMap.get? g.stripes n

/-- STRIPE_IDLE_CLOSE (R160): CLOSE_MS after the last block was added the stripe is closed with padding. -/
def execStripeIdleClose (grove : Nat) (stream : Stream) (s : State) : Host.Outcome State Fault Refusal :=
  match s.idleStripe grove stream with
  | none => act false s s
  | some x => act (Instr.stripeIdleClose grove stream).wf
      (((s.until (x.lastAdd + s.fld 0x0B000008 15 0 * 1000000)).closeCur grove stream).pump) s

/-- The outcome as Table 14.5 sees it: Command Abort Requested without an Abort is an error like any other.
 [DEDUCED, log entry 48] -/
def DriveCmd.outcome (c : DriveCmd) (r : DriveResult) : DriveResult :=
  match r with
  | .aborted => if c.abortAt.isSome then .aborted else .error 0 7
  | r => r

/-- The die that the end of a drive command is for: the Trunk die for the data of a host's read (R10), else the Root die. -/
def State.endDie (s : State) (c : DriveCmd) : Nat :=
  let host : Nat → Bool := fun p => (s.piece? p).any fun x => !x.copy && x.page.isNone
  match c.purpose with
  | .piece p _ => if host p then 0 else 5
  | .recon p _ _ => if host p then 0 else 5
  | _ => 5

/-- DRIVE_COMMAND_COMPLETE (R323): read data leaves its drive's Bough by that Bough's own way (R10). -/
def execDriveCommandComplete (drive cmd : Nat) (result : DriveResult) (s : State) : Host.Outcome State Fault Refusal :=
  match s.cmdAt drive cmd with
  | none => act false s s
  | some c => act ((Instr.driveCommandComplete drive cmd result).wf && !(s.drive drive).resetting
        && s.flows (driveDie drive) (s.endDie c))
      (((s.endCmd drive c (c.outcome result)).checkOff drive).driven) s

/-- PRUNER_VICTIM_SELECT (R174). -/
def execPrunerVictimSelect (grove : Nat) (s : State) : Host.Outcome State Fault Refusal :=
  act ((Instr.prunerVictimSelect grove).wf && (s.grove? grove).any fun g => !g.offline && (s.pruneVictim grove g).isSome)
    (s.prune grove) s

/-- SEGMENT_FREE (R175). -/
def execSegmentFree (grove seg : Nat) (s : State) : Host.Outcome State Fault Refusal :=
  act ((Instr.segmentFree grove seg).wf && s.canFree grove seg) (s.freeSeg grove seg) s

/-- MEMBER_FAIL (R181). -/
def execMemberFail (grove slot : Nat) (s : State) : Host.Outcome State Fault Refusal :=
  act ((Instr.memberFail grove slot).wf
      && (s.grove? grove).any fun g => (g.members[slot]?).any fun m => m.st != .failed)
    (s.failMember grove slot).driven s

/-- The segment whose every stripe is on the spares. -/
def Grove.rebuiltSeg (g : Grove) : Option Nat :=
  if g.rbJob.isNone && g.rbNext ≥ 64 && !g.paused && !g.offline then g.rbSeg else none

/-- REBUILD_SEGMENT_DONE (R185). -/
def execRebuildSegmentDone (grove : Nat) (s : State) : Host.Outcome State Fault Refusal :=
  match (s.grove? grove).bind Grove.rebuiltSeg with
  | none => act false s s
  | some a => act (Instr.rebuildSegmentDone grove).wf ((s.segRebuilt grove a).pump) s

/-- The stripe that a resynchronization comes to next, once start-up is over (R347). [DEDUCED, log entry 65] -/
def State.resyncAt (s : State) (gi : Nat) : Option Nat :=
  if s.seed.boot != .running then none else (s.grove? gi).bind fun g => if g.offline then none
    else g.resync.bind fun r => r.todo.find? fun n => !g.rebuilds.any fun x => x.bitmap.contains (n / 64)

/-- RESYNC_STRIPE (R199). -/
def execResyncStripe (grove : Nat) (chunks : List (Option (List (List Byte)))) (s : State) :
    Host.Outcome State Fault Refusal :=
  match s.resyncAt grove with
  | none => act false s s
  | some n => act (Instr.resyncStripe grove chunks).wf (s.resyncNext grove n chunks) s

end Sys2Proof.Machine
end

