-- ==== Sys2Proof/Machine/Journal.lean ====
section
/-!
DEFINITION. The rows of Heartwood and Cambium (spec/05: R124, R128, R132).
-/

namespace Sys2Proof.Machine

open Sys2Proof

/-- The oldest record that is not durable: records become durable in the order of their SEQ (R130). -/
def State.nextRecord (s : State) : Option Rec := s.camb.ring.find? fun r => !r.durable

/-- JOURNAL_RECORD_DURABLE (R128): a record whose append had begun completes, whatever CAMBIUM_CTRL.ENABLE says (R140). A map page
that its change needs is read from the grove first, or waits for room (R122, R124). [DEDUCED, log entry 58] -/
def execJournalRecordDurable (s : State) : Host.Outcome State Fault Refusal :=
  match s.nextRecord with
  | none => act false s s
  | some r =>
    match s.changeMissing r.nsid r.body.runs with
    | k :: _ => act true (s.readPage r.nsid k) s
    | [] => act (s.changeFits r.nsid r.body.runs) (s.recordDurable r) s

/-- CAMBIUM_COMPACT (R132): compaction waits while CAMBIUM_CTRL.ENABLE is 0 (R140). -/
def execCambiumCompact (s : State) : Host.Outcome State Fault Refusal :=
  act (s.camb.compacting && s.on 0x06000000) s.compact s

/-- PAGE_WRITEBACK (R124): a dirty page is staged in the MAP stream. -/
def execPageWriteback (page : Nat) (s : State) : Host.Outcome State Fault Refusal :=
  act ((s.writeBackDue || (s.camb.compacting && s.on 0x06000000)) && s.canWriteBack page) (s.writeBack page) s

end Sys2Proof.Machine
end

