-- ==== Sys2Proof/Machine/Ports.lean ====
section
/-!
DEFINITION. The commands of the ports, the Timebase and MGMT (spec/10) that are no register access.
-/

namespace Sys2Proof.Machine

/-- LINK_UP (R240). -/
def execLinkUp (point : Nat) (s : State) : Host.Outcome State Fault Refusal :=
  act (s.canLink point) (s.linkUp point) s

/-- LINK_DOWN (R240); `pcs`: its PCS has lost alignment (kind 6 of Table 10.2). -/
def execLinkDown (point : Nat) (s : State) (pcs : Bool := false) : Host.Outcome State Fault Refusal :=
  let t := s.linkDown point
  act (linkPoint point && (s.port point).up) (if pcs then t.indicate point 6 else t) s

/-- TIMEBASE_SET (R248): TIME_OP.SET. Gate lists follow the new time at once (R254). -/
def execTimebaseSet (s : State) : Host.Outcome State Fault Refusal := act true s.timeSet s

/-- TIMEBASE_STEP (R248): TIME_OP.STEP. -/
def execTimebaseStep (s : State) : Host.Outcome State Fault Refusal := act true s.timeStep s

/-- PPS_IN_CAPTURE (R251), whether or not the Timebase runs. -/
def execPpsInCapture (s : State) : Host.Outcome State Fault Refusal :=
  act (s.seed.boot != .reset && s.seed.boot != .heldDead) s.ppsIn s

/-- PPS_OUT_PULSE (R251). -/
def execPpsOutPulse (s : State) : Host.Outcome State Fault Refusal :=
  act (s.tbOn && s.flag 0x17000000 1 && s.fld 0x17000030 29 0 < 1000000000) s.ppsOut s

/-- GATE_ENTRY_ADVANCE (R252). -/
def execGateEntryAdvance (point : Nat) (s : State) : Host.Outcome State Fault Refusal :=
  act (linkPoint point && s.gateRuns point) (s.gateAdvance point) s

/-- MDIO_START (R255): MMAC_MDIO.START. -/
def execMdioStart (s : State) : Host.Outcome State Fault Refusal := act (s.portOn 34 && !s.mmac.mdioBusy) s.mdioStart s

/-- MDIO_DONE (R255): BUSY clears; a read leaves its data in MMAC_MDIO.DATA. -/
def execMdioDone (value : BitVec 16) (s : State) : Host.Outcome State Fault Refusal :=
  let r := s.reg 0x16000008
  actR s.mmac.mdioBusy
    (if bit r 26 then s.regs else s.regs.put 0x16000008 ((r &&& 0x041F0000#32) ||| w32 value.toNat))
    { s with mmac := { s.mmac with mdioBusy := false } } s

/-- PHY_AUTO_POLL (R255). -/
def execPhyAutoPoll (r1 r4 r5 r9 r10 : BitVec 16) (s : State) : Host.Outcome State Fault Refusal :=
  act (s.portOn 34 && s.autoOn) (s.autoPoll (resolvePhy r1 r4 r5 r9 r10)) s

/-- MGMT_COLLISION (R256). -/
def execMgmtCollision (bits : Nat) (s : State) : Host.Outcome State Fault Refusal :=
  act s.attempting (s.collide bits) s

/-- MGMT_BACKOFF_EXPIRY (R256). -/
def execMgmtBackoffExpiry (s : State) : Host.Outcome State Fault Refusal := act s.mmac.backoff.isSome s.retryMgmt s

/-- CARRIER_SENSE_DEASSERT (R256); `lost`: in the middle of MGMT's own transmission (kind 5 of Table 10.2). -/
def execCarrierSenseDeassert (s : State) (lost : Bool := false) : Host.Outcome State Fault Refusal :=
  act (s.halfDuplex && s.mmac.carrier && (!lost || s.attempting)) (s.carrierDrop lost) s

/-- PHY_RESET_RELEASE (R415): 10 ms after RESET_N rises. -/
def execPhyResetRelease (s : State) : Host.Outcome State Fault Refusal :=
  act (!s.mmac.phyRstN && s.seed.boot != .reset) s.phyRelease s

end Sys2Proof.Machine
end

