-- ==== Sys2Proof/Machine/Rootlet.lean ====
section
/-!
DEFINITION. The Rootlets' rows (spec/14): bringing up a drive (R309, R315), removal (R316), AER, inbound violations and
containment (R313, R314), timeouts and resets (R322).
-/

namespace Sys2Proof.Machine

open Sys2Proof

/-- DRIVE_PRESENT (R315): PRSNT_N falls; the debounce starts where the port is enabled and not powered off. -/
def State.inserted (d : Nat) (s : State) : State :=
  let s := s.setDrive d { s.drive d with present := true }
  if s.rootOn d && !s.powerOff d && (s.drive d).st == .absent then s.detect d else s

def execDrivePresent (drive : Nat) (s : State) : Host.Outcome State Fault Refusal :=
  act ((Instr.drivePresent drive).wf && !(s.drive drive).present) (s.inserted drive) s

/-- DEBOUNCE_EXPIRY (R315): PRSNT_N was low throughout; PWREN is driven high. -/
def execDebounceExpiry (drive : Nat) (s : State) : Host.Outcome State Fault Refusal :=
  act ((Instr.debounceExpiry drive).wf && (s.drive drive).st == .debouncing)
    ((s.until (s.drive drive).deadline).powerUp drive) s

/-- POWER_DELAY_EXPIRY (R315): PERST_N is released and the link trains. -/
def execPowerDelayExpiry (drive : Nat) (s : State) : Host.Outcome State Fault Refusal :=
  act ((Instr.powerDelayExpiry drive).wf && (s.drive drive).st == .powering)
    ((s.until (s.drive drive).deadline).train drive (s.maxGen drive)) s

/-- LINK_TRAINED (R309): the link is active at a generation and width. -/
def execLinkTrained (drive gen width : Nat) (s : State) : Host.Outcome State Fault Refusal :=
  act ((Instr.linkTrained drive gen width).wf && s.canTrain drive gen width) (s.linkTrained drive gen width) s

/-- LINK_TRAIN_TIMEOUT (R309): 100 ms pass without L0. -/
def execLinkTrainTimeout (drive : Nat) (s : State) : Host.Outcome State Fault Refusal :=
  act ((Instr.linkTrainTimeout drive).wf && (s.drive drive).st.isTraining)
    ((s.until (s.drive drive).deadline).trainLower drive).driven s

/-- LINK_EQUALIZATION_FAIL (R309). -/
def execLinkEqualizationFail (drive : Nat) (s : State) : Host.Outcome State Fault Refusal :=
  act ((Instr.linkEqualizationFail drive).wf && (s.drive drive).st.isTraining) (s.trainLower drive).driven s

/-- CONFIG_WAIT_EXPIRY (R315): the first configuration request. -/
def execConfigWaitExpiry (drive : Nat) (s : State) : Host.Outcome State Fault Refusal :=
  act ((Instr.configWaitExpiry drive).wf && (s.drive drive).st == .waiting)
    (let u := s.until (s.drive drive).deadline; u.setDrive drive { u.drive drive with st := .initialising }) s

/-- DRIVE_INIT_DONE (R318, R319): the controller is ready, its queues exist, and the drive is qualified or not. -/
def execDriveInitDone (drive : Nat) (info : DriveInfo) (s : State) : Host.Outcome State Fault Refusal :=
  act ((Instr.driveInitDone drive info).wf && (s.drive drive).st == .initialising) (s.initDone drive info).driven s

/-- DRIVE_INIT_TIMEOUT (R315): Initialise did not end within its limit. -/
def execDriveInitTimeout (drive : Nat) (s : State) : Host.Outcome State Fault Refusal :=
  act ((Instr.driveInitTimeout drive).wf && (s.drive drive).st == .initialising) (s.settleFail drive).driven s

/-- SURPRISE_REMOVAL (R316): PRSNT_N has been high for more than 1 ms. -/
def execSurpriseRemoval (drive : Nat) (s : State) : Host.Outcome State Fault Refusal :=
  act ((Instr.surpriseRemoval drive).wf && (s.drive drive).present) (s.removed drive).driven s

/-- AER_CORRECTABLE (R314): counted, no event. [DEDUCED, log entry 67] -/
def execAerCorrectable (drive : Nat) (s : State) : Host.Outcome State Fault Refusal :=
  act ((Instr.aerCorrectable drive).wf && (s.drive drive).linked) (s.count (78 + drive) 3 1) s

/-- AER_NONFATAL (R314): the command that the TLP names fails. -/
def execAerNonfatal (drive cmd : Nat) (s : State) : Host.Outcome State Fault Refusal :=
  match s.cmdAt drive cmd with
  | none => act false s s
  | some c => act (Instr.aerNonfatal drive cmd).wf (s.nonFatal drive c).driven s

/-- AER_FATAL (R314): containment. -/
def execAerFatal (drive : Nat) (s : State) : Host.Outcome State Fault Refusal :=
  act ((Instr.aerFatal drive).wf && (s.drive drive).linked) (s.contain drive).driven s

/-- INBOUND_VIOLATION (R313): an inbound request outside what Table 14.2 and the open slots allow.
 [DEDUCED, log entry 67] -/
def execInboundViolation (drive : Nat) (isWrite : Bool) (addr : W64) (len : Nat) (s : State) :
    Host.Outcome State Fault Refusal :=
  act ((Instr.inboundViolation drive isWrite addr len).wf && (s.drive drive).linked
      && !(s.drive drive).inboundOk isWrite addr.toNat len) (s.contain drive).driven s

/-- CONTAINMENT_RELEASE (R314): 100 ms of containment are over. -/
def execContainmentRelease (drive : Nat) (s : State) : Host.Outcome State Fault Refusal :=
  act ((Instr.containmentRelease drive).wf && (s.drive drive).st == .contained) (s.release_ drive).driven s

/-- DRIVE_COMMAND_TIMEOUT (R322): CMD_MS passed; the Abort goes out. -/
def execDriveCommandTimeout (drive cmd : Nat) (s : State) : Host.Outcome State Fault Refusal :=
  match (s.cmdAt drive cmd).filter fun c => c.abortAt.isNone with
  | none => act false s s
  | some c => act ((Instr.driveCommandTimeout drive cmd).wf && !(s.drive drive).resetting) (s.cmdTimeout drive c) s

/-- ABORT_WAIT_EXPIRY (R322): ABORT_MS passed; the controller is reset. -/
def execAbortWaitExpiry (drive cmd : Nat) (s : State) : Host.Outcome State Fault Refusal :=
  match (s.cmdAt drive cmd).filter fun c => c.abortAt.isSome with
  | none => act false s s
  | some c => act ((Instr.abortWaitExpiry drive cmd).wf && !(s.drive drive).resetting) (s.ctrlReset drive c).driven s

/-- CONTROLLER_RESET_DONE (R322): with success, what was at the drive is handled as ended by the Abort. -/
def execControllerResetDone (drive : Nat) (ok : Bool) (s : State) : Host.Outcome State Fault Refusal :=
  act ((Instr.controllerResetDone drive ok).wf && (s.drive drive).resetting) (s.resetDone drive ok).driven s

/-- ROOTLET_DISABLE_WAIT_EXPIRY (R315): commands still at the drive after CMD_MS end as failed. -/
def execRootletDisableWaitExpiry (drive : Nat) (s : State) : Host.Outcome State Fault Refusal :=
  act ((Instr.rootletDisableWaitExpiry drive).wf && (s.drive drive).disabling)
    ((s.until (s.drive drive).deadline).driveOff drive).driven s

end Sys2Proof.Machine
end

