-- ==== Sys2Proof/Machine/SapRows.lean ====
section
/-!
DEFINITION. The commands of Sap (spec/15) and of the power-fail flush (spec/06: R155 to R157).
-/

namespace Sys2Proof.Machine

/-- Does Sap act: some clock of the device runs, and no flush has been sealed? -/
def State.sapRuns (s : State) : Bool := s.alive && s.sap.flush != some .sealed

/-- SAP_IDLE_EXPIRY (R332). -/
def execSapIdleExpiry (res : Res) (sp : Nat) (s : State) : Host.Outcome State Fault Refusal :=
  act (s.sapRuns && res.ok && sp < 4 && s.mayDeepen res sp) (s.idleExpiry res sp) s

/-- SAP_STATE_EXIT (R330, R332). -/
def execSapStateExit (res : Res) (s : State) : Host.Outcome State Fault Refusal :=
  act (s.sapRuns && res.ok && s.mayExit res) (s.stateExit res) s

/-- POWER_STATE_EXIT_DONE (R328). -/
def execPowerStateExitDone (res : Res) (s : State) : Host.Outcome State Fault Refusal :=
  act (s.sapRuns && res.ok && (s.res res).exiting.isSome) (s.exitDone res) s

/-- DROOP_TRIP (R335). -/
def execDroopTrip (die : Nat) (s : State) : Host.Outcome State Fault Refusal :=
  act (s.alive && dieIndex die) (s.droop die) s

/-- DROOP_RELEASE (R335). -/
def execDroopRelease (die : Nat) (s : State) : Host.Outcome State Fault Refusal :=
  act (s.alive && dieIndex die && nth s.sap.slowed die false) (s.droopEnd die) s

/-- THERMAL_SAMPLE (R337, R338). -/
def execThermalSample (temps : List (List Nat)) (s : State) : Host.Outcome State Fault Refusal :=
  act (s.alive && temps.length == 6) (s.thermal temps) s

/-- THROTTLE_STEP (R337). -/
def execThrottleStep (die : Nat) (s : State) : Host.Outcome State Fault Refusal :=
  act (s.alive && dieIndex die && s.thermDue die) (s.thermStep die) s

/-! ### Power fail -/

/-- Is there a region that a flush could be about: start-up has passed the Image phase? [DEDUCED, log entry 73] -/
def State.flushable (s : State) : Bool :=
  match s.seed.boot with
  | .reset => false
  | .clocks => false
  | .selftest => false
  | .image => false
  | .heldDead => false
  | _ => true

/-- PWRFAIL_N falls and stays low for 1 µs. -/
def State.powerLow (s : State) : State :=
  let s := ({ s with sap := { s.sap with pwrfailLow := true } }).advance 1000
  if s.flushable then s.startFlush else s

/-- PWRFAIL_ASSERT (R339). -/
def execPwrfailAssert (s : State) : Host.Outcome State Fault Refusal := act (!s.sap.pwrfailLow) s.powerLow s

/-- PWRFAIL_DEASSERT (R340). -/
def execPwrfailDeassert (s : State) : Host.Outcome State Fault Refusal :=
  act s.sap.pwrfailLow { s with sap := { s.sap with pwrfailLow := false, pwrfailHighAt := s.now } } s

/-- RAIL_UNDERVOLTAGE (R339). -/
def execRailUndervoltage (s : State) : Host.Outcome State Fault Refusal :=
  act (s.flushable && s.sap.flush.isNone) (s.advance 20000).startFlush s

/-- REFERENCE_LOSS (R341). -/
def execReferenceLoss (ref : RefIn) (s : State) : Host.Outcome State Fault Refusal :=
  act (s.alive && ref.ok && !nth s.sap.refLost (refNo ref) false) (s.loseRef ref) s

/-- Duration of the flush so far, in µs. -/
def State.flushUs (s : State) : Nat := (s.now - s.sapw.flushFrom.getD s.now) / 1000

/-- The flush is sealed: sapwood.flush_done, and everything but Sap is held in reset (R340). -/
def State.sealFlush (s : State) : State :=
  let s := s.raise0 7 3
  State.sealedState { s with sapw := { s.sapw with lastResult := 1, lastUs := min (2 ^ 24 - 1) s.flushUs } }

/-- Every sub-port goes down with the Ethernet SerDes and MACs. -/
def State.shedEth (s : State) : State :=
  if s.flag 0x02000014 16 then
    let s := s.linksDown (List.range 34)
    { s with sap := { s.sap with shed := true } }
  else s

/-- Units of 1 MiB that the slots, headers and records in use fill (R155). -/
def State.vaultUnits (s : State) : Nat :=
  ceilDiv (64 * s.sapw.entries.length + 4112 * s.slotsUsed + 16 * s.ringUsed) 1048576

/-- One vault unit, given block by block, goes to its drive, in commands no larger than its MDTS (R312). -/
def State.writeUnit (d r : Nat) (blk : Nat → List Byte) (s : State) : State :=
  let m := (s.drive d).info.mdts
  let k := if m == 0 then 256 else min 256 (2 ^ m)
  (List.range (ceilDiv 256 k)).foldl (fun s i => s.toDrive d
    { id := 0, purpose := .vaultUnit r, isWrite := true, lba := vaultLba r + i * k, nb := min k (256 - i * k), head := true
      data := (rangeFrom (i * k) (min k (256 - i * k))).map blk }) s

/-- The vault units go to their drives, row by row: the data units that are used, and the XOR of them (R156). What a data block
holds, byte for byte, no rule says: it is open. [DEDUCED, log entry 73] -/
def State.writeUnits (s : State) : State :=
  let ds := s.sapw.vaultSet
  let v := ds.length
  let gen := s.sapw.gen + 1
  let data : Nat → Nat → List Byte := fun u b => fitBytes 4096 (Config.regionBlock s.fresh (256 * u + b))
  let used : Nat → List Nat := fun r => rangeFrom (r * (v - 1)) (min (v - 1) (s.vaultUnits - r * (v - 1)))
  let parity : Nat → Nat → List Byte := fun r b => vaultXor ((used r).map fun u => data u b)
  (List.range (ceilDiv s.vaultUnits (v - 1))).foldl (fun t r =>
    (used r).foldl (fun t u => t.writeUnit (nth ds (vaultData v r (u - r * (v - 1))) 0) r (fun b => vaultBlock (data u b) gen r))
      (t.writeUnit (nth ds (vaultParity v r) 0) r fun b => vaultBlock (parity r b) gen r)) { s with fresh := s.fresh + 1 }

/-- Are vault units, vault headers or drive Flushes still out? -/
def State.vaultOut (s : State) : Bool := s.drives.any fun p => p.2.all.any fun c =>
  match c.purpose with | .vaultUnit _ => true | .vaultHdr _ => true | .driveFlush => true | _ => false

/-- The Stop phase ends: with no grove the flush is over and counts as sealed; with fewer than two vault drives it goes no
further and is not sealed (R156, R157). [DEDUCED, log entry 73] -/
def State.stopDone (s : State) : State :=
  let s := s.shedEth
  if s.groves.isEmpty then
    State.sealFlush { s with media := { s.media with vault := none, ckpt := none } }
  else if s.sapw.vaultSet.length < 2 then s
  else State.writeUnits { s with sap := { s.sap with flush := some .vault } }

/-- FLUSH_STOP_DONE (R155). -/
def execFlushStopDone (s : State) : Host.Outcome State Fault Refusal :=
  actR (s.sap.flush == some .stop) (if s.groves.isEmpty then s.regs.sapOnly else s.regs) s.stopDone s

/-- The Seal begins: the header with FUA, and a Flush, to every vault drive (Table 6.4). -/
def State.seal (s : State) : State :=
  let s := { s with sap := { s.sap with flush := some .seal } }
  let s := s.sendHeaders s.sapw.vaultSet (s.runHeader s.sapw.vaultSet (s.sapw.gen + 1) true)
  s.sapw.vaultSet.foldl (fun s d => s.toDrive d { id := 0, purpose := .driveFlush, isWrite := false, lba := 0, nb := 0 }) s

/-- VAULT_WRITE_DONE (R155): the last vault unit is acknowledged. -/
def execVaultWriteDone (s : State) : Host.Outcome State Fault Refusal :=
  act (s.sap.flush == some .vault && !s.vaultOut) s.seal s

/-- The image that the vault then holds (R155, R156). -/
def State.vaultImage (s : State) : Vault :=
  { entries := s.sapw.entries, nextEntry := s.sapw.nextEntry, ring := s.camb.ring
    pos := s.camb.pos, nextSeq := s.camb.nextSeq, ckptSeq := s.camb.ckptSeq, ckptPos := s.camb.ckptPos, nextFseq := s.knot.nextFseq
    groves := (List.range 4).map s.grove?, held := (s.heart.ns.filter fun p => p.2.notReady).map (·.1), lost := s.sapw.lost, lostTotal := s.sapw.lostTotal }

/-- The vault headers are written and every drive flushed. [DEDUCED, log entry 73] -/
def State.sealDone (s : State) : State :=
  State.sealFlush { s with media := { s.media with vault := some s.vaultImage } }

/-- FLUSH_SEAL_DONE (R155). -/
def execFlushSealDone (s : State) : Host.Outcome State Fault Refusal :=
  actR (s.sap.flush == some .seal && !s.vaultOut) s.regs.sapOnly s.sealDone s

/-- May the device restart after the Seal (R340)? -/
def State.mayRestart (s : State) : Bool :=
  s.sap.flush == some .sealed && !s.sap.stuck && !s.sap.dead && !s.sap.pwrfailLow && s.fld 0x02000014 15 0 != 0

/-- RESTART_MS of PWRFAIL_N high are over. -/
def State.sapRestart (straps : BitVec 6) (s : State) : State :=
  (s.until (s.sap.pwrfailHighAt + s.fld 0x02000014 15 0 * 1000000)).restart straps

/-- SAP_RESTART (R340). -/
def execSapRestart (modeSel : BitVec 4) (ringPt recForce : Bool) (s : State) : Host.Outcome State Fault Refusal :=
  actR s.mayRestart {} (s.sapRestart (strapWord modeSel ringPt recForce)) s

end Sys2Proof.Machine
end

