-- ==== Sys2Proof/Machine/RestoreOps.lean ====
section
/-!
DEFINITION. The Restore phase (spec/16: R347): what the labels name (spec/06: R151, R158), the protected region and its
check, the replay of the journal (spec/05: R135, R137), groves after a sealed and after an unclean stop (spec/06: R154, R159,
R164; spec/07: R181, R196 to R198).
-/

namespace Sys2Proof.Machine

/-! ### Labels at start (R151) -/

/-- The label in force of each drive: of its two copies the one with the higher LSEQ (R151). -/
def State.labels (s : State) : NMap Label :=
  s.media.labels.foldl (fun (m : NMap Label) (p : Nat × Label) => match NMap.get? m (p.1 / 2) with
    | some b => if b.lseq < p.2.lseq then NMap.set m (p.1 / 2) p.2 else m
    | none => NMap.set m (p.1 / 2) p.2) []

/-- Labels that can be read now and carry the station's own STATION_ID. [DEDUCED, log entry 32] -/
def State.ownLabels (s : State) : NMap Label :=
  s.labels.filter fun p => (s.drive p.1).st == .ready && p.2.station == s.fld 0x15200000 31 16

/-- The next label of each drive goes to the block that does not hold the one in force (R151). -/
def State.turnLabels (s : State) : State :=
  s.labels.foldl (fun s p => s.setDrive p.1 { s.drive p.1 with
    labelBlk := if NMap.get? s.media.labels (2 * p.1) == some p.2 then 1 else 0 }) s

/-- The newest label of a grove. -/
def State.newestLabel (s : State) (gi : Nat) : Option Label :=
  (s.ownLabels.filter fun p => p.2.grove == gi).foldl (fun best p => match best with
    | some b => if b.lseq < p.2.lseq then some p.2 else best
    | none => some p.2) none

/-- The groves that labels name. -/
def State.labelGroves (s : State) : List Nat := (List.range 4).filter fun gi => (s.newestLabel gi).isSome

/-- Spare labels designate spares again. -/
def State.findSpares (s : State) : State :=
  (s.ownLabels.filter fun p => p.2.grove == 0xFF).foldl (fun s p =>
    s.setDrive p.1 { s.drive p.1 with spare := some p.2.spareFor }) s

/-- Is a member slot's drive one that fails at start (Table 7.1): absent, or with an older label than the newest? -/
def State.staleMember (s : State) (gi : Nat) (l : Label) (d : Nat) : Bool :=
  !((NMap.get? s.ownLabels d).any fun x => x.grove == gi && x.lseq == l.lseq)

/-- Fail the members that are failed at start. -/
def State.failStale (gi : Nat) (s : State) : State :=
  match s.grove? gi, s.newestLabel gi with
  | some g, some l =>
    ((List.range g.n).filter fun i => g.writable i && s.staleMember gi l (g.driveOf i)).foldl
      (fun s i => s.failMember gi i) s
  | _, _ => s

/-! ### The region's check (R158) -/

/-- The newest vault header that can be read. -/
def State.newestHdr (s : State) : Option VaultHdr :=
  (s.media.headers.filter fun p => (s.drive p.1).st == .ready).foldl (fun (best : Option VaultHdr) p => match best with
    | some b => if b.run < p.2.run || (b.run == p.2.run && (b.gen < p.2.gen || (b.gen == p.2.gen && p.2.sealed))) then some p.2
      else some b
    | none => some p.2) none

/-- Vault drives of a header that are missing, hold another one, or fail a unit CRC (R158). -/
def State.vaultBad (s : State) (h : VaultHdr) (bad : List Nat) : List Nat :=
  h.drives.filter fun d => (s.drive d).st != .ready || NMap.get? s.media.headers d != some h || bad.contains d

/-- Does the region pass: the newest headers agree on generation and run, that run was sealed, and at most one vault drive is
bad (R158)? -/
def State.vaultOk (s : State) (bad : List Nat) : Bool :=
  s.newestHdr.any fun h => h.sealed && (s.vaultBad h bad).length ≤ 1

/-- A new run begins: marked open on every vault drive (R158). -/
def State.newRun (s : State) : State :=
  let top : (VaultHdr → Nat) → Nat := fun f => (s.media.headers.map fun p => f p.2).foldl max 0
  let s := { s with sapw := { s.sapw with run := top (·.run) + 1, gen := top (·.gen) } }
  s.markOpen s.vault

/-! ### Replay (R135) -/

/-- The highest FSEQ that a record names for a block: of records without one, none. -/
def Rec.touch (r : Rec) (nsid lba : Nat) : Option Nat :=
  let hit : Nat → Nat → Bool := fun a n => r.nsid == nsid && a ≤ lba && lba < a + n
  match r.body with
  | .extentCommit f l => if l.any fun m => hit m.slba m.nlb then some f else none
  | .zero f a n _ => if hit a n then some f else none
  | .deallocate f l => if l.any fun x => hit x.1 x.2 then some f else none
  | _ => none

/-- Does a record of a list touch a block with an FSEQ at or above `f`? -/
def touchedBy (l : List Rec) (nsid lba f : Nat) : Bool := l.any fun r => (r.touch nsid lba).any fun x => f ≤ x

/-- Apply one journalled change. A commit whose block an earlier record with a higher FSEQ changed found it changed at run
time too, and skipped it (R128). -/
def State.replayRec (before : List Rec) (r : Rec) (s : State) : State :=
  match r.body with
  | .extentCommit f l => l.foldl (fun s m => (List.range m.nlb).foldl (fun s i =>
      if touchedBy before r.nsid (m.slba + i) (f + 1) then s
      else s.setLoc r.nsid (m.slba + i) r.seq (.data m.seg (m.off + i))) s) s
  | .lost a n _ none => s.applyLost r.nsid r.seq a n none
  | .pageWritten key _ _ _ _ _ => s.parentDirty key r.seq
  | _ => s.applyRec r

/-- Does an earlier record say where a page lies, or also what it holds? -/
def pageNamed (before : List Rec) (key : Nat) (full : Bool) : Bool := before.any fun r => match r.body with
  | .pageWritten k _ _ old _ _ => k == key && (!full || old.isNone)
  | _ => false

/-- Take a page as a PAGE_WRITTEN record names it: the map then holds what it holds. Of a directory page, what lies behind a leaf
page that an earlier record names is newer than the directory page. [DEDUCED, log entry 35] -/
def State.loadPage (before : List Rec) (r : Rec) (s : State) : State :=
  match r.body with
  | .pageWritten key a o (some old) _ _ => s.pageMoved key a o old
  | .pageWritten key a o none image leaves =>
    let s := s.pageAt key a o image leaves
    let leaf : Nat → Nat := fun x => leafKey (x / 2 ^ 48) (x % 2 ^ 48)
    let mine : Nat → Bool := fun x => inPage key x && !(key % 2 == 1 && pageNamed before (leaf x) true)
    let loc : Nat → Bool := fun x => key % 2 == 1 && leafOf key x && !pageNamed before x false
    { s with heart := { s.heart with
        map := replaceSpan mine s.heart.map image
        onDrive := replaceSpan mine s.heart.onDrive image
        pageLoc := replaceSpan loc s.heart.pageLoc leaves } }
  | _ => s

/-- Take the pages of records in SEQ order. -/
def State.loadPages : List Rec → List Rec → State → State
  | _, [], s => s
  | done, r :: t, s => State.loadPages (done ++ [r]) t (s.loadPage done r)

/-- Apply records in SEQ order. -/
def State.replayAll : List Rec → List Rec → State → State
  | _, [], s => s
  | done, r :: t, s => State.replayAll (done ++ [r]) t (s.replayRec done r)

/-- Released host entries, in FSEQ order. -/
def State.hostEntries (s : State) : List (Nat × Entry) :=
  (s.sapw.entries.filter fun p => p.2.stream == .host && p.2.released).mergeSort fun a b =>
    a.2.fseq < b.2.fseq || (a.2.fseq == b.2.fseq && a.1 ≤ b.1)

/-- Apply the staging entries to the blocks that no record at or above their FSEQ touched. [DEDUCED, log entry 35] -/
def State.replayStaged (l : List Rec) (s : State) : State :=
  s.hostEntries.foldl (fun s p => (List.range p.2.blocks.length).foldl (fun s j =>
    if touchedBy l p.2.nsid (p.2.lba + j) p.2.fseq then s
    else s.setLoc p.2.nsid (p.2.lba + j) 0 (.staged p.1 j)) s) s

/-- Rebuild the map (R135): the root image of the last CHECKPOINT, the pages and changes that the ring records from its tail on, up to
the first torn record, and staging. [DEDUCED, log entry 35] -/
def State.replay (v : Vault) (ck : Option Ckpt) (s : State) : State :=
  let good := v.ring.takeWhile fun r => !r.poisoned
  let torn := good.length < v.ring.length
  let cut := (v.ring.drop good.length).head?
  let s := { s with
    heart := { s.heart with
      ns := (ck.elim [] (·.ns)).map fun (p : Nat × Namespace) => (p.1, { p.2 with notReady := v.held.contains p.1 })
      map := ck.elim [] (·.map), onDrive := ck.elim [] (·.map), rooted := ck.elim [] (·.map)
      pageLoc := ck.elim [] (·.pageLoc), rootedLoc := ck.elim [] (·.pageLoc) }
    camb := { s.camb with
      ring := good.map fun (r : Rec) => { r with durable := true, cont := .none }
      pos := cut.elim v.pos (·.pos), nextSeq := cut.elim v.nextSeq (·.seq), ckptSeq := v.ckptSeq, ckptPos := v.ckptPos }
    sapw := { s.sapw with entries := v.entries.filter fun p => p.2.released, nextEntry := v.nextEntry
                          lost := v.lost, lostTotal := v.lostTotal }
    knot := { s.knot with nextFseq := v.nextFseq } }
  let s := if torn then s.raise0 5 18 else s
  let from_ := good.filter fun r => ck.all fun c => c.tail ≤ r.seq
  ((s.loadPages [] from_).replayAll [] from_).replayStaged from_

/-! ### Groves after a sealed flush -/

/-- Did a stripe commit before the stop: its records are in the ring? [DEDUCED, log entry 35] -/
def stripeKept (ring : List Rec) (gi n : Nat) (x : Stripe) : Bool :=
  !x.abandoned && (x.committed || (x.committing > 0 && ring.any fun r => r.cont == .stripe gi n))

/-- A stripe that was in the window: P and Q are to be written again from staging (R164). -/
def Stripe.again (g : Grove) (n : Nat) (x : Stripe) : Stripe :=
  { x with committing := 0, committed := true, lagging := true, engine := none, parityBuf := false, waitLag := false
           closed := true, rewrite := true, pqIssued := false
           pDone := x.missing.contains (g.pSlot n) || !g.writable (g.pSlot n)
           qDone := x.missing.contains (g.qSlot n) || !g.writable (g.qSlot n) }

/-- A grove as the region holds it: streams empty, stripes that were not committed abandoned, segments being reclaimed
sealed again, those recorded free gone, the cursor at its newest record (R154, R159, R164, R196).
 [DESIGN CHOICE, log entry 33] -/
def restoredGrove (ring : List Rec) (gi : Nat) (g : Grove) : Grove :=
  let segs := (g.segs.filter fun p => p.2.st != 3).map fun p =>
    (p.1, if p.2.st == 2 then { p.2 with st := 1, next := 0 } else p.2)
  let cursor : Rebuild → Rebuild := fun (r : Rebuild) =>
    let newest : Option Rec := (ring.filter fun (x : Rec) => x.grove == gi && (match x.body with
      | .rebuildCursor k _ _ _ _ => k == r.slot | _ => false)).getLast?
    match newest.map (fun (x : Rec) => x.body) with
    | some (.rebuildCursor _ _ _ c _) => { r with cursor := c, bitmap := r.bitmap.filter fun a => NMap.has segs a }
    | _ => { r with bitmap := r.bitmap.filter fun a => NMap.has segs a }
  { g with
    segs := segs
    host := {}, reloc := {}, map := {}, intent := none
    stripes := (g.stripes.filter fun p => stripeKept ring gi p.1 p.2).map fun p => (p.1, p.2.again g p.1)
    rbA := g.rbA.map cursor, rbB := g.rbB.map cursor, rbSeg := none, rbNext := 0, rbJob := none }

/-- The stripes in flight of every grove that hold blocks of an entry. -/
def State.holdersOf (s : State) (e : Nat) : List Nat :=
  s.groves.flatMap fun p => (p.2.stripes.filter fun q => q.2.blocks.any fun b => b.1 == e).map fun q => q.1 * 4 + p.1

/-- Staging after the replay: an entry of the Pruner or the map stream stays only for the stripes that hold it (R154); the
blocks of a host entry that the map still names there are placed again (R164). [DEDUCED, log entry 35] -/
def State.requeue (s : State) : State :=
  let old := s.sapw.entries
  let todo : Nat → Entry → List (Nat × Nat) := fun n e =>
    if e.stream != .host then [] else
      ((List.range e.blocks.length).filter fun j => s.loc e.nsid (e.lba + j) == .staged n j).map fun j => (n, j)
  let keep := old.filter fun p => p.2.stream == .host || !(s.holdersOf p.1).isEmpty
  let s := { s with sapw := { s.sapw with entries := keep.map fun (p : Nat × Entry) =>
    (p.1, { p.2 with stripes := s.holdersOf p.1, placed := p.2.blocks.length - (todo p.1 p.2).length, owner := none }) } }
  let s := s.hostEntries.foldl (fun (s : State) (p : Nat × Entry) => s.modGrove p.2.grove fun (g : Grove) =>
    { g with host := { g.host with queue := g.host.queue ++ todo p.1 p.2 } }) s
  s.freeEntries

/-- Each stream's open segment is sealed as it stands (R159); the zone sets `sets` that the streams had begun are finished, where
the sealing of their last segment does not do so (R171). [DEDUCED, log entry 35] -/
def State.sealOpen (gi : Nat) (sets : List Nat) (s : State) : State :=
  match s.grove? gi with
  | none => s
  | some g =>
    let open_ := (g.segs.filter fun p => p.2.st == 0).map (·.1)
    let s := open_.foldl (fun s a => s.sealSeg gi a) s
    if g.zoned then (sets.filter fun u => !NMap.has g.segs (u * g.k + g.k - 1)).foldl (fun s u => g.zoneAll gi u 2 s) s else s

/-- Restore the region (R158), replay (R135), and put the groves in order. [DEDUCED, log entry 35] -/
def State.restoreRegion (v : Vault) (bad : List Nat) (s : State) : State :=
  let s := if s.newestHdr.all fun h => (s.vaultBad h bad).isEmpty then s else s.raise0 7 4
  let s := { s with groves := (v.groves.zipIdx.filterMap fun (p : Option Grove × Nat) => p.1.map fun g => (p.2, restoredGrove v.ring p.2 g)) }
  let s := (s.replay v s.media.ckpt).requeue
  let ids := NMap.keys s.groves
  let s := ids.foldl (fun s gi => s.failStale gi) s
  ids.foldl (fun s gi => s.sealOpen gi (((v.groves[gi]?).bind id).elim [] Grove.heldSets)) s

/-! ### Groves after the region failed its check (R137, R196, R197) -/

/-- Segments that the map of the last CHECKPOINT names in a grove; on a zoned grove their whole zone sets. They are sealed,
with what lives in them as their contents. [DEDUCED, log entry 34] -/
def State.segsFromMap (s : State) (gi : Nat) (k : Nat) : NMap Seg :=
  let mine : Nat → Bool := fun n => (NMap.get? s.heart.ns n).any fun x => x.grove == gi
  let data := s.heart.map.filterMap fun p => match p.2 with
    | .data a o => if mine (p.1 / 2 ^ 48) then some (a, p.1 / 2 ^ 48, p.1 % 2 ^ 48, o) else none
    | _ => none
  let pages := s.heart.pageLoc.filterMap fun p => if mine (p.1 / 2 / 2 ^ 33) then some (p.2.1, 0, p.1, p.2.2) else none
  let used := (data ++ pages).foldl (fun l x => (rangeFrom (x.1 / k * k) k).foldl (fun l a => insertAsc a l) l) []
  used.zipIdx.map fun p => (p.1, { st := 1, stream := .host, sealedAt := p.2
                                   summary := ((data ++ pages).filter fun x => x.1 == p.1).map (·.2) })

/-- A grove from its newest label. -/
def State.labelledGrove (s : State) (gi : Nat) (l : Label) : Grove :=
  let infos := (l.members.filter (· != 0xFF)).map fun d => (s.drive d).info
  let z := ((infos.filterMap (·.zoned)).head?).getD (0, 0, 0, 0, 0, 0)
  let k := 16 * 2 ^ l.chunk
  let g : Grove :=
    { n := l.n, chunk := l.chunk, zoned := l.zoned, cap := l.cap, reservePct := l.reservePct, lseq := l.lseq
      members := l.members.zipIdx.map fun p =>
        { drive := p.1, failed := 0xFF, failOrder := p.2
          st := if p.1 == 0xFF then .failed else if l.rebuilding.contains p.2 then .rebuilding else .working }
      segCount := if l.zoned then segsOf true k (infos.filter fun i => i.zoned.isSome) else (l.cap - segBase) / (64 * k)
      zone := if l.zoned then (z.1, z.2.1, z.2.1 / (64 * k)) else (0, 0, 0), }
  let segs := s.segsFromMap gi g.k
  let rb : Nat → Rebuild := fun i =>
    { slot := i, spare := g.driveOf i, failed := 0xFF, bitmap := NMap.keys segs
      cursor := 64 * (NMap.keys segs).headD 0 }
  { g with segs := segs, sealCount := segs.length, offline := g.down ≥ 3
           holders := g.holderDrives
           iseq := (g.holderDrives.filterMap fun d => (NMap.get? s.media.intents d).map (·.iseq)).foldl max 0
           rbA := (l.rebuilding[0]?).map rb, rbB := (l.rebuilding[1]?).map rb }

/-- Which resynchronization R198 calls for: the code of the first check that fails, 0 where none does, and the record that
narrows it. `holders` are those of the run that stopped. [DEDUCED, log entry 34] -/
def State.resyncReason (s : State) (g : Grove) (holders bad : List Nat) : Nat :=
  let working : Nat → Bool := fun d => g.members.any fun m => m.drive == d && m.st == .working
  let recs := holders.map fun d => NMap.get? s.media.intents d
  let same : Bool := match recs with
    | [some a, some b] => a.iseq == b.iseq && a.ranges == b.ranges && a.plp == b.plp
    | _ => false
  if holders.length < 2 || !holders.all working then 3
  else if g.down > 0 then 6
  else if recs.any Option.isNone || holders.any (fun d => bad.contains d) then 1
  else if !same then 2
  else if !(recs.any fun r => r.any (·.plp)) then 5
  else if !(g.members.all fun m => s.plp m.drive) then 4
  else 0

/-- Start the resynchronization of a grove found unclean (R197, R198). -/
def State.resyncUnclean (gi : Nat) (holders bad : List Nat) (s : State) : State :=
  match s.grove? gi with
  | none => s
  | some g =>
    if g.offline then s
    else
      let why := s.resyncReason g holders bad
      let first := ((holders.filter fun d => !bad.contains d).findSome? fun d => NMap.get? s.media.intents d).elim [] Intent.stripes
      s.startResync gi (if why == 0 then 1 else 2) why (first.filter fun n => NMap.has g.segs (n / 64))

/-- The region failed its check: the map and the namespaces of the last CHECKPOINT, none of them ready; groves from their
labels; rebuilds from the start; after an unclean stop a resynchronization of each grove. [DEDUCED, log entry 34] -/
def State.restoreFailed (badIntent : List Nat) (s : State) : State :=
  let unclean := !s.newestHdr.any (·.sealed)
  let ids := s.labelGroves
  let ck := s.media.ckpt
  let s := { s with
    sapw := { s.sapw with lastResult := 2 }
    heart := { s.heart with
      ns := (ck.elim [] (·.ns)).map fun (p : Nat × Namespace) => (p.1, { p.2 with notReady := true })
      map := ck.elim [] (·.map), onDrive := ck.elim [] (·.map), rooted := ck.elim [] (·.map)
      pageLoc := ck.elim [] (·.pageLoc), rootedLoc := ck.elim [] (·.pageLoc) }
    camb := { s.camb with nextSeq := ck.elim 1 (·.seq + 1), ckptSeq := ck.elim 0 (·.seq) } }
  let s := s.raise0 5 19
  let groves := ids.filterMap fun gi => (s.newestLabel gi).map fun l => (gi, s.labelledGrove gi l)
  let s := { s with groves := groves }
  groves.foldl (fun (s : State) (p : Nat × Grove) =>
    let holders := p.2.holders
    let s := p.2.rebuilds.foldl (fun s r => s.cursorRecord p.1 r 0) s
    let s := if p.2.zoned then (p.2.segs.map fun q => q.1 / p.2.k).eraseDups.foldl (fun s u => p.2.zoneAll p.1 u 2 s) s else s
    let s := s.failStale p.1
    if unclean then s.resyncUnclean p.1 holders badIntent else s) s

/-! ### The phase -/

/-- R158: nothing to restore where no label names a grove; then the region, or what the labels and the last CHECKPOINT give;
and the run is marked open. -/
def State.restoreAll (badVault badIntent : List Nat) (s : State) : State :=
  let s := s.findSpares.turnLabels
  let s :=
    if s.labelGroves.isEmpty then s
    else match s.media.vault, s.vaultOk badVault with
      | some v, true => s.restoreRegion v badVault
      | _, _ => s.restoreFailed badIntent
  s.newRun

end Sys2Proof.Machine
end

