-- ==== Sys2Proof/Machine/SeedOps.lean ====
section
/-!
DEFINITION. Seed's own work at a start (spec/16): choosing and checking a slot (R351), the Base phase and the enable order
(R356), the SEQ list, and the end of a recovery operation (R358).
-/

namespace Sys2Proof.Machine

/-! ### Applying the image (R356) -/

/-- Is the register at offset 0x0000 of a block or of a per-instance window: written in the enable order, not in the Base
phase? DRAM's is read-only. -/
def heldReg (a : Nat) : Bool := a % 0x1000000 == 0 || enableAddr a == some a || a == 0x15200000

/-- Every COMMIT register. [DEDUCED, log entry 28] -/
def commitRegsAll : List Nat :=
  ([2, 4, 6, 7, 8, 9, 11, 12, 13, 14, 16, 18, 19].map fun b => b * 0x1000000 + 0xFFC)
    ++ (List.range 64).map (fun e => 0x0A000FFC + e * 0x40000)
    ++ (List.range 24).map (fun d => rootBase d + 0xFFC)
    ++ (List.range 8).map (fun f => 0x14000FFC + f * 0x200000)
    ++ [0x15000FFC, 0x15100FFC]

/-- Seed writes a register whole. -/
def State.seedWrite (a : Nat) (v : W32) (s : State) : State := s.write1 .pith a v 0xFFFFFFFF#32

/-- Every record that the device skips is counted and raises seed.record_skipped. -/
def State.skipRecords (n : Nat) (s : State) : State :=
  (List.range n).foldl (fun s _ =>
    ({ s with seed := { s.seed with skipped := (s.seed.skipped + 1) % 65536 } }).raise0 0 11) s

/-- The Base phase: the merged registers but the held ones, then all-ones to every COMMIT register.
 [DEDUCED, log entry 28] -/
def State.applyBase (img : List Byte) (s : State) : State :=
  let mode := s.seed.straps.toNat % 16
  let recs := recordsOf img mode
  let merged := mergeSets recs
  let s := { s with seed := { s.seed with
    boot := .base, since := s.now, fwRev := imgFwRev img, ctxFormat := imgCtx img
    applied := appliedMask (overlaysOf img mode), merged := merged, held := merged.filter fun p => heldReg p.1
    seq := seqOf recs, kek := s.media.imageKey.bind (imgKek img) } }
  let s := s.skipRecords (skippedOf recs)
  let s := (merged.filter fun p => !heldReg p.1).foldl (fun s p => s.seedWrite p.1 p.2) s
  commitRegsAll.foldl (fun s a => s.seedWrite a 0xFFFFFFFF#32) s

/-- Blocks in the enable order of R356: before the drives are brought up, before the replay, and in the Serve phase. -/
def enableFirst : List Nat := [3, 23, 20, 21, 22, 19, 17, 18, 15]
def enableRestore : List Nat := [13, 6]
def enableServe : List Nat := [7, 11, 12, 8, 10, 14, 16, 9, 4, 2]

/-- Write the held registers of these blocks, in their order. -/
def State.enableBlocks (l : List Nat) (s : State) : State :=
  let s := l.foldl (fun s b => (s.seed.held.filter fun p => blockOf p.1 == b).foldl (fun s p => s.seedWrite p.1 p.2) s) s
  { s with seed := { s.seed with held := s.seed.held.filter fun p => !l.contains (blockOf p.1) } }

/-! ### The slots (R350 to R352) -/

/-- Start from a slot. -/
def State.startFrom (slot : Nat) (fallback : Bool) (img : List Byte) (s : State) : State :=
  let s := s.advance (2000000 + img.length * 5 / 2)
  let s := { s with seed := { s.seed with slot := slot, fwSlot := slot, fallback := fallback } }
  let s := if fallback then s.raise0 0 10 else s
  s.applyBase img

/-- The Image phase: the slot named NEXT, else the other one, else recovery; PWRFAIL_N is high for 1 ms first (Table 16.3). -/
def State.checkImage (s : State) : State :=
  let s := s.until (s.sap.pwrfailHighAt + 1000000)
  if s.media.imageKey.isNone then s.recover 4
  else match s.dir with
    | none => s.recover 1
    | some (_, d) =>
      match s.slotImage d.next, s.slotImage (1 - d.next) with
      | some img, _ => s.startFrom d.next false img
      | none, some img => s.startFrom (1 - d.next) true img
      | none, none => s.recover 1

/-! ### DRAM and the control pairs (R296, R386) -/

/-- Does DRAM_POP hold no reserved value, and describe 128 GiB to 2 TiB? -/
def State.popOk (s : State) : Bool :=
  let w := s.reg 0x18000004
  bits w 18 16 < 4 && bits w 9 8 < 3 && (bits w 5 4 == 1 || bits w 5 4 == 2) && bits w 3 0 < 6
    && 128 ≤ s.dramGib && s.dramGib ≤ 2048

/-- DRAM is trained: the active pair boots (R296), and blocks are enabled as far as the Rootlets. -/
def State.trained (s : State) : State :=
  let b := s.flag 0x05000004 15
  let s := { s with
    dram := { s.dram with enabled := true, trained := 0xFF#8, scrubAt := s.now }
    pith := { s.pith with a := if b then .cold else .active, b := if b then .active else .cold, activeB := b
                          kickAt := s.now, ckptAt := s.now }
    seed := { s.seed with boot := .drives, since := s.now, waited := false } }
  s.enableBlocks enableFirst

/-! ### Drives (R347) -/

/-- Has a drive settled: nothing in the bay or its port not enabled, READY, QUAL_FAIL, powered off or contained?
 [DEDUCED, log entry 32] -/
def State.settled (s : State) (d : Nat) : Bool :=
  match (s.drive d).st with
  | .absent => true
  | .ready => true
  | .qualFail => true
  | .contained => true
  | .off => true
  | _ => false

/-- Have all of them? -/
def State.allSettled (s : State) : Bool := (List.range 24).all s.settled

/-! ### The SEQ list (R356) -/

/-- Execute SEQ records as plain writes until a WAIT that does not find its value; `fuel` bounds them. -/
def State.runSeq : Nat → State → State
  | 0, s => s
  | k + 1, s =>
    match s.seed.seq with
    | [] => s
    | (kind, a, mask, v) :: t =>
      let on_ : State → State := fun s => { s with seed := { s.seed with seq := t, waitSince := s.now } }
      if kind == 2 then State.runSeq k (on_ (s.write1 .pith a v mask))
      else
        let u := s.read1 a
        if s.readVal .pith a &&& mask == v &&& mask then State.runSeq k (on_ u) else u

/-- Go on with the list. [DEDUCED, log entry 36] -/
def State.goSeq (s : State) : State := s.runSeq (s.seed.seq.length + 1)

/-- The Serve phase: the remaining blocks, then the SEQ list. -/
def State.startServe (s : State) : State :=
  let s := { s with seed := { s.seed with boot := .serve, since := s.now, waitSince := s.now } }
  (s.enableBlocks enableServe).goSeq

/-- The WAIT polled now has not found its value in 100 ms: it is skipped. -/
def State.skipWait (s : State) : State :=
  let s := (s.until (s.seed.waitSince + 100000000)).goSeq
  match s.seed.seq with
  | [] => s
  | _ :: t =>
    if s.now < s.seed.waitSince + 100000000 then s
    else (({ s with seed := { s.seed with seq := t, waitSince := s.now } }).skipRecords 1).goSeq

/-- The end of start-up: the list is done, and the MPL of R40 is over. [DEDUCED, log entry 36] -/
def State.startDone (s : State) : State :=
  let s := s.goSeq
  if !s.seed.seq.isEmpty then s
  else
    let s := if s.on 0x10000000 then s.until (s.xylem.enabledAt + s.mpl) else s
    ({ s with seed := { s.seed with boot := .running, since := s.now } }).raise0 0 8

/-! ### The end of a recovery operation (R358) -/

/-- SEED_REC_DATA: the page buffer. -/
def State.recBuffer (s : State) : List Byte :=
  (List.range 1024).flatMap fun i => leBytes 4 (s.reg (0x01001000 + 4 * i)).toNat

/-- Put bytes into the flash. -/
def State.program (a : Nat) (l : List Byte) (s : State) : State :=
  { s with media := { s.media with flash := putFlash s.media.flash a l } }

/-- What an operation does to the flash, the directory or the key store; of one that fails, how many bytes it took is open
(log entry 2). [DEDUCED, log entry 29; DEDUCED, log entry 30] -/
def State.recEffect (op slot page : Nat) (ok : Bool) (s : State) : State :=
  match op with
  | 1 =>
    let (n, s) := if ok then (65536, s) else s.draw 65536
    s.program (page * 4096 / 65536 * 65536) (List.replicate n 0xFF#8)
  | 2 =>
    let (n, s) := if ok then (4096, s) else s.draw 4096
    let s := s.program (page * 4096) (s.recBuffer.take n)
    { s with seed := { s.seed with checked := match slotOfPage page with
      | some k => without s.seed.checked k
      | none => s.seed.checked } }
  | 3 => if ok && (s.slotImage slot).isSome
      then { s with seed := { s.seed with checked := insertAsc slot s.seed.checked } }
      else { s with seed := { s.seed with checked := without s.seed.checked slot } }
  | 4 => if ok then s.writeDir slot (s.dir.elim 0 (·.2.saveCtr)) else s
  | 5 => if ok then { s with media := { s.media with imageKey := some (BitVec.ofNat 256 (beNat (s.recBuffer.take 32))) } } else s
  | _ => s

/-- BUSY falls and RESULT says how it went; a CHECK that finds a bad slot has failed. [DEDUCED, log entry 29] -/
def State.recDone (op slot page : Nat) (ok : Bool) (s : State) : State :=
  let good := ok && (op != 3 || (s.slotImage slot).isSome)
  let s := s.recEffect op slot page ok
  { s with seed := { s.seed with recBusy := none, recResult := if good then 0 else 2 } }

end Sys2Proof.Machine
end

