-- ==== Sys2Proof/Machine/Seed.lean ====
section
/-!
DEFINITION. The commands of Seed (spec/16): reset, the phases of start-up, recovery.
-/

namespace Sys2Proof.Machine

/-- RESET_ASSERT (R346): RESET_N is low for 10 µs. -/
def execResetAssert (s : State) : Host.Outcome State Fault Refusal :=
  actR (s.seed.boot != .reset || s.sap.flush == some .sealed) {} (s.advance 10000).blank s

/-- RESET_N rises (R345, R347); the PHY's reset is held 10 ms more (R415). -/
def State.resetRise (straps : BitVec 6) (s : State) : State :=
  let s := s.begin straps
  { s with mmac := { s.mmac with phyHold := s.now + 10000000 } }

/-- RESET_RELEASE (R347). -/
def execResetRelease (modeSel : BitVec 4) (ringPt recForce : Bool) (s : State) : Host.Outcome State Fault Refusal :=
  act (s.seed.boot == .reset && s.sap.flush.isNone) (s.resetRise (strapWord modeSel ringPt recForce)) s

/-- PLL_LOCKED (R347): the clocks are locked, and the die links train. -/
def execPllLocked (s : State) : Host.Outcome State Fault Refusal :=
  act (s.seed.boot == .clocks)
    { s with seed := { s.seed with boot := .selftest, since := s.now }, links := List.replicate 12 1#2
             linkAt := List.replicate 12 s.now } s

/-- A die link as training left it: up, up at reduced width, or down. [DEDUCED, log entry 31] -/
def trainedLink (v : BitVec 2) : BitVec 2 := if v == 1#2 then 0#2 else v

/-- The links phase ends (R348): a failed Trunk or Root die holds the part in reset, another failed die or a Bough that
reaches neither puts it into recovery, a link at reduced width raises dlink.degraded. [DEDUCED, log entry 31] -/
def State.selfTested (pass : List Bool) (links : List (BitVec 2)) (s : State) : State :=
  let bits6 : BitVec 6 := BitVec.ofNat 6 ((pass.zipIdx.map fun p => b2n p.1 * 2 ^ p.2).sum)
  let s := { s with links := links.map trainedLink, bistDone := 0x3F#6, bistPass := bits6 }
  if !(nth pass 0 false) || !(nth pass 5 false) then
    { s with seed := { s.seed with boot := .heldDead, since := s.now }, alertFixed := setNth s.alertFixed 1 true }
  else
    let s := (List.range 12).foldl (fun s l =>
      if s.link l == 3#2 then s.raise0 3 (16 + l) else if s.link l == 0#2 then s.raise0 3 (32 + l) else s) s
    if pass.any (fun p => !p) || (List.range 4).any (fun k => !s.reaches k) then s.recover 3
    else { s with seed := { s.seed with boot := .image, since := s.now } }

/-- SELFTEST_DONE (R348). -/
def execSelftestDone (pass : List Bool) (links : List (BitVec 2)) (s : State) : Host.Outcome State Fault Refusal :=
  act ((Instr.selftestDone pass links).wf && s.seed.boot == .selftest) (s.selfTested pass links) s

/-- IMAGE_CHECKED (R351). -/
def execImageChecked (s : State) : Host.Outcome State Fault Refusal :=
  actR (s.seed.boot == .image && !s.sap.pwrfailLow) s.checkImage.regs s.checkImage s

/-- DRAM_TRAINED (R386). -/
def execDramTrained (ok : Bool) (s : State) : Host.Outcome State Fault Refusal :=
  let t := if ok && s.popOk then s.trained else s.recover 5
  actR (s.seed.boot == .base) t.regs t s

/-- The Restore phase begins: SAPWOOD and CAMBIUM are enabled. -/
def State.restoreStart (s : State) : State :=
  let s := { s with seed := { s.seed with boot := .restore, since := s.now } }
  s.enableBlocks enableRestore

/-- DRIVES_SETTLED (R347). -/
def execDrivesSettled (badVault badIntent : List Nat) (s : State) : Host.Outcome State Fault Refusal :=
  actR (s.seed.boot == .drives && (s.allSettled || s.seed.waited)) s.restoreStart.regs
    (s.restoreStart.restoreAll badVault badIntent) s

/-- DRIVE_WAIT_S is over: what has not settled counts as absent. [DEDUCED, log entry 32] -/
def State.driveWait (s : State) : State :=
  let s := s.until (s.seed.since + s.fld 0x01000008 7 0 * 1000000000)
  ({ s with seed := { s.seed with waited := true } }).raise0 0 9

/-- DRIVE_WAIT_EXPIRY (R347). -/
def execDriveWaitExpiry (s : State) : Host.Outcome State Fault Refusal :=
  act (s.seed.boot == .drives && !s.allSettled && !s.seed.waited) s.driveWait s

/-- RESTORE_DONE (R347). -/
def execRestoreDone (s : State) : Host.Outcome State Fault Refusal :=
  actR (s.seed.boot == .restore) s.startServe.regs s.startServe s

/-- WAIT_RECORD_TIMEOUT (R356). -/
def execWaitRecordTimeout (s : State) : Host.Outcome State Fault Refusal :=
  actR (s.seed.boot == .serve && !s.seed.seq.isEmpty) s.skipWait.regs s.skipWait s

/-- START_DONE (R347): not while a WAIT record still polls. -/
def execStartDone (s : State) : Host.Outcome State Fault Refusal :=
  actR (s.seed.boot == .serve) s.startDone.regs s.startDone s

/-- SEED_RESTART (R346). -/
def execSeedRestart (modeSel : BitVec 4) (ringPt recForce : Bool) (s : State) : Host.Outcome State Fault Refusal :=
  actR s.alive {} (s.restart (strapWord modeSel ringPt recForce)) s

/-! ### Recovery (R358) -/

/-- A recovery operation as a command: RESULT 1 where it is refused. -/
def State.doRec (s : State) (op : Nat) (straps : BitVec 6) : Host.Outcome State Fault Refusal :=
  actR s.alive (if op == 6 && !s.recRefused 6 then {} else s.regs) (s.recOp op straps) s

/-- RECOVERY_ERASE. -/
def execRecoveryErase (s : State) : Host.Outcome State Fault Refusal := s.doRec 1 s.seed.straps
/-- RECOVERY_PROGRAM. -/
def execRecoveryProgram (s : State) : Host.Outcome State Fault Refusal := s.doRec 2 s.seed.straps
/-- RECOVERY_CHECK. -/
def execRecoveryCheck (s : State) : Host.Outcome State Fault Refusal := s.doRec 3 s.seed.straps
/-- RECOVERY_SET_NEXT. -/
def execRecoverySetNext (s : State) : Host.Outcome State Fault Refusal := s.doRec 4 s.seed.straps
/-- RECOVERY_PROVISION. -/
def execRecoveryProvision (s : State) : Host.Outcome State Fault Refusal := s.doRec 5 s.seed.straps
/-- RECOVERY_RESTART. -/
def execRecoveryRestart (modeSel : BitVec 4) (ringPt recForce : Bool) (s : State) : Host.Outcome State Fault Refusal :=
  s.doRec 6 (strapWord modeSel ringPt recForce)

/-- FLASH_OP_DONE (R358). -/
def execFlashOpDone (ok : Bool) (s : State) : Host.Outcome State Fault Refusal :=
  match s.seed.recBusy with
  | none => act false s s
  | some (op, slot, page) => act true (s.recDone op slot page ok) s

end Sys2Proof.Machine
end

