-- ==== Sys2Proof/Machine/TallyRows.lean ====
section
/-!
DEFINITION. Tally's sweeps and counters (spec/19: R395 to R399), DRAM errors and scrubbing (spec/18: R388), and the sideband
target (spec/20: R418).
-/

namespace Sys2Proof.Machine

/-! ### Host Event Log (R395) -/

/-- The gap since a session's last entry of a source is over: the raises counted meanwhile become one entry.
 [DEDUCED, log entry 77] -/
def State.gapEnd (sid n : Nat) (g : Nat × Nat × Nat × W32) (s : State) : State :=
  let s := s.until (g.1 + s.fld 0x0300001C 15 0 * 1000000)
  let log := NMap.getD s.bud.hostLog sid {}
  if g.2.1 == 0 then
    { s with bud := { s.bud with hostLog := NMap.set s.bud.hostLog sid { log with gaps := NMap.erase log.gaps n } } }
  else
    let log := log.add (mkEntry n (min 255 g.2.1) g.2.2.1 g.2.2.2)
    let log := { log with gaps := NMap.set log.gaps n (s.now, 0, 0, 0#32) }
    State.tryAer sid { s with bud := { s.bud with hostLog := NMap.set s.bud.hostLog sid log } }

/-- HOST_EVENT_GAP_EXPIRY (R395). -/
def execHostEventGapExpiry (sid source : Nat) (s : State) : Host.Outcome State Fault Refusal :=
  match (NMap.get? s.bud.hostLog sid).bind fun l => NMap.get? l.gaps source with
  | none => act false s s
  | some g => act s.hostOk (s.gapEnd sid source g) s

/-! ### Sweeps (R397, R398) -/

/-- Engine records in a sweep? -/
def State.engRec (s : State) : Bool := s.flag 0x04000000 1

/-- Bytes of a sweep record, and records that the sweep ring holds. -/
def State.sweepBytes (s : State) : Nat := if s.engRec then 17712 else 13616
def State.sweepRecs (s : State) : Nat := s.fld 0x04000008 10 0 * 1048576 / s.sweepBytes

/-- A bank record and an engine record (Table 19.5). -/
def State.bankRecord (s : State) (b : Nat) : List Byte :=
  leBytes 1 b ++ leBytes 7 0 ++ (List.range 16).flatMap (fun c => leBytes 6 (s.counter b c)) ++ leBytes 8 0

def State.engineRecord (s : State) (e : Nat) : List Byte :=
  leBytes 1 e ++ leBytes 7 0 ++ leBytes 8 (s.cycles8 e / 8)
    ++ (List.range 6).flatMap (fun n => leBytes 6 (s.engCount e n)) ++ leBytes 12 0

/-- A sweep record. -/
def State.sweepRecord (s : State) : List Byte :=
  leBytes 8 s.tally.sweeps ++ leBytes 8 s.tb ++ leBytes 2 121 ++ leBytes 2 (if s.engRec then 64 else 0)
    ++ leBytes 4 s.sweepBytes ++ leBytes 40 0 ++ (List.range 121).flatMap s.bankRecord
    ++ if s.engRec then (List.range 64).flatMap s.engineRecord else []

/-- Is the sweep ring full? [DEDUCED, log entry 70] -/
def State.ringFull (s : State) : Bool :=
  s.sweepRecs == 0 || (s.tally.sweepHead + 1) % s.sweepRecs == s.fld 0x04000014 23 0 % s.sweepRecs

/-- Is a sweep that finds the ring full skipped (FULL_MODE 1)? -/
def State.sweepSkipped (s : State) : Bool := s.ringFull && (s.flag 0x04000008 31 || s.sweepRecs == 0)

/-- TAIL after a sweep: a full ring that overwrites its oldest record moves it on. -/
def State.sweepRegs (s : State) : Regs :=
  if s.ringFull && !s.sweepSkipped then
    s.regs.put 0x04000014 (w32 ((s.fld 0x04000014 23 0 + 1) % s.sweepRecs))
  else s.regs

/-- tally.ring_full, at most once per second. -/
def State.noteFull (s : State) : State :=
  if s.tally.fullAt.any fun t => s.now < t + 1000000000 then s
  else ({ s with tally := { s.tally with fullAt := some s.now } }).raise0 0 16

/-- One sweep. [DEDUCED, log entry 70] -/
def State.sweep (s : State) : State :=
  let s := s.until (s.tally.sweepAt + max 1 (s.fld 0x04000004 19 0) * 1000)
  let full := s.ringFull
  let skip := s.sweepSkipped
  let rec_ := s.sweepRecord
  let head := s.tally.sweepHead
  let t := { s.tally with sweeps := s.tally.sweeps + 1, sweepAt := s.now }
  let s := if skip then { s with tally := { t with skipped := (t.skipped + 1) % 65536 } }
    else { s with tally := { t with
      sweep := putWords t.sweep (head * s.sweepBytes) (leWords (s.sweepBytes / 4) rec_)
      sweepHead := (head + 1) % s.sweepRecs } }
  if full then s.noteFull else s

/-- TALLY_SWEEP (R397): not once the Stop phase of a flush has begun. -/
def execTallySweep (s : State) : Host.Outcome State Fault Refusal :=
  actR (s.alive && s.on 0x04000000 && s.sap.flush.isNone) s.sweepRegs s.sweep s

/-! ### Engine counters (R399) -/

/-- ENGINE_COUNTER_WRAP (R399): a counter of cycles reaches 2^48. -/
def execEngineCounterWrap (engine n : Nat) (s : State) : Host.Outcome State Fault Refusal :=
  act ((Instr.engineCounterWrap engine n).wf && s.alive && s.cycleCounter engine n)
    ((s.engStart engine n (NMap.set s.tally.eng (engine * 8 + n) 0)).engWrap 6 engine n) s

/-! ### DRAM (R388) -/

/-- A block as ECC leaves it: what its bytes are is open (log entry 2), its guard does not match.
 [DESIGN CHOICE, log entry 2; DEDUCED, log entry 69] -/
def poisonedBlock (n : Nat) (old : List Byte) : List Byte :=
  let data := fitBytes 4096 (Config.freePage (0x10000 + n) 4096)
  data ++ beBytes 8 (~~~(Config.guard64 data)).toNat ++ old.drop 4104

/-- A staged block is poisoned. -/
def State.poisonStaged (e b : Nat) (s : State) : State :=
  { s with fresh := s.fresh + 1, sapw := { s.sapw with entries := NMap.modify s.sapw.entries e fun x =>
    { x with blocks := x.blocks.zipIdx.map fun (p : Option (List Byte) × Nat) =>
      if p.2 == b then p.1.map (poisonedBlock s.fresh) else p.1 } } }

/-- A word of a Host Event Log entry reads as 0. -/
def HostEntry.zeroWord (w : Nat) (e : HostEntry) : HostEntry :=
  match w with
  | 0 => { e with time := e.time / 2 ^ 32 * 2 ^ 32 }
  | 1 => { e with time := e.time % 2 ^ 32 }
  | 2 => { e with source := 0, count := 0, scope := 0 }
  | _ => { e with detail := 0#32 }

/-- What an uncorrectable error does to its reader. [DEDUCED, log entry 69] -/
def State.poison (use : DramUse) (s : State) : State :=
  match use with
  | .none => s
  | .staged e b => s.poisonStaged e b
  | .page key =>
    if (NMap.get? s.heart.pages key).any fun p => p.dirty.isNone && p.writing.isNone then
      { s with heart := { s.heart with pages := NMap.erase s.heart.pages key } }
    else s
  | .record seq => { s with camb := { s.camb with ring := s.camb.ring.map fun (r : Rec) =>
      if r.seq == seq then { r with poisoned := true } else r } }
  | .parity _ => s
  | .pith b => s.mismatch b
  | .ring trace off =>
    if trace then { s with tally := { s.tally with trace := NMap.set s.tally.trace (off / 4 * 4) 0#32 } }
    else { s with tally := { s.tally with sweep := NMap.set s.tally.sweep (off / 4 * 4) 0#32 } }
  | .hostLog sid i w => { s with bud := { s.bud with hostLog := NMap.modify s.bud.hostLog sid fun (l : HostLog) =>
      { l with entries := l.entries.zipIdx.map fun (p : HostEntry × Nat) => if p.2 == i then p.1.zeroWord w else p.1 } } }

/-- The location of an error is recorded (DRAM_ERR_INFO, DRAM_ERR_ADDR). -/
def State.recordError (ue : Bool) (channel rank : Nat) (addr : W64) (s : State) : State :=
  { s with dram := { s.dram with ue := ue, channel := channel, rank := rank, addr := addr.toNat % 2 ^ 41 } }

/-- dram.ce, at most once per second. -/
def State.noteCe (s : State) : State :=
  if s.dram.ceAt.any fun t => s.now < t + 1000000000 then s
  else ({ s with dram := { s.dram with ceAt := some s.now } }).raise0 7 28

/-- An error is counted, recorded and reported. -/
def State.dramErr (ue : Bool) (channel rank : Nat) (addr : W64) (use : DramUse) (s : State) : State :=
  let s := s.recordError ue channel rank addr
  if ue then ((s.count 118 1 1).raise0 7 29).poison use else (s.count 118 0 1).noteCe

/-- DRAM_ERROR (R388). -/
def execDramError (uncorrectable : Bool) (channel rank : Nat) (addr : W64) (use : DramUse) (s : State) :
    Host.Outcome State Fault Refusal :=
  act ((Instr.dramError uncorrectable channel rank addr use).wf && s.dram.enabled)
    (s.dramErr uncorrectable channel rank addr use) s

/-- A scrub pass is over: SCRUB_H hours after it began. [DEDUCED, log entry 69] -/
def State.scrubbed (s : State) : State :=
  let s := s.until (s.dram.scrubAt + max 1 (s.fld 0x18000010 15 8) * 3600000000000)
  ({ s with dram := { s.dram with scrubAt := s.now } }).count 118 2 1

/-- SCRUB_PASS_DONE (R388). -/
def execScrubPassDone (s : State) : Host.Outcome State Fault Refusal :=
  act (s.dram.enabled && s.flag 0x18000010 0) s.scrubbed s

/-! ### Sideband (R418) -/

/-- RESET_N is high: it is while the device holds itself in reset after a Seal. [DEDUCED, log entry 70] -/
def State.resetHigh (s : State) : Bool := s.seed.boot != .reset || s.sap.flush == some .sealed

/-- A byte of Table 20.12; a field whose source does not run reads 0. -/
def State.sidebandByte (s : State) (o : Nat) : Nat :=
  let st := match s.seed.boot with | .running => 1 | .recovery => 2 | _ => 0
  let level := if s.seed.boot == .reset then 0 else flagBits ((List.range 4).map s.alert)
  let held := if s.alive then s.holdup else 0
  match o with
  | 0 => 0x96
  | 1 => place st 6 2 + place (b2n s.resetHigh) 5 1 + place (b2n s.sap.flush.isSome) 4 1 + level % 16
  | 2 => s.tcase % 256
  | 3 => if s.alive then s.sapw.lastResult % 4 else 0
  | 4 => held % 256
  | 5 => held / 256 % 256
  | 6 => held / 65536 % 256
  | _ => if 7 ≤ o && o ≤ 0xC then recoveryMac.toNat / 256 ^ (0xC - o) % 256 else 0

/-- SIDEBAND_READ: a byte, and the offset moves on. -/
def execSidebandRead (s : State) : Host.Outcome State Fault Refusal :=
  act true { s with sideband := { s.sideband with
    data := BitVec.ofNat 8 (s.sidebandByte s.sideband.offset.toNat), offset := s.sideband.offset + 1 } } s

/-- SIDEBAND_OFFSET_WRITE: one byte sets the offset, more are ignored. -/
def execSidebandOffsetWrite (bytes : List Byte) (s : State) : Host.Outcome State Fault Refusal :=
  match bytes with
  | [b] => act true { s with sideband := { s.sideband with offset := b } } s
  | _ => act false s s

/-- SIDEBAND_ADDRESS_ASSIGN: SETDASA or ENTDAA gives the target a dynamic address. -/
def execSidebandAddressAssign (addr : BitVec 7) (s : State) : Host.Outcome State Fault Refusal :=
  act true { s with sideband := { s.sideband with addr := addr } } s

end Sys2Proof.Machine
end

