-- ==== Sys2Proof/Machine/Xylem.lean ====
section
/-!
DEFINITION. The commands of Bark's receiver and of Xylem (spec/11, spec/02): hold-buffer release, the packets that Xylem
takes, and its timers.
-/

namespace Sys2Proof.Machine

/-! ### Bark's decision (R263 to R265) -/

/-- Does Bark pass a packet that arrived at a point, and with which counts and events? [DEDUCED, log entry 102] -/
def State.barkCheck (s : State) (p : Nat) (q : Pkt) : Bool × State :=
  let fail (c : Nat) : Bool × State := (false, (s.raise0 6 32).count 103 c 1)
  if !s.on 0x11000000 then (true, s)
  else if q.int then
    match NMap.get? s.bark.keys q.keyIndex.toNat with
    | none => fail 2
    | some k =>
      if !q.nonce.getLsbD 63 then fail 4
      else if q.mac k.key k.salt != q.tag then fail 2
      else (true, s.count 103 1 1)
  else if q.keyIndex.getLsbD 0 then fail 2
  else if s.barkMode p == 2 then (false, (s.raise0 6 33).count 103 3 1)
  else (true, s)

/-! ### Xylem's own discards (R19, R25, R31) -/

/-- Is the packet malformed (R25)? -/
def malformed (u : Udp) (q : Pkt) : Bool :=
  q.ver != 1#4 || q.op == 0#4 || q.op.toNat ≥ 9
    || u.len != 56 + (if q.int then 16 else 0) + (if q.op == 2#4 then 0 else q.length.toNat)
    || ((q.op == 1#4 || q.op == 2#4 || q.op == 3#4) && q.length == 0#16) || q.length.toNat > 8192

/-- A packet that Bark passed reaches Xylem: discarded under R17, R19, R25 or R31, or put in the inbox of its port; its sender
is learned (R224). What R31 discards is counted in a place that no register shows (log entry 93).
 [DESIGN CHOICE, log entry 93] -/
def State.toXylem (port : Nat) (h : Held) (u : Udp) (q : Pkt) (s : State) : State :=
  let drop (s : State) : State := { s with xylem := { s.xylem with bindDrops := s.xylem.bindDrops + 1 } }
  if !s.on 0x10000000 || u.csum == .wrong || h.frame.ip.any (fun i => i.mf || i.fragOff != 0) then s
  else if malformed u q then s.raise0 4 0
  else match s.sess? q.sid with
    | none => drop s
    | some x =>
      if q.srcEp != x.hostEp then drop (s.raise (evSrc 4 1) (sessDetail q.sid none))
      else if !x.ports.contains (some h.sub) || q.dstEp != s.stationEp || (!q.int && q.keyIndex.getLsbD 0) then drop s
      else
        let s := s.learn h.sub h.frame q.srcEp
        let x : InPkt :=
          { sub := h.sub, cls := h.cls, tc := h.tc, ip := h.frame.ip
            pkt := { q with payload := fitBytes (if q.op == 2#4 then 0 else q.length.toNat) q.payload } }
        if q.op == 8#4 then s
        else { s with xylem := { s.xylem with
          inbox := NMap.set s.xylem.inbox port (NMap.getD s.xylem.inbox port [] ++ [x]) } }

/-- BARK_HOLD_RELEASE (R264): Bark decides on the oldest frame of a hold buffer, 24 ns after it entered. -/
def execBarkHoldRelease (port : Nat) (s : State) : Host.Outcome State Fault Refusal :=
  match NMap.getD s.crown.hold port [] with
  | [] => act false s s
  | h :: t =>
    let s' := s.until (h.since + 24)
    let s' := { s' with crown := { s'.crown with
      hold := if t.isEmpty then NMap.erase s'.crown.hold port else NMap.set s'.crown.hold port t } }
    let s' := match h.frame.body, h.frame.udp with
      | .ahnath q, some u => match s'.barkCheck h.sub q with
        | (true, s') => s'.toXylem port h u q
        | (false, s') => s'
      | _, _ => s'
    act (crownIndex port) (s'.fillHold (NMap.getD s'.crown.holdWait port []).length port) s

/-! ### The packets that Xylem takes -/

/-- The oldest packet of a port's inbox. -/
def State.inboxHead (s : State) (port : Nat) : Option InPkt := (NMap.getD s.xylem.inbox port []).head?

/-- Did it arrive with CE? -/
def InPkt.ce (x : InPkt) : Bool := x.ip.any (·.ecn == .ce)

/-- Take it out. -/
def State.dropInbox (port : Nat) (s : State) : State :=
  let t := (NMap.getD s.xylem.inbox port []).drop 1
  { s with xylem := { s.xylem with
    inbox := if t.isEmpty then NMap.erase s.xylem.inbox port else NMap.set s.xylem.inbox port t } }

/-- Is a packet's key used up for the host: NONCE bits [62:0] at or above its limit (R265)? [DEDUCED, log entry 39] -/
def State.overLimit (s : State) (q : Pkt) : Bool :=
  q.int && s.on 0x11000000 && (NMap.get? s.bark.keys q.keyIndex.toNat).any fun k => q.nonce.toNat % 2 ^ 63 ≥ 2 ^ k.limitLog2

/-- NAK_CODE that refuses a DOORBELL (Table 2.6), if any. The doorbell region is 8 bytes at offset 0.
 [DEDUCED, log entry 39] -/
def State.doorbellNak (s : State) (q : Pkt) : Option Nat :=
  let x := (s.sess? q.sid).elim 0#16 (·.dbGen)
  if q.region != 0#32 then some 3
  else if q.gen != x then some 1
  else if q.offset.toNat + q.length.toNat > 8 then some 4
  else if s.overLimit q then some 6
  else none

/-- A DOORBELL: refused with a NAK, or acknowledged and acted on (R33, R45, R65). -/
def State.takeDoorbell (q : Pkt) (ce : Bool) (s : State) : State :=
  match s.doorbellNak q with
  | some c =>
    let s := if c == 6 then s.count 103 5 1 else s
    s.sendNak q.sid c q ce
  | none =>
    let s := s.gatherAck q.sid q.srcEp (q.keyIndex.getLsbD 0) q.reqId ce q.ar
    (s.wake q.sid q.srcEp).ringBell q.sid (doorbellOf q.payload)

/-- DOORBELL_RECEIVE (R65). -/
def execDoorbellReceive (port : Nat) (s : State) : Host.Outcome State Fault Refusal :=
  match s.inboxHead port with
  | none => act false s s
  | some x => act (crownIndex port && x.pkt.op == 6#4) ((s.dropInbox port).takeDoorbell x.pkt x.ce) s

/-- Request IDs that an ACK carries (R26). -/
def ackIds (q : Pkt) : List W64 :=
  q.reqId :: (List.range (min (q.aux.toNat % 256 - 1) (q.payload.length / 8))).map fun i => BitVec.ofNat 64 (be q.payload (8 * i) 8)

/-- One ID of an ACK: its request is done, or the answer is stale (R44). -/
def State.takeAck (q : Pkt) (s : State) (id : W64) : State :=
  match s.desc? id.toNat with
  | some d => if d.fits q then s.answerOk id.toNat 0 0 [] else s.stale
  | none => s.stale

/-- Answers of an endpoint enter its rate slot (R52): how many of these IDs match, and their CE echoes. -/
def State.noteAnswers (q : Pkt) (ids : List W64) (marked : Nat) (s : State) : State :=
  let n := (ids.filter fun i => (s.desc? i.toNat).any fun d => d.fits q).length
  if n == 0 then s else s.rateAnswer q.srcEp n marked

/-- ACK_RECEIVE (R44). -/
def execAckReceive (port : Nat) (s : State) : Host.Outcome State Fault Refusal :=
  match s.inboxHead port with
  | none => act false s s
  | some x =>
    let q := x.pkt
    act (crownIndex port && q.op == 4#4)
      ((ackIds q).foldl (fun s i => s.takeAck q i)
        ((s.dropInbox port).noteAnswers q (ackIds q) (q.aux.toNat / 2 ^ 24))).pump s

/-- NAK_RECEIVE (R38, Table 2.7). -/
def execNakReceive (port : Nat) (s : State) : Host.Outcome State Fault Refusal :=
  match s.inboxHead port with
  | none => act false s s
  | some x =>
    let q := x.pkt
    let s' := (s.dropInbox port).noteAnswers q [q.reqId] (q.aux.toNat / 2 ^ 24)
    let r := q.reqId.toNat
    let t := match s'.desc? r with
      | some d => if d.fits q then s'.answerNak r (q.aux.toNat % 256) else s'.stale
      | none => s'.stale
    act (crownIndex port && q.op == 5#4) t.pump s

/-- The Bough to whose engine a request's data goes, if an engine issued it (R11). -/
def State.boughOf (s : State) (d : Desc) : Option Nat :=
  match d.kind with
  | .dataRead t _ => ((s.cmd? t).bind (·.engine)).map (· / 16)
  | _ => none

/-- READ_RESP_RECEIVE (R44): it lands where its descriptor says, write data through the internal port of its engine's Bough
(R11). A LENGTH other than the READ's (Table 2.5) makes it a stale response. A queue pair that it enables may bring a smaller
tolerance (R333). [DEDUCED, log entry 94] -/
def execReadRespReceive (port : Nat) (s : State) : Host.Outcome State Fault Refusal :=
  match s.inboxHead port with
  | none => act false s s
  | some x =>
    let q := x.pkt
    let s' := (s.dropInbox port).noteAnswers q [q.reqId] (b2n x.ce)
    let r := q.reqId.toNat
    let t := match s'.desc? r with
      | some d =>
        if !d.fits q || d.length != q.length.toNat then s'.stale
        else match s'.boughOf d with
          | some k => s'.toBough k x
          | none => s'.answerOk r x.sub x.cls q.payload
      | none => s'.stale
    act (crownIndex port && q.op == 3#4) (if t.bud.qps == s.bud.qps then t.pump else t.pump.checkTols) s

/-- UNSUPPORTED_PACKET_RECEIVE (R33): an inbound WRITE, READ or NOTIFY is answered with NAK 0x07. -/
def execUnsupportedPacketReceive (port : Nat) (s : State) : Host.Outcome State Fault Refusal :=
  match s.inboxHead port with
  | none => act false s s
  | some x =>
    let q := x.pkt
    act (crownIndex port && (q.op == 1#4 || q.op == 2#4 || q.op == 7#4)) ((s.dropInbox port).sendNak q.sid 7 q x.ce) s

/-! ### Timers (R40 to R45, R49, R50, R52, R75) -/

/-- Is a command or queue pair's packet on the wire? -/
def Desc.waits (d : Desc) : Bool := d.st == .sent

/-- RETRANSMIT_TIMEOUT (R41): the request is sent again, and its slot's rate halved (R52). -/
def execRetransmitTimeout (req : Nat) (s : State) : Host.Outcome State Fault Refusal :=
  match s.desc? req with
  | none => act false s s
  | some d => act (d.waits && d.retries < s.retryLimit)
      (((s.until (d.sentAt + d.interval)).cutRate d.dst).retransmit req) s

/-- REQUEST_RETRY_EXHAUSTED (R42): unanswered RTO_MAX after its last retransmission; this timeout too halves the slot's rate.
 [DEDUCED, log entry 37] -/
def execRequestRetryExhausted (req : Nat) (s : State) : Host.Outcome State Fault Refusal :=
  match s.desc? req with
  | none => act false s s
  | some d => act (d.waits && d.retries ≥ s.retryLimit)
      ((((s.until (d.sentAt + s.rtoMax)).cutRate d.dst).answerFail req).pump) s

/-- ACK_DELAY_EXPIRY (R45): an ACK that gathers is sent once its oldest entry is DELAY × 0.25 µs old. -/
def execAckDelayExpiry (ack : Nat) (s : State) : Host.Outcome State Fault Refusal :=
  match NMap.get? s.xylem.acks ack with
  | none => act false s s
  | some a => act true ((s.until (a.since + s.fld 0x10000010 7 0 * 250)).sendAck ack) s

/-- One slot's update (R52). -/
def RateSlot.update (r : RateSlot) (rateMin rateAi gShift idleReset rateStart : Nat) : RateSlot :=
  let f := r.marked * 1024 / max 1 r.acked
  let alpha := if r.acked > 0 then
      ((r.alpha : Int) + Int.tdiv ((f : Int) - (r.alpha : Int)) ((2 ^ gShift : Nat) : Int)).toNat else r.alpha
  let rate := if r.marked > 0 then max rateMin (r.rate * (2048 - alpha) / 2048)
    else if r.acked > 0 then min r.portRate (r.rate + rateAi) else r.rate
  let idle := if r.sent then 0 else r.idle + 1
  let back := !r.sent && idle == idleReset
  { r with alpha := if back then 1024 else alpha, rate := if back then rateStart else rate, idle := idle
           acked := 0, marked := 0, sent := false }

/-- T_UPD is over: every slot that has sent traffic is updated, and the next period begins. -/
def State.rateUpdate (s : State) : State :=
  let t := s.reg 0x10000020
  let s := s.until (s.xylem.ratedAt + bits t 15 0)
  { s with xylem := { s.xylem with ratedAt := s.now, rates := s.xylem.rates.map fun p =>
      (p.1, p.2.update s.rateMin (s.fld 0x1000001C 12 0) (bits t 19 16) (bits t 31 24) (s.rateStart p.2.portRate)) } }

/-- RATE_UPDATE (R52), once per T_UPD. -/
def execRateUpdate (s : State) : Host.Outcome State Fault Refusal := act (s.on 0x10000000) s.rateUpdate s

/-- Time until which a paced request must wait for its rate slot and shapers (R53, R276). [DEDUCED, log entry 38] -/
def State.pacedUntil (s : State) (d : Desc) : Nat :=
  let sh := s.shapersOf d
  max (ceilDiv (s.rateSlot d.dst).releaseAt 1000)
    (max (shapersReady s.canopy.sess sh.1 s.now) (shapersReady s.canopy.ns sh.2 s.now))

/-- Is a request waiting to be released, with no older one of its session and shaper kind before it (R276)?
 [DEDUCED, log entry 38] -/
def State.releasable (s : State) (req : Nat) (d : Desc) : Bool :=
  s.xylem.started && d.st == .paced && !d.kind.reserved && !d.refetch
    && !(s.xylem.descs.any fun p => p.1 < req && p.2.st == .paced && p.2.sid == d.sid
      && !d.kind.shaperKinds.isEmpty && p.2.kind.shaperKinds == d.kind.shaperKinds)

/-- Release a paced request: charge its slot and shapers and send it, unless its queue does not admit it (R226, R273).
 [DEDUCED, log entry 38] -/
def State.releasePaced (req : Nat) (d : Desc) (s : State) : State :=
  let s0 := s
  let s := s.until (s.pacedUntil d)
  let len := s.descLen d
  match s.transmit req with
  | (.waits, _) => s
  | (.refused k, _) => if d.kind.cmd?.isSome then s0.keyRefused req k else s0
  | (_, s) =>
    let r := s.rateSlot d.dst
    let wire := (len + 20) * 80000 / max 1 r.rate
    let s := s.setRate d.dst { r with releaseAt := r.releaseAt + wire, sent := true }
    let sh := s.shapersOf d
    let late (m : NMap Shaper) (l : List Nat) : Bool := l.any fun i => (NMap.get? m i).any fun x => x.level s0.now < 0 && x.rate > 0
    let lateS := late s0.canopy.sess sh.1
    let lateN := late s0.canopy.ns sh.2
    let s := if lateS then s.count 104 0 1 else s
    let s := if lateN then s.count 104 1 1 else s
    let charge : State → State := fun s => { s with canopy := { s.canopy with
      sess := chargeAll s.canopy.sess sh.1 s.now (s.chargeLen len)
      ns := chargeAll s.canopy.ns sh.2 s.now (s.chargeLen len) } }
    charge s

/-- PACED_RELEASE (R273); a packet to be sent again whose payload left the retain pool meanwhile is rebuilt first (R43). -/
def execPacedRelease (req : Nat) (s : State) : Host.Outcome State Fault Refusal :=
  match s.desc? req with
  | none => act false s s
  | some d => act (s.releasable req d) (if d.dropped then s.refetch req d else (s.releasePaced req d).pump) s

/-- QUIET_EXPIRY (R49, R50): one MPL has passed since the last retransmission of what is held back. -/
def execQuietExpiry (q : Quiet) (s : State) : Host.Outcome State Fault Refusal :=
  match q with
  | .command tag =>
    match (s.cmd? tag).filter fun c => c.status.isSome && !c.posted && !s.owes tag with
    | none => act false s s
    | some c => act c.retxAt.isSome ((s.until ((c.retxAt.getD 0) + s.mpl)).tryPost tag) s
  | .slot qpid slot =>
    match (s.qp? qpid).bind fun x => x.heldSlots.find? fun h => h.1 == slot with
    | none => act false s s
    | some h => act h.2.2 ((s.until (h.2.1 + s.mpl)).releaseSlots qpid) s
  | .notify qpid =>
    match (s.qp? qpid).bind (·.notifyHold) with
    | none => act false s s
    | some t => act true ((s.until t).tryNotify qpid) s

/-- NOTIFY_COAL_EXPIRY (R75): COAL_TIME µs have passed since the first completion not yet notified. -/
def execNotifyCoalExpiry (qpid : Nat) (s : State) : Host.Outcome State Fault Refusal :=
  match s.qp? qpid with
  | none => act false s s
  | some x => act (x.notifyEn && x.st != .disabled && x.unnotified > 0)
      (((s.until (x.unnotifiedSince + x.coalTime * 1000)).modQp qpid fun x => { x with notifyDue := true }).tryNotify qpid) s

/-- XYLEM_START_WAIT_END (R40): one MPL after Xylem was enabled, requests may go. -/
def execXylemStartWaitEnd (s : State) : Host.Outcome State Fault Refusal :=
  let s' := s.until (s.xylem.enabledAt + s.mpl)
  act (s.on 0x10000000 && !s.xylem.started)
    (State.sendReserved none { s' with xylem := { s'.xylem with started := true } }) s

end Sys2Proof.Machine
end

