-- ==== Sys2Proof/Machine/Dispatch.lean ====
section
/-!
DEFINITION. The dispatch: one arm per command of spec/opcode_table.json, in its order.
-/

namespace Sys2Proof.Machine

open Sys2Proof

/-- The effect of a command on everything but the queue of waiting commands. -/
def exec (i : Instr) (s : State) : Host.Outcome State Fault Refusal :=
  match i with
  | .frameReceive point f => Sys2Proof.Machine.execFrameReceive point f s
  | .pauseFrameReceive point opcode => Sys2Proof.Machine.execPauseFrameReceive point opcode s
  | .barkHoldRelease port => Sys2Proof.Machine.execBarkHoldRelease port s
  | .doorbellReceive port => Sys2Proof.Machine.execDoorbellReceive port s
  | .ackReceive port => Sys2Proof.Machine.execAckReceive port s
  | .nakReceive port => Sys2Proof.Machine.execNakReceive port s
  | .readRespReceive port => Sys2Proof.Machine.execReadRespReceive port s
  | .unsupportedPacketReceive port => Sys2Proof.Machine.execUnsupportedPacketReceive port s
  | .heartbeatReceive west station state => Sys2Proof.Machine.execHeartbeatReceive west station state s
  | .commandPlace tag => Sys2Proof.Machine.execCommandPlace tag s
  | .fetch qpid => Sys2Proof.Machine.execFetch qpid s
  | .shadowPoll qpid => Sys2Proof.Machine.execShadowPoll qpid s
  | .retransmitTimeout req => Sys2Proof.Machine.execRetransmitTimeout req s
  | .requestRetryExhausted req => Sys2Proof.Machine.execRequestRetryExhausted req s
  | .ackDelayExpiry ack => Sys2Proof.Machine.execAckDelayExpiry ack s
  | .rateUpdate => Sys2Proof.Machine.execRateUpdate s
  | .pacedRelease req => Sys2Proof.Machine.execPacedRelease req s
  | .quietExpiry q => Sys2Proof.Machine.execQuietExpiry q s
  | .notifyCoalExpiry qpid => Sys2Proof.Machine.execNotifyCoalExpiry qpid s
  | .xylemStartWaitEnd => Sys2Proof.Machine.execXylemStartWaitEnd s
  | .queuePairDisableDone qpid => Sys2Proof.Machine.execQueuePairDisableDone qpid s
  | .sessionResetSettle sid => Sys2Proof.Machine.execSessionResetSettle sid s
  | .keepaliveExpiry sid => Sys2Proof.Machine.execKeepaliveExpiry sid s
  | .sessionOpOpen => Sys2Proof.Machine.execSessionOpOpen s
  | .sessionOpClose => Sys2Proof.Machine.execSessionOpClose s
  | .sessionOpReset => Sys2Proof.Machine.execSessionOpReset s
  | .getLogPage tag => Sys2Proof.Machine.execGetLogPage tag s
  | .identify tag => Sys2Proof.Machine.execIdentify tag s
  | .abort tag => Sys2Proof.Machine.execAbort tag s
  | .setFeatures tag => Sys2Proof.Machine.execSetFeatures tag s
  | .getFeatures tag => Sys2Proof.Machine.execGetFeatures tag s
  | .asynchronousEventRequest tag => Sys2Proof.Machine.execAsynchronousEventRequest tag s
  | .namespaceCreate tag data => Sys2Proof.Machine.execNamespaceCreate tag data s
  | .namespaceDelete tag => Sys2Proof.Machine.execNamespaceDelete tag s
  | .namespaceDeleteRecord nsid => Sys2Proof.Machine.execNamespaceDeleteRecord nsid s
  | .namespaceAttach tag data => Sys2Proof.Machine.execNamespaceAttach tag data s
  | .namespaceDetach tag data => Sys2Proof.Machine.execNamespaceDetach tag data s
  | .firmwareImageDownload tag data => Sys2Proof.Machine.execFirmwareImageDownload tag data s
  | .firmwareCommitWrite tag => Sys2Proof.Machine.execFirmwareCommitWrite tag s
  | .firmwareCommitWriteMark tag => Sys2Proof.Machine.execFirmwareCommitWriteMark tag s
  | .firmwareCommitMark tag => Sys2Proof.Machine.execFirmwareCommitMark tag s
  | .firmwareActivate tag => Sys2Proof.Machine.execFirmwareActivate tag s
  | .keepAlive tag => Sys2Proof.Machine.execKeepAlive tag s
  | .sessionOpen tag => Sys2Proof.Machine.execSessionOpen tag s
  | .sessionClose tag => Sys2Proof.Machine.execSessionClose tag s
  | .sessionReset tag => Sys2Proof.Machine.execSessionReset tag s
  | .sessionQuery tag => Sys2Proof.Machine.execSessionQuery tag s
  | .registerRead tag => Sys2Proof.Machine.execRegisterRead tag s
  | .registerWrite tag data => Sys2Proof.Machine.execRegisterWrite tag data s
  | .saveConfiguration tag => Sys2Proof.Machine.execSaveConfiguration tag s
  | .groveCreate tag => Sys2Proof.Machine.execGroveCreate tag s
  | .groveDelete tag => Sys2Proof.Machine.execGroveDelete tag s
  | .addSpares tag => Sys2Proof.Machine.execAddSpares tag s
  | .removeSpares tag => Sys2Proof.Machine.execRemoveSpares tag s
  | .releaseNamespaces tag => Sys2Proof.Machine.execReleaseNamespaces tag s
  | .rebuildNow tag => Sys2Proof.Machine.execRebuildNow tag s
  | .pauseRebuild tag => Sys2Proof.Machine.execPauseRebuild tag s
  | .resumeRebuild tag => Sys2Proof.Machine.execResumeRebuild tag s
  | .failMember tag => Sys2Proof.Machine.execFailMember tag s
  | .verify tag => Sys2Proof.Machine.execVerify tag s
  | .keyLoad tag data => Sys2Proof.Machine.execKeyLoad tag data s
  | .keyLoadAndSelect tag data => Sys2Proof.Machine.execKeyLoadAndSelect tag data s
  | .keySelect tag => Sys2Proof.Machine.execKeySelect tag s
  | .keyClear tag => Sys2Proof.Machine.execKeyClear tag s
  | .flush tag => Sys2Proof.Machine.execFlush tag s
  | .write tag => Sys2Proof.Machine.execWrite tag s
  | .read tag => Sys2Proof.Machine.execRead tag s
  | .compare tag => Sys2Proof.Machine.execCompare tag s
  | .writeZeroes tag => Sys2Proof.Machine.execWriteZeroes tag s
  | .datasetManagement tag => Sys2Proof.Machine.execDatasetManagement tag s
  | .translationDone tag => Sys2Proof.Machine.execTranslationDone tag s
  | .stealAttempt engine => Sys2Proof.Machine.execStealAttempt engine s
  | .journalRecordDurable => Sys2Proof.Machine.execJournalRecordDurable s
  | .cambiumCompact => Sys2Proof.Machine.execCambiumCompact s
  | .pageWriteback page => Sys2Proof.Machine.execPageWriteback page s
  | .stripeOpen grove stream => Sys2Proof.Machine.execStripeOpen grove stream s
  | .stripeIdleClose grove stream => Sys2Proof.Machine.execStripeIdleClose grove stream s
  | .driveCommandComplete drive cmd result => Sys2Proof.Machine.execDriveCommandComplete drive cmd result s
  | .prunerVictimSelect grove => Sys2Proof.Machine.execPrunerVictimSelect grove s
  | .segmentFree grove seg => Sys2Proof.Machine.execSegmentFree grove seg s
  | .memberFail grove slot => Sys2Proof.Machine.execMemberFail grove slot s
  | .rebuildSegmentDone grove => Sys2Proof.Machine.execRebuildSegmentDone grove s
  | .resyncStripe grove chunks => Sys2Proof.Machine.execResyncStripe grove chunks s
  | .shootLingerExpiry shoot => Sys2Proof.Machine.execShootLingerExpiry shoot s
  | .egressSelect point => Sys2Proof.Machine.execEgressSelect point s
  | .crownScrub => Sys2Proof.Machine.execCrownScrub s
  | .learnedEntryAgeOut ep => Sys2Proof.Machine.execLearnedEntryAgeOut ep s
  | .fwdEntryRead => Sys2Proof.Machine.execFwdEntryRead s
  | .fwdEntryWrite => Sys2Proof.Machine.execFwdEntryWrite s
  | .fwdEntryDelete => Sys2Proof.Machine.execFwdEntryDelete s
  | .pathRecordWrite => Sys2Proof.Machine.execPathRecordWrite s
  | .linkUp point => Sys2Proof.Machine.execLinkUp point s
  | .linkDown point pcs => Sys2Proof.Machine.execLinkDown point s pcs
  | .portClassWrite point cls => Sys2Proof.Machine.execPortClassWrite point cls s
  | .indicationRead point => Sys2Proof.Machine.execIndicationRead point s
  | .timebaseSet => Sys2Proof.Machine.execTimebaseSet s
  | .timebaseStep => Sys2Proof.Machine.execTimebaseStep s
  | .ppsInCapture => Sys2Proof.Machine.execPpsInCapture s
  | .ppsOutPulse => Sys2Proof.Machine.execPpsOutPulse s
  | .txtsRead => Sys2Proof.Machine.execTxtsRead s
  | .gateEntryAdvance point => Sys2Proof.Machine.execGateEntryAdvance point s
  | .gateListSwap point => Sys2Proof.Machine.execGateListSwap point s
  | .mdioStart => Sys2Proof.Machine.execMdioStart s
  | .mdioDone value => Sys2Proof.Machine.execMdioDone value s
  | .phyAutoPoll r1 r4 r5 r9 r10 => Sys2Proof.Machine.execPhyAutoPoll r1 r4 r5 r9 r10 s
  | .mgmtCollision bits => Sys2Proof.Machine.execMgmtCollision bits s
  | .mgmtBackoffExpiry => Sys2Proof.Machine.execMgmtBackoffExpiry s
  | .shaperRead => Sys2Proof.Machine.execShaperRead s
  | .shaperWrite => Sys2Proof.Machine.execShaperWrite s
  | .heartbeatSend => Sys2Proof.Machine.execHeartbeatSend s
  | .neighbourLost west => Sys2Proof.Machine.execNeighbourLost west s
  | .ringJoinWrite joinE joinW => Sys2Proof.Machine.execRingJoinWrite joinE joinW s
  | .bypassSettled => Sys2Proof.Machine.execBypassSettled s
  | .passThroughLock => Sys2Proof.Machine.execPassThroughLock s
  | .lockstepMismatch pairB cut => Sys2Proof.Machine.execLockstepMismatch pairB cut s
  | .watchdogExpiry cut => Sys2Proof.Machine.execWatchdogExpiry cut s
  | .watchdogKick => Sys2Proof.Machine.execWatchdogKick s
  | .pithCheckpoint => Sys2Proof.Machine.execPithCheckpoint s
  | .takeover => Sys2Proof.Machine.execTakeover s
  | .rehearse path => Sys2Proof.Machine.execRehearse path s
  | .rearm pass => Sys2Proof.Machine.execRearm pass s
  | .standbyWakeDone ok => Sys2Proof.Machine.execStandbyWakeDone ok s
  | .standbyBootDone ok => Sys2Proof.Machine.execStandbyBootDone ok s
  | .standbyRestoreDone => Sys2Proof.Machine.execStandbyRestoreDone s
  | .takeoverTimeout => Sys2Proof.Machine.execTakeoverTimeout s
  | .boughVacated bough => Sys2Proof.Machine.execBoughVacated bough s
  | .reloadAbort bough => Sys2Proof.Machine.execReloadAbort bough s
  | .reloadRetry bough => Sys2Proof.Machine.execReloadRetry bough s
  | .microcodeLoaded bough => Sys2Proof.Machine.execMicrocodeLoaded bough s
  | .drivePresent drive => Sys2Proof.Machine.execDrivePresent drive s
  | .debounceExpiry drive => Sys2Proof.Machine.execDebounceExpiry drive s
  | .powerDelayExpiry drive => Sys2Proof.Machine.execPowerDelayExpiry drive s
  | .linkTrained drive gen width => Sys2Proof.Machine.execLinkTrained drive gen width s
  | .linkTrainTimeout drive => Sys2Proof.Machine.execLinkTrainTimeout drive s
  | .configWaitExpiry drive => Sys2Proof.Machine.execConfigWaitExpiry drive s
  | .driveInitDone drive info => Sys2Proof.Machine.execDriveInitDone drive info s
  | .driveInitTimeout drive => Sys2Proof.Machine.execDriveInitTimeout drive s
  | .surpriseRemoval drive => Sys2Proof.Machine.execSurpriseRemoval drive s
  | .drivePowerOff drive on => Sys2Proof.Machine.execDrivePowerOff drive on s
  | .rootletDisable drive => Sys2Proof.Machine.execRootletDisable drive s
  | .rootletEnable drive => Sys2Proof.Machine.execRootletEnable drive s
  | .aerCorrectable drive => Sys2Proof.Machine.execAerCorrectable drive s
  | .aerNonfatal drive cmd => Sys2Proof.Machine.execAerNonfatal drive cmd s
  | .aerFatal drive => Sys2Proof.Machine.execAerFatal drive s
  | .inboundViolation drive isWrite addr len => Sys2Proof.Machine.execInboundViolation drive isWrite addr len s
  | .containmentRelease drive => Sys2Proof.Machine.execContainmentRelease drive s
  | .driveCommandTimeout drive cmd => Sys2Proof.Machine.execDriveCommandTimeout drive cmd s
  | .abortWaitExpiry drive cmd => Sys2Proof.Machine.execAbortWaitExpiry drive cmd s
  | .controllerResetDone drive ok => Sys2Proof.Machine.execControllerResetDone drive ok s
  | .sapIdleExpiry res sp => Sys2Proof.Machine.execSapIdleExpiry res sp s
  | .sapStateExit res => Sys2Proof.Machine.execSapStateExit res s
  | .resourcePin en sp => Sys2Proof.Machine.execResourcePin en sp s
  | .droopTrip die => Sys2Proof.Machine.execDroopTrip die s
  | .droopRelease die => Sys2Proof.Machine.execDroopRelease die s
  | .thermalSample temps => Sys2Proof.Machine.execThermalSample temps s
  | .throttleStep die => Sys2Proof.Machine.execThrottleStep die s
  | .pwrfailAssert => Sys2Proof.Machine.execPwrfailAssert s
  | .railUndervoltage => Sys2Proof.Machine.execRailUndervoltage s
  | .flushStopDone => Sys2Proof.Machine.execFlushStopDone s
  | .vaultWriteDone => Sys2Proof.Machine.execVaultWriteDone s
  | .flushSealDone => Sys2Proof.Machine.execFlushSealDone s
  | .sapRestart modeSel ringPt recForce => Sys2Proof.Machine.execSapRestart modeSel ringPt recForce s
  | .referenceLoss ref => Sys2Proof.Machine.execReferenceLoss ref s
  | .resetAssert => Sys2Proof.Machine.execResetAssert s
  | .resetRelease modeSel ringPt recForce => Sys2Proof.Machine.execResetRelease modeSel ringPt recForce s
  | .pllLocked => Sys2Proof.Machine.execPllLocked s
  | .selftestDone pass links => Sys2Proof.Machine.execSelftestDone pass links s
  | .imageChecked => Sys2Proof.Machine.execImageChecked s
  | .dramTrained ok => Sys2Proof.Machine.execDramTrained ok s
  | .drivesSettled badVault badIntent => Sys2Proof.Machine.execDrivesSettled badVault badIntent s
  | .driveWaitExpiry => Sys2Proof.Machine.execDriveWaitExpiry s
  | .restoreDone => Sys2Proof.Machine.execRestoreDone s
  | .waitRecordTimeout => Sys2Proof.Machine.execWaitRecordTimeout s
  | .startDone => Sys2Proof.Machine.execStartDone s
  | .seedRestart modeSel ringPt recForce => Sys2Proof.Machine.execSeedRestart modeSel ringPt recForce s
  | .recoveryErase => Sys2Proof.Machine.execRecoveryErase s
  | .recoveryProgram => Sys2Proof.Machine.execRecoveryProgram s
  | .recoveryCheck => Sys2Proof.Machine.execRecoveryCheck s
  | .recoverySetNext => Sys2Proof.Machine.execRecoverySetNext s
  | .recoveryProvision => Sys2Proof.Machine.execRecoveryProvision s
  | .recoveryRestart modeSel ringPt recForce => Sys2Proof.Machine.execRecoveryRestart modeSel ringPt recForce s
  | .flashOpDone ok => Sys2Proof.Machine.execFlashOpDone ok s
  | .flashWriteDone ok => Sys2Proof.Machine.execFlashWriteDone ok s
  | .dlinkRetrain link => Sys2Proof.Machine.execDlinkRetrain link s
  | .dlinkRetrainDone link reduced => Sys2Proof.Machine.execDlinkRetrainDone link reduced s
  | .dlinkDown link => Sys2Proof.Machine.execDlinkDown link s
  | .registerAccessFrame dstMac srcMac vlan payload => Sys2Proof.Machine.execRegisterAccessFrame dstMac srcMac vlan payload s
  | .registerFieldWrite path addr data mask => Sys2Proof.Machine.execRegisterFieldWrite path addr data mask s
  | .commitApply addr bit => Sys2Proof.Machine.execCommitApply addr bit s
  | .xylemCommitTimer => Sys2Proof.Machine.execXylemCommitTimer s
  | .xylemCommitRate => Sys2Proof.Machine.execXylemCommitRate s
  | .budCommitFetch => Sys2Proof.Machine.execBudCommitFetch s
  | .knotCommitLimits => Sys2Proof.Machine.execKnotCommitLimits s
  | .twigCommitSteal engine => Sys2Proof.Machine.execTwigCommitSteal engine s
  | .heartwoodCommitWb => Sys2Proof.Machine.execHeartwoodCommitWb s
  | .cambiumCommitWater => Sys2Proof.Machine.execCambiumCommitWater s
  | .groveCommitLag => Sys2Proof.Machine.execGroveCommitLag s
  | .groveCommitAssy => Sys2Proof.Machine.execGroveCommitAssy s
  | .sapwoodCommitWater => Sys2Proof.Machine.execSapwoodCommitWater s
  | .prunerCommitThresh => Sys2Proof.Machine.execPrunerCommitThresh s
  | .coppiceCommitLimits => Sys2Proof.Machine.execCoppiceCommitLimits s
  | .crownCommitBuf => Sys2Proof.Machine.execCrownCommitBuf s
  | .crownCommitEcn => Sys2Proof.Machine.execCrownCommitEcn s
  | .fmacCommitGate port sub => Sys2Proof.Machine.execFmacCommitGate port sub s
  | .canopyCommitSch => Sys2Proof.Machine.execCanopyCommitSch s
  | .canopyCommitPolice => Sys2Proof.Machine.execCanopyCommitPolice s
  | .rootletCommitIo drive => Sys2Proof.Machine.execRootletCommitIo drive s
  | .sapCommitPolicy => Sys2Proof.Machine.execSapCommitPolicy s
  | .sapCommitSafety => Sys2Proof.Machine.execSapCommitSafety s
  | .tallyCommitFilter => Sys2Proof.Machine.execTallyCommitFilter s
  | .tallyCommitSample => Sys2Proof.Machine.execTallyCommitSample s
  | .eventPendClear group ones => Sys2Proof.Machine.execEventPendClear group ones s
  | .hostEventGapExpiry sid source => Sys2Proof.Machine.execHostEventGapExpiry sid source s
  | .tallySweep => Sys2Proof.Machine.execTallySweep s
  | .engineCounterWrap engine n => Sys2Proof.Machine.execEngineCounterWrap engine n s
  | .engineCounterClear n => Sys2Proof.Machine.execEngineCounterClear n s
  | .ringDataRead => Sys2Proof.Machine.execRingDataRead s
  | .latchedPairRead addr => Sys2Proof.Machine.execLatchedPairRead addr s
  | .dramError uncorrectable channel rank addr use => Sys2Proof.Machine.execDramError uncorrectable channel rank addr use s
  | .sidebandRead => Sys2Proof.Machine.execSidebandRead s
  | .sidebandOffsetWrite bytes => Sys2Proof.Machine.execSidebandOffsetWrite bytes s
  | .sidebandAddressAssign addr => Sys2Proof.Machine.execSidebandAddressAssign addr s
  | .rehearsalBeginDelayExpiry => Sys2Proof.Machine.execRehearsalBeginDelayExpiry s
  | .linkEqualizationFail drive => Sys2Proof.Machine.execLinkEqualizationFail drive s
  | .rootletDisableWaitExpiry drive => Sys2Proof.Machine.execRootletDisableWaitExpiry drive s
  | .powerStateExitDone res => Sys2Proof.Machine.execPowerStateExitDone res s
  | .pwrfailDeassert => Sys2Proof.Machine.execPwrfailDeassert s
  | .carrierSenseDeassert lost => Sys2Proof.Machine.execCarrierSenseDeassert s lost
  | .phyResetRelease => Sys2Proof.Machine.execPhyResetRelease s
  | .scrubPassDone => Sys2Proof.Machine.execScrubPassDone s

end Sys2Proof.Machine
end

