-- ==== Sys2Proof/Safety.lean ====
section
/-!
DEFINITION. What counts as a safe state and a safe run, in the terms that claims use.
-/

namespace Sys2Proof

/-- Commands that may write the management address space: resets and starts, register accesses by any path, commits and
their boundaries, reads with an effect, and the few whose effect includes a register (a window's data, MMAC_MDIO.DATA, TAIL of
the sweep ring, RING_HB_STATE after a takeover). -/
def Instr.writesRegs : Instr → Bool
  | .resetAssert => true
  | .imageChecked => true
  | .dramTrained _ => true
  | .drivesSettled _ _ => true
  | .restoreDone => true
  | .waitRecordTimeout => true
  | .startDone => true
  | .seedRestart _ _ _ => true
  | .sapRestart _ _ _ => true
  | .recoveryErase => true
  | .recoveryProgram => true
  | .recoveryCheck => true
  | .recoverySetNext => true
  | .recoveryProvision => true
  | .recoveryRestart _ _ _ => true
  | .flushStopDone => true
  | .flushSealDone => true
  | .registerFieldWrite _ _ _ _ => true
  | .registerAccessFrame _ _ _ _ => true
  | .registerRead _ => true
  | .registerWrite _ _ => true
  | .setFeatures _ => true
  | .commitApply _ _ => true
  | .gateListSwap _ => true
  | .xylemCommitTimer => true
  | .xylemCommitRate => true
  | .budCommitFetch => true
  | .knotCommitLimits => true
  | .twigCommitSteal _ => true
  | .heartwoodCommitWb => true
  | .cambiumCommitWater => true
  | .groveCommitLag => true
  | .groveCommitAssy => true
  | .sapwoodCommitWater => true
  | .prunerCommitThresh => true
  | .coppiceCommitLimits => true
  | .crownCommitBuf => true
  | .crownCommitEcn => true
  | .fmacCommitGate _ _ => true
  | .canopyCommitSch => true
  | .canopyCommitPolice => true
  | .rootletCommitIo _ => true
  | .sapCommitPolicy => true
  | .sapCommitSafety => true
  | .tallyCommitFilter => true
  | .tallyCommitSample => true
  | .portClassWrite _ _ => true
  | .ringJoinWrite _ _ => true
  | .resourcePin _ _ => true
  | .drivePowerOff _ _ => true
  | .rootletDisable _ => true
  | .rootletEnable _ => true
  | .watchdogKick => true
  | .takeover => true
  | .rehearse _ => true
  | .eventPendClear _ _ => true
  | .engineCounterClear _ => true
  | .indicationRead _ => true
  | .txtsRead => true
  | .ringDataRead => true
  | .latchedPairRead _ => true
  | .fwdEntryRead => true
  | .shaperRead => true
  | .mdioDone _ => true
  | .tallySweep => true
  | .lockstepMismatch _ _ => true
  | .watchdogExpiry _ => true
  | .standbyRestoreDone => true
  | .microcodeLoaded _ => true
  | _ => false

end Sys2Proof

namespace Sys2Proof.Machine

/-- The invariant of the machine: the register memory is in its canonical form (keys rising, nothing listed that equals
its reset value), so that equal register files are equal data. -/
def State.Inv (s : State) : Prop := s.regs.wf = true

/-- Every command that waits is well formed. -/
def State.queueWf (s : State) : Prop := ∀ c ∈ s.pending, c.wf = true

/-- A step is safe where it answers a next state: no command of this block stops it. -/
def State.stepSafe (s : State) : Prop := ∃ t, step s = .next t

/-- The command answers a next state, of which `P` holds. -/
def Runs (c : Instr) (s : State) (P : State → Prop) : Prop := ∃ t, exec c s = .next t ∧ P t

/-- A commit command of the bit `b` of the COMMIT register at `a`, once it can pass the die links: where its block is enabled it leaves a snapshot of the
group's shadow that waits for the safe boundary, and changes nothing else (R380). -/
def Snapshots (c : Instr) (a b : Nat) : Prop :=
  ∀ s : State, s.Inv → s.alive = true → s.bridges .pith a = true → s.blockOn a = true →
    let r := { s.regs with
      snaps := NMap.set s.regs.snaps (a * 8 + b) { path := .pith, vals := s.regs.snapshot a b } }
    exec c s = .next (State.endWith { s with regs := r } r s)

/-- A frame that arrives at an external point and passes R220, R242 and a policer that is off (R282). -/
structure Admitted (s : State) (p : Nat) (f : Frame) : Prop where
  point : p < 35
  arrives : s.canArrive p = true
  sound : lengthKinds f = []
  notControl : f.ethertype ≠ 0x8808#16
  mine : s.macAccepts p f = true
  headers : headerKinds f = []
  opened : s.portClass p ≠ 0
  unpoliced : (s.policer p).rate = 0

/-- `t` agrees with `s` in every part but those that raising an event or posting a completion may touch: Xylem, Bud, Knot,
the reads in progress, the switch and its queues, Bark, Canopy, the event sources, Tally, and the list of event requests
about to complete. -/
structure Still (s t : State) : Prop where
  now : t.now = s.now
  regs : t.regs = s.regs
  twigs : t.twigs = s.twigs
  boughCycles : t.boughCycles = s.boughCycles
  heart : t.heart = s.heart
  camb : t.camb = s.camb
  sapw : t.sapw = s.sapw
  groves : t.groves = s.groves
  asmNext : t.asmNext = s.asmNext
  nextPiece : t.nextPiece = s.nextPiece
  drives : t.drives = s.drives
  ports : t.ports = s.ports
  mmac : t.mmac = s.mmac
  time : t.time = s.time
  ring : t.ring = s.ring
  pith : t.pith = s.pith
  sap : t.sap = s.sap
  seed : t.seed = s.seed
  alertFixed : t.alertFixed = s.alertFixed
  dram : t.dram = s.dram
  links : t.links = s.links
  linkAt : t.linkAt = s.linkAt
  bistDone : t.bistDone = s.bistDone
  bistPass : t.bistPass = s.bistPass
  sideband : t.sideband = s.sideband
  media : t.media = s.media
  fresh : t.fresh = s.fresh
  readData : t.readData = s.readData
  out : t.out = s.out
  ra : t.ra = s.ra
  pending : t.pending = s.pending

end Sys2Proof.Machine
end

