-- ==== Sys2Proof/Certificates/Slice0/Obligations.lean ====
section
/-!
DEFINITION. The statements for the provers. `State.done` and `State.endWith` (Machine/Act.lean) are the end that every
command has: the completions of event requests that events answered are posted, the register file and the queue of waiting
commands are as named. What that end may touch is itself a statement (`EndOfACommandTouchesHostSideOnly`), so that an
equation `exec c s = .next (t.done s)` gives the whole next state: what `t` names is changed, and nothing else.
-/

open Sys2Proof Sys2Proof.Machine

/-! ## The machine as a whole -/

/-- A step takes the command at the front of the queue and is `exec` of it on the state with the queue's rest; on an empty
queue one nanosecond passes (log entry 5: the model's choice). -/
def Obligations.StepRunsFrontCommand : Prop :=
  (∀ (s : State) (c : Instr) (rest : List Instr), s.pending = c :: rest → step s = exec c { s with pending := rest }) ∧
  (∀ s : State, s.pending = [] → step s = .next (s.advance 1))

/-- Every command in every state answers a next state, and leaves the queue of waiting commands alone. -/
def Obligations.EveryCommandCompletesAndKeepsQueue : Prop :=
  ∀ (c : Instr) (s : State), Runs c s fun t => t.pending = s.pending

/-- The register memory keeps its canonical form in every step. -/
def Obligations.StepKeepsRegisterForm : Prop :=
  ∀ s t : State, s.Inv → step s = .next t → t.Inv

/-- The state after reset meets the invariant. -/
def Obligations.ResetMeetsInvariant : Prop := State.reset.Inv

/-- A command that is no register access, no start, restart or reset, and none of the few that Pith, Sap, MDIO or a window
turn into a register write (`Instr.writesRegs`), leaves every register of the management address space as it is. -/
def Obligations.OnlyRegisterCommandsWriteRegisters : Prop :=
  ∀ (c : Instr) (s : State), c.writesRegs = false → Runs c s fun t => t.regs = s.regs

/-- The end of a command touches only what completions and events touch; where no event request is about to complete it
touches nothing but the register file and the queue, which it leaves as named. -/
def Obligations.EndOfACommandTouchesHostSideOnly : Prop :=
  (∀ (t s : State) (r : Regs), Still { t with regs := r, pending := s.pending } (t.endWith r s)) ∧
  (∀ (t s : State) (r : Regs), t.aerDue = [] → t.endWith r s = { t with regs := r, pending := s.pending })

/-! ## Seed: reset, start-up, recovery (spec/16) -/

/-- RESET_N low for 10 µs resets every block: every register, table, queue and buffer is fresh. What stays is the media (the
image key store, the flash and the drives' contents), the level of PWRFAIL_N and the record of the last flush (Sap), the
sideband target, and the model's own clock, outputs and counter of free values. -/
def Obligations.ResetAssertResetsEveryBlock : Prop :=
  ∀ s : State, (s.seed.boot ≠ .reset ∨ s.sap.flush = some .sealed) →
    exec .resetAssert s = .next
      { now := s.now + 10000, fresh := s.fresh, out := s.out, ra := s.ra, readData := s.readData, pending := s.pending
        media := s.media, sideband := s.sideband
        drives := (s.drives.filter fun p => p.2.present).map fun p => (p.1, { present := true })
        sap := { pwrfailLow := s.sap.pwrfailLow, pwrfailHighAt := s.sap.pwrfailHighAt }
        sapw := { lastResult := s.sapw.lastResult, lastUs := s.sapw.lastUs } }

/-- The rise of RESET_N samples the straps and starts the Clocks phase, or enters recovery with cause 2 where REC_FORCE is 1;
the bypass switches are energised where RING_PT is 1. A restart by SEED_OP.RESTART, or by Sap after a flush, does the same to
a machine whose blocks have been reset. -/
def Obligations.ReleaseAndRestartsSampleStraps : Prop :=
  (∀ (s : State) (m : BitVec 4) (pt rec_ : Bool), s.seed.boot = .reset → s.sap.flush = none →
    exec (.resetRelease m pt rec_) s
      = .next (State.done { s.begin (strapWord m pt rec_) with
          mmac := { s.mmac with phyHold := s.now + 10000000 } } s)) ∧
  (∀ (s : State) (m : BitVec 4) (pt rec_ : Bool), s.alive = true →
    exec (.seedRestart m pt rec_) s = .next ((s.inner.begin (strapWord m pt rec_)).endWith {} s)) ∧
  (∀ (s : State) (m : BitVec 4) (pt rec_ : Bool), s.mayRestart = true →
    exec (.sapRestart m pt rec_) s
      = .next (((s.until (s.sap.pwrfailHighAt + s.fld 0x02000014 15 0 * 1000000)).inner.begin (strapWord m pt rec_)).endWith
          {} s)) ∧
  (∀ (s : State) (m : BitVec 4) (pt : Bool),
    s.begin (strapWord m pt false)
      = { s with
          seed := { s.seed with boot := .clocks, since := s.now, straps := strapWord m pt false }
          ring := if pt then { s.ring with byp := s.ring.byp.orElse fun _ => some s.now } else {}
          alertFixed := setNth s.alertFixed 1 false }) ∧
  (∀ (s : State) (m : BitVec 4) (pt : Bool),
    let t := s.begin (strapWord m pt true)
    t.seed.boot = .recovery ∧ t.seed.cause = 2 ∧ t.seed.straps = strapWord m pt true ∧ (t.src (evSrc 0 12)).pend = true)

/-- Table 16.3, the phases up to Base: the PLLs lock and the die links train; a self-test that passes on every die with every
Bough reachable ends in the Image phase, a failed Trunk or Root die holds the part in reset, any other failure puts it into
recovery with cause 3; a slot that checks starts the Base phase from it, and an empty key store or two bad slots end in
recovery with cause 4 or 1.
Table 16.3, the phases from Base on: DRAM that trains enables the blocks as far as the Rootlets, a failure is recovery with
cause 5; drives that have settled start the restore; its end enables the remaining blocks and executes the SEQ list; a WAIT
that has polled for 100 ms is skipped; the end of the list, one MPL after Xylem's enable, is seed.start_done. -/
def Obligations.StartUpPhases : Prop :=
  ((∀ s : State, s.seed.boot = .clocks →
    exec .pllLocked s = .next (State.done { s with
      seed := { s.seed with boot := .selftest, since := s.now }
      links := List.replicate 12 1#2, linkAt := List.replicate 12 s.now } s)) ∧
  (∀ (s : State) (pass : List Bool) (links : List (BitVec 2)), s.seed.boot = .selftest → pass.length = 6 →
    links.length = 12 → (pass.getD 0 false && pass.getD 5 false) = false →
    Runs (.selftestDone pass links) s fun t => t.seed = { s.seed with boot := .heldDead, since := s.now }
      ∧ t.alertFixed = setNth s.alertFixed 1 true ∧ t.links = links.map trainedLink) ∧
  (∀ (s : State) (pass : List Bool) (links : List (BitVec 2)), s.seed.boot = .selftest → pass = List.replicate 6 true →
    links.length = 12 → (∀ k < 4, ({ s with links := links.map trainedLink } : State).reaches k = true) →
    Runs (.selftestDone pass links) s fun t => t.seed = { s.seed with boot := .image, since := s.now }
      ∧ t.links = links.map trainedLink ∧ t.bistDone = 0x3F#6 ∧ t.bistPass = 0x3F#6) ∧
  (∀ (s : State) (pass : List Bool) (links : List (BitVec 2)), s.seed.boot = .selftest → pass.length = 6 →
    links.length = 12 → (pass.getD 0 false && pass.getD 5 false) = true → false ∈ pass →
    Runs (.selftestDone pass links) s fun t => t.seed.boot = .recovery ∧ t.seed.cause = 3) ∧
  (∀ s : State, s.seed.boot = .image → s.sap.pwrfailLow = false → s.media.imageKey = none →
    Runs .imageChecked s fun t => t.seed.boot = .recovery ∧ t.seed.cause = 4) ∧
  (∀ s : State, s.seed.boot = .image → s.sap.pwrfailLow = false → s.media.imageKey ≠ none →
    let u := s.until (s.sap.pwrfailHighAt + 1000000)
    let t := match s.dir with
      | none => u.recover 1
      | some (_, d) =>
        match s.slotImage d.next, s.slotImage (1 - d.next) with
        | some img, _ => u.startFrom d.next false img
        | none, some img => u.startFrom (1 - d.next) true img
        | none, none => u.recover 1
    exec .imageChecked s = .next (t.endWith t.regs s))) ∧
  ((∀ s : State, s.seed.boot = .base → s.popOk = true →
    exec (.dramTrained true) s = .next (s.trained.endWith s.trained.regs s)) ∧
  (∀ s : State, s.seed.boot = .base →
    Runs (.dramTrained false) s fun t => t.seed.boot = .recovery ∧ t.seed.cause = 5 ∧ t.regs = s.regs) ∧
  (∀ (s : State) (a b : List Nat), s.seed.boot = .drives → (s.allSettled = true ∨ s.seed.waited = true) →
    exec (.drivesSettled a b) s = .next ((s.restoreStart.restoreAll a b).endWith s.restoreStart.regs s)) ∧
  (∀ s : State, s.seed.boot = .drives → s.allSettled = false → s.seed.waited = false →
    let u := s.until (s.seed.since + s.fld 0x01000008 7 0 * 1000000000)
    exec .driveWaitExpiry s
      = .next ((State.raise0 0 9 { u with seed := { s.seed with waited := true } }).done s)) ∧
  (∀ s : State, s.seed.boot = .restore →
    let t := State.goSeq (State.enableBlocks enableServe
      { s with seed := { s.seed with boot := .serve, since := s.now, waitSince := s.now } })
    exec .restoreDone s = .next (t.endWith t.regs s)) ∧
  (∀ s : State, s.seed.boot = .serve → s.seed.seq ≠ [] →
    exec .waitRecordTimeout s = .next (s.skipWait.endWith s.skipWait.regs s)) ∧
  (∀ s : State, s.seed.boot = .serve → s.goSeq.seed.seq = [] →
    let u := s.goSeq
    let v := if u.on 0x10000000 then u.until (u.xylem.enabledAt + u.mpl) else u
    exec .startDone s = .next ((State.raise0 0 8
      { v with seed := { v.seed with boot := .running, since := v.now } }).endWith v.regs s)))

/-- The operations of the recovery interface: one that is not refused runs (BUSY), and its end does what Table 16.9 says to
the flash, the directory or the key store; one that is refused leaves RESULT 1 and nothing else; RESTART restarts at once. -/
def Obligations.RecoveryOperations : Prop :=
  (∀ s : State, s.inRecovery = true → s.seed.recBusy = none → 16 ≤ s.recPage →
    exec .recoveryErase s = .next (State.done { s with seed := { s.seed with
        recBusy := some (1, s.recSlot, s.recPage) } } s) ∧
    exec .recoveryProgram s = .next (State.done { s with seed := { s.seed with
        recBusy := some (2, s.recSlot, s.recPage) } } s)) ∧
  (∀ s : State, s.inRecovery = true → s.seed.recBusy = none →
    exec .recoveryCheck s = .next (State.done { s with seed := { s.seed with
        recBusy := some (3, s.recSlot, s.recPage) } } s)) ∧
  (∀ s : State, s.inRecovery = true → s.seed.recBusy = none → s.seed.checked.contains s.recSlot = true →
    exec .recoverySetNext s = .next (State.done { s with seed := { s.seed with
        recBusy := some (4, s.recSlot, s.recPage) } } s)) ∧
  (∀ s : State, s.inRecovery = true → s.seed.recBusy = none → s.media.imageKey = none →
    exec .recoveryProvision s = .next (State.done { s with seed := { s.seed with
        recBusy := some (5, s.recSlot, s.recPage) } } s)) ∧
  (∀ (s : State) (m : BitVec 4) (pt rec_ : Bool), s.inRecovery = true → s.seed.recBusy = none →
    exec (.recoveryRestart m pt rec_) s = .next ((s.restart (strapWord m pt rec_)).endWith {} s)) ∧
  (∀ s : State, s.alive = true → s.inRecovery = false →
    let t := State.done { s with seed := { s.seed with recResult := 1 } } s
    exec .recoveryErase s = .next t ∧ exec .recoveryProgram s = .next t ∧ exec .recoveryCheck s = .next t
      ∧ exec .recoverySetNext s = .next t ∧ exec .recoveryProvision s = .next t) ∧
  (∀ (s : State) (slot page : Nat), s.seed.recBusy = some (1, slot, page) →
    exec (.flashOpDone true) s = .next (State.done { s with
      media := { s.media with flash := putFlash s.media.flash (page * 4096 / 65536 * 65536) (List.replicate 65536 0xFF#8) }
      seed := { s.seed with recBusy := none, recResult := 0 } } s)) ∧
  (∀ (s : State) (slot page : Nat), s.seed.recBusy = some (2, slot, page) →
    Runs (.flashOpDone true) s fun t =>
      t.media = { s.media with flash := putFlash s.media.flash (page * 4096) (s.recBuffer.take 4096) }
        ∧ t.seed.recBusy = none ∧ t.seed.recResult = 0
        ∧ ∀ k, slotOfPage page = some k → t.seed.checked = without s.seed.checked k) ∧
  (∀ (s : State) (slot page : Nat), s.seed.recBusy = some (3, slot, page) →
    exec (.flashOpDone true) s = .next (State.done { s with
      seed := { s.seed with
        recBusy := none
        recResult := if (s.slotImage slot).isSome then 0 else 2
        checked := if (s.slotImage slot).isSome then insertAsc slot s.seed.checked else without s.seed.checked slot } } s)) ∧
  (∀ (s : State) (slot page : Nat), s.seed.recBusy = some (4, slot, page) →
    let u := s.writeDir slot (s.dir.elim 0 (·.2.saveCtr))
    exec (.flashOpDone true) s = .next (State.done { u with seed := { s.seed with recBusy := none, recResult := 0 } } s)) ∧
  (∀ (s : State) (slot page : Nat), s.seed.recBusy = some (5, slot, page) →
    exec (.flashOpDone true) s = .next (State.done { s with
      media := { s.media with imageKey := some (BitVec.ofNat 256 (beNat (s.recBuffer.take 32))) }
      seed := { s.seed with recBusy := none, recResult := 0 } } s)) ∧
  (∀ (s : State) (op slot page : Nat), s.seed.recBusy = some (op, slot, page) →
    Runs (.flashOpDone false) s fun t => t.seed.recBusy = none ∧ t.seed.recResult = 2 ∧ t.regs = s.regs)

/-! ## Die links (spec/01) and the Pith pairs (spec/13) -/

/-- A die link that is up retrains and raises dlink.retrain; it is back at full width, or at reduced width with dlink.degraded,
or down after 1 ms with dlink.down, whereupon a Bough without a route is fenced; what waited for it then goes on. Traffic between
Boughs takes the shorter way round L8 to L11, to the opposite Bough the rising one; round a down link of the ring it takes the
other way, and past a down Trunk link the next Bough's (R9, R12). -/
def Obligations.DieLinksRetrain : Prop :=
  (∀ (s : State) (l : Nat), l < 12 → (s.link l = 2#2 ∨ s.link l = 3#2) →
    exec (.dlinkRetrain l) s = .next ((State.raise0 3 l
      { s with links := setNth s.links l 1#2, linkAt := setNth s.linkAt l s.now }).done s)) ∧
  (∀ (s : State) (l : Nat), l < 12 → s.link l = 1#2 → s.seed.boot ≠ .selftest →
    exec (.dlinkRetrainDone l false) s = .next ((State.intake { s with links := setNth s.links l 2#2 }).done s) ∧
    exec (.dlinkRetrainDone l true) s
      = .next ((State.raise0 3 (16 + l) { s with links := setNth s.links l 3#2 }).intake.done s)) ∧
  (∀ (s : State) (l : Nat), l < 12 → s.link l = 1#2 → s.seed.boot ≠ .selftest →
    let u := s.until (nth s.linkAt l 0 + 1000000)
    exec (.dlinkDown l) s
      = .next ((State.fenceLost (State.raise0 3 (32 + l) { u with links := setNth s.links l 0#2 })).intake.done s)) ∧
  (∀ (s : State) (k : Nat), k < 4 → (∀ l < 12, s.link l ≠ 0#2) →
    s.boughRoute k ((k + 1) % 4) = some [8 + k] ∧ s.boughRoute k ((k + 2) % 4) = some [8 + k, 8 + (k + 1) % 4]
      ∧ s.boughRoute k ((k + 3) % 4) = some [8 + (k + 3) % 4] ∧ s.dieRoute 0 k = some [k] ∧ s.dieRoute 4 k = some [4 + k]) ∧
  (∀ (s : State) (k : Nat), k < 4 → (∀ l < 12, s.link l = 0#2 ↔ l = 8 + k) →
    s.boughRoute k ((k + 1) % 4) = some [8 + (k + 3) % 4, 8 + (k + 2) % 4, 8 + (k + 1) % 4]) ∧
  (∀ (s : State) (k : Nat), k < 4 → (∀ l < 12, s.link l = 0#2 ↔ l = k) → s.dieRoute 0 k = some [8 + k, (k + 1) % 4])

/-- A lockstep mismatch of the active pair and the watchdog's expiry fence it: the pair is fenced, LAST_CAUSE names the cause,
heartbeats carry STATE 0x0002, and the cold standby boots; without a standby that can boot there is no control pair.
The phases of a takeover: Wake, Boot and Restore follow each other; a phase that fails, or BOOT_MS, ends an unplanned
takeover without a control pair and a planned one with the old pair; at the end of Restore the new pair is the active one. The
old pair is then the cold standby after a planned takeover, passes its self-test or not after a rehearsal, and else stays as it
was (the re-arming within the rehearsal is the model's reading, log entry 74). -/
def Obligations.Takeovers : Prop :=
  ((∀ s : State, s.alive = true → s.pith.pair s.pith.activeB = .active →
    exec (.lockstepMismatch s.pith.activeB none) s
      = .next ((State.fence .mismatch (s.raise0 1 0)).done s)) ∧
  (∀ s : State, s.alive = true → s.pith.pair s.pith.activeB = .active →
    let u := s.until (s.pith.kickAt + s.fld 0x05000004 14 0 * 1000000)
    exec (.watchdogExpiry none) s = .next ((State.fence .watchdog (u.raise0 1 1)).done s)) ∧
  (∀ (s : State) (c : TakeCause), s.pith.pair s.pith.standby = .cold →
    let t := s.fence c
    t.pith = { s.pith.setPair s.pith.activeB .fenced with
        a := if s.pith.activeB then .booting else .fenced
        b := if s.pith.activeB then .fenced else .booting
        lastCause := c.code
        take := some { cause := c, planned := false, phase := s.pith.take.elim .wake (·.phase), from_ := s.now } }
      ∧ t.ring = { s.ring with forced := some 2#16 } ∧ t.regs = s.regs) ∧
  (∀ (s : State) (c : TakeCause), s.pith.pair s.pith.standby = .fenced →
    (s.fence c).pith.noControl = true ∧ (s.fence c).pith.take = none
      ∧ (s.fence c).ring.forced = some 5#16 ∧ (s.fence c).alertFixed = setNth s.alertFixed 2 true)) ∧
  ((∀ (s : State) (t : Takeover), s.alive = true → s.pith.take = some t → t.phase = .wake →
    exec (.standbyWakeDone true) s
      = .next (State.done { s with pith := { s.pith with take := some { t with phase := .boot } } } s) ∧
    exec (.standbyWakeDone false) s = .next (s.standbyFails.done s)) ∧
  (∀ (s : State) (t : Takeover), s.alive = true → s.pith.take = some t → t.phase = .boot →
    exec (.standbyBootDone true) s
      = .next (State.done { s with pith := { s.pith with take := some { t with phase := .restore } } } s) ∧
    exec (.standbyBootDone false) s = .next (s.standbyFails.done s)) ∧
  (∀ (s : State) (t : Takeover), s.alive = true → s.pith.take = some t →
    let u := s.until (t.from_ + s.fld 0x05000004 23 16 * 1000000)
    exec .takeoverTimeout s = .next ((if t.planned then u.fallBack else u.loseControl).done s)) ∧
  (∀ (s : State) (t : Takeover), s.alive = true → s.pith.take = some t → t.phase = .restore →
    (t.planned = false ∨ s.pithHeld = []) →
    exec .standbyRestoreDone s = .next ((s.resumeAll t).endWith (s.resumed t).regs s)) ∧
  (∀ (s : State) (t : Takeover), s.pith.take = some t → t.planned = true →
    s.resume.pith.activeB = !s.pith.activeB ∧ s.resume.pith.take = none
      ∧ s.resume.pith.pair (!s.pith.activeB) = .active ∧ s.resume.pith.pair s.pith.activeB = .cold
      ∧ s.resume.pith.takeovers = (s.pith.takeovers + 1) % 65536) ∧
  (∀ (s : State) (t : Takeover), s.pith.take = some t → t.planned = false → t.cause ≠ .rehearsal →
    s.resume.pith.activeB = !s.pith.activeB ∧ s.resume.pith.take = none
      ∧ s.resume.pith.pair (!s.pith.activeB) = .active ∧ s.resume.pith.pair s.pith.activeB = s.pith.pair s.pith.activeB) ∧
  (∀ (s : State) (t : Takeover), s.pith.take = some t → t.planned = false → t.cause = .rehearsal →
    s.resume.pith.activeB = !s.pith.activeB ∧ s.resume.pith.rehearse = 1 ∧ (s.resume.src (evSrc 1 9)).pend = true
      ∧ s.resume.pith.pair s.pith.activeB = if (s.draw 2).1 = 0 then .fenced else .cold))

/-- A rehearsal begins 1 ms after its frame was answered and is a takeover whose cause is 5. A fenced pair that passes its
self-test becomes the cold standby, one that fails stays fenced. A full checkpoint is taken every CKPT_MS. -/
def Obligations.RehearsalRearmAndCheckpoint : Prop :=
  (∀ (s : State) (t : Nat), s.alive = true → s.pairRuns = true → s.pith.rehearseAt = some t →
    exec .rehearsalBeginDelayExpiry s
      = .next ((State.fence .rehearsal (let u := s.until t
          { u with pith := { s.pith with rehearseAt := none } })).done s)) ∧
  (∀ s : State, s.alive = true → (s.pith.a = .fenced ∨ s.pith.b = .fenced) →
    Runs (.rearm true) s fun t => t.pith = { s.pith with
      a := if s.pith.a = .fenced then .cold else s.pith.a
      b := if s.pith.b = .fenced then .cold else s.pith.b }) ∧
  (∀ s : State, s.alive = true → (s.pith.a = .fenced ∨ s.pith.b = .fenced) →
    Runs (.rearm false) s fun t => t.pith = s.pith ∧ (t.src (evSrc 1 7)).pend = true) ∧
  (∀ s : State, s.alive = true → s.pairRuns = true →
    let u := s.until (s.pith.ckptAt + s.fld 0x05000004 31 24 * 1000000)
    exec .pithCheckpoint s = .next (State.done { u with pith := { s.pith with ckptAt := u.now } } s))

/-- The steps of a firmware activation, Bough by Bough: a Bough that is empty is loaded; one that is not after 30 ms takes
placements again and is tried a second later; a loaded Bough's engines rejoin and the next Bough's step begins; after B3 the
activation ends. -/
def Obligations.BoughSteps : Prop :=
  (∀ (s : State) (b : Nat), b < 4 → s.stepIn b 0 = true → s.boughEmpty b = true →
    exec (.boughVacated b) s = .next ((State.noteCredits (State.modBough b
      (fun t => { t with vacating := false, reloading := true }) ((s.passStripes b).stepPhase 1))).pump.done s)) ∧
  (∀ (s : State) (b : Nat), b < 4 → s.stepIn b 0 = true → s.boughEmpty b = false →
    let u := s.until ((s.pith.reload.elim 0 (·.since)) + 30000000)
    exec (.reloadAbort b) s = .next ((State.raise0 5 (4 + b)
      (State.modBough b (fun t => { t with vacating := false }) (u.stepPhase 2))).done s)) ∧
  (∀ (s : State) (b : Nat), b < 4 → s.stepIn b 2 = true →
    let u := s.until ((s.pith.reload.elim 0 (·.since)) + 1000000000)
    exec (.reloadRetry b) s = .next ((State.modBough b (fun t => { t with vacating := true }) (u.stepPhase 0)).noteCredits.done s)) ∧
  (∀ (s : State) (b tag since : Nat), b < 3 →
    s.pith.reload = some { tag := tag, bough := b, phase := 1, since := since } →
    exec (.microcodeLoaded b) s = .next ((State.startStep tag (b + 1)
      (State.noteCredits (s.modBough b fun t => { t with reloading := false })).pump).done s)) ∧
  (∀ (s : State) (tag since : Nat), s.pith.reload = some { tag := tag, bough := 3, phase := 1, since := since } →
    exec (.microcodeLoaded 3) s = .next (((s.ucodeMark 3).loaded 3).endWith (s.ucodeMark 3).regs s))

/-! ## Events, counters, time (spec/19, spec/10) -/

/-- Raising a source sets PEND, adds 1 to RAISES up to 255, records the Timebase time and the DETAIL, and touches no other
source (R391). -/
def Obligations.RaisingAnEvent : Prop :=
  ∀ (s : State) (n : Nat) (detail : W32),
    let t := s.raise n detail
    (t.src n).pend = true ∧ (t.src n).raises = min 255 ((s.src n).raises + 1) ∧ (t.src n).time = s.tb
      ∧ (t.src n).detail = detail ∧ (∀ m, m ≠ n → t.src m = s.src m) ∧ Still s t

/-- A block counter has 48 bits and wraps to 0; the other counters of the banks stay (R396). -/
def Obligations.BlockCountersWrap : Prop :=
  ∀ (s : State) (bank c k : Nat), c < 16 → ¬(bank = 2 ∧ c = 1) → ¬(bank = 118 ∧ (c = 3 ∨ c = 4)) →
    (s.count bank c k).counter bank c = (s.counter bank c + k) % 2 ^ 48
      ∧ ∀ b' c', c' < 16 → (b' ≠ bank ∨ c' ≠ c) → (s.count bank c k).counter b' c' = s.counter b' c'

/-- The Timebase as a fixed-point count of 2^-32 ns: each cycle of its clock adds 1 ns and TIME_ADDEND × 2^-32 ns, TIME_ADDEND
being clamped to ±4294967; while it does not run it stands (R248). -/
def Obligations.TimebaseAdvances : Prop :=
  (∀ (s : State) (d : Nat), s.tbOn = true → s.time.ns < 1000000000 → s.time.frac < 2 ^ 32 → s.time.sec < 2 ^ 48 →
    let t := (s.advance d).time
    ((t.sec * 1000000000 + t.ns : Nat) : Int) * 2 ^ 32 + t.frac
        = (((s.time.sec * 1000000000 + s.time.ns : Nat) : Int) * 2 ^ 32 + s.time.frac + d * (2 ^ 32 + s.addend))
          % (2 ^ 48 * 1000000000 * 2 ^ 32)
      ∧ t.ns < 1000000000 ∧ t.frac < 2 ^ 32 ∧ t.sec < 2 ^ 48) ∧
  (∀ (s : State) (d : Nat), s.tbOn = false → (s.advance d).time = s.time) ∧
  (∀ s : State, -4294967 ≤ s.addend ∧ s.addend ≤ 4294967)

/-! ## Registers (spec/18) -/

/-- A register write by any path, once it can pass the die links: one that is unaligned or outside the map does nothing; one that changes a class S field of
an enabled block changes nothing, records the violation and raises chip.class_violation; CHIP_SCRATCH takes the bits of the
mask, and every path reads them back. -/
def Obligations.RegisterFieldWrites : Prop :=
  (∀ (s : State) (path : Path) (a data mask : W32), s.pathOpen path = true → s.bridges path a.toNat = true → (a.toNat % 4 ≠ 0 ∨ inMap a.toNat = false) →
    exec (.registerFieldWrite path a data mask) s = .next (s.done s)) ∧
  (∀ (s : State) (path : Path) (a data mask : W32) (r : RegDef), s.pathOpen path = true → s.bridges path a.toNat = true → s.inRecovery = false →
    a.toNat % 4 = 0 → blockOf a.toNat < 26 → regAt a.toNat = some r → s.blockOn a.toNat = true →
    (s.rwWord a.toNat r false ^^^ s.written a.toNat r data mask) &&& r.s &&& ~~~(exempt a.toNat) ≠ 0#32 →
    exec (.registerFieldWrite path a data mask) s
      = .next ((State.raise0 0 0 { s with regs := s.regs.violate a.toNat path 1 }).endWith (s.regs.violate a.toNat path 1) s)) ∧
  (∀ (s : State) (path : Path) (data mask : W32), s.pathOpen path = true → s.bridges path 0x24 = true →
    let r := s.regs.put 0x24 ((s.reg 0x24 &&& ~~~mask) ||| (data &&& mask))
    exec (.registerFieldWrite path 0x24#32 data mask) s = .next (State.endWith { s with regs := r } r s)) ∧
  (∀ (s : State) (path other : Path) (data mask : W32), s.pathOpen path = true → s.bridges path 0x24 = true → s.Inv →
    Runs (.registerFieldWrite path 0x24#32 data mask) s fun t =>
      t.readVal other 0x24 = (s.reg 0x24 &&& ~~~mask) ||| (data &&& mask))

/-- A commit of an enabled block takes a snapshot of its group's shadow and waits: nothing in force changes. -/
def Obligations.CommitsTakeSnapshots : Prop :=
  Snapshots .xylemCommitTimer 0x10000FFC 0 ∧ Snapshots .xylemCommitRate 0x10000FFC 1 ∧
  Snapshots .budCommitFetch 0x09000FFC 0 ∧ Snapshots .knotCommitLimits 0x08000FFC 0 ∧
  (∀ e < 64, Snapshots (.twigCommitSteal e) (0x0A000FFC + 0x40000 * e) 0) ∧
  Snapshots .heartwoodCommitWb 0x07000FFC 0 ∧ Snapshots .cambiumCommitWater 0x06000FFC 0 ∧
  Snapshots .groveCommitLag 0x0B000FFC 0 ∧ Snapshots .groveCommitAssy 0x0B000FFC 1 ∧
  Snapshots .sapwoodCommitWater 0x0D000FFC 0 ∧ Snapshots .prunerCommitThresh 0x0C000FFC 0 ∧
  Snapshots .coppiceCommitLimits 0x0E000FFC 0 ∧ Snapshots .crownCommitBuf 0x13000FFC 0 ∧
  Snapshots .crownCommitEcn 0x13000FFC 1 ∧ Snapshots .canopyCommitSch 0x12000FFC 0 ∧
  Snapshots .canopyCommitPolice 0x12000FFC 1 ∧
  (∀ d < 24, Snapshots (.rootletCommitIo d) (0x0F000FFC + 0x80000 * d) 0) ∧
  Snapshots .sapCommitPolicy 0x02000FFC 0 ∧ Snapshots .sapCommitSafety 0x02000FFC 1 ∧
  Snapshots .tallyCommitFilter 0x04000FFC 0 ∧ Snapshots .tallyCommitSample 0x04000FFC 1

/-- A gate list's commit is checked at once (R254): one that passes waits for its first cycle start, and at that start it is
in force and fmac.gate_commit is raised; one that fails leaves what is in force and raises fmac.gate_invalid and the
violation record. -/
def Obligations.GateCommits : Prop :=
  (∀ (s : State) (port sub : Nat), s.Inv → s.alive = true → port < 10 → (if port < 8 then sub < 4 else sub = 0) →
    let p := pointOf port sub
    let a := portBase (pointOf port 0) + 0xFFC
    let vals := s.regs.snapshot a sub
    let l := gateListOf (s.regs.merge vals) p
    let r := { s.regs with snaps := NMap.set s.regs.snaps (a * 8 + sub) { path := .pith, vals := vals } }
    s.bridges .pith a = true → s.blockOn a = true → s.groupOk a sub (s.regs.merge vals) = true →
    exec (.fmacCommitGate port sub) s = .next (State.endWith (State.setPort { s with regs := r } p
      { s.port p with next := some (l, l.elim s.tbNs fun g => g.firstStart s.tbNs) }) r s)) ∧
  (∀ (s : State) (port sub : Nat), s.Inv → s.alive = true → port < 10 → (if port < 8 then sub < 4 else sub = 0) →
    let p := pointOf port sub
    let a := portBase (pointOf port 0) + 0xFFC
    s.bridges .pith a = true → s.blockOn a = true →
    s.groupOk a sub (s.regs.merge (s.regs.snapshot a sub)) = false →
    Runs (.fmacCommitGate port sub) s fun t =>
      t.regs.val = s.regs.val ∧ t.regs.shadow = s.regs.shadow ∧ t.ports = s.ports ∧ t.regs.violAddr = w32 a
        ∧ t.regs.violKind = 2 ∧ (t.src (evSrc (12 + port) (16 + sub))).pend = true) ∧
  (∀ (s : State) (p : Nat) (l : Option GateList) (at_ : Nat), p < 34 → (s.port p).next = some (l, at_) →
    (s.tbOn = true ∨ at_ ≤ s.tbNs) →
    let c := gateCommit p
    let u := s.untilTb at_
    let r := { s.regs with snaps := NMap.erase s.regs.snaps (c.1 * 8 + c.2) }
    let r := match NMap.get? s.regs.snaps (c.1 * 8 + c.2) with
      | some x => r.applyVals x.vals
      | none => r
    exec (.gateListSwap p) s = .next ((State.raise0 (portGroup p) (20 + portSub p)
      (u.setPort p { u.port p with gate := l, gateAt := u.now, next := none })).endWith r s))

/-- At its safe boundary a snapshot that keeps its block's rule is in force whole, and no other register changes; one that
breaks it leaves every register in force and in the shadow as it was, is recorded, and raises the block's event. -/
def Obligations.CommitBoundary : Prop :=
  (∀ (s : State) (a b : Nat) (x : Snap), NMap.get? s.regs.snaps (a * 8 + b) = some x → isGate a b = false → s.Inv →
    s.groupOk a b (s.regs.merge x.vals) = true →
    Runs (.commitApply a b) s fun t =>
      (∀ h ∈ NMap.keys x.vals, t.reg h = s.regs.merge x.vals h) ∧ (∀ h, h ∉ NMap.keys x.vals → t.reg h = s.reg h)
        ∧ t.regs.shadow = s.regs.shadow ∧ t.regs.violCount = s.regs.violCount) ∧
  (∀ (s : State) (a b : Nat) (x : Snap), NMap.get? s.regs.snaps (a * 8 + b) = some x → isGate a b = false →
    s.groupOk a b (s.regs.merge x.vals) = false →
    let r := { s.regs with
      snaps := NMap.erase s.regs.snaps (a * 8 + b), violAddr := w32 a, violPath := pathNo x.path, violKind := 2
      violCount := (s.regs.violCount + 1) % 65536 }
    let e := (rejectEvent a b).getD (0, 0)
    exec (.commitApply a b) s = .next ((State.raise0 e.1 e.2 { s with regs := r }).endWith r s)) ∧
  (∀ (r : Regs) (h a b : Nat), h ∈ groupRegs a b → r.merge (r.snapshot a b) h
      = (r.get h &&& ~~~(cBits h)) ||| (r.getShadow h &&& cBits h))

/-- CLASS of a port takes a value that Table 10.3 allows the port; a write of any other is ignored, recorded as refused, and raises
fmac.class_invalid or mmac.class_invalid. -/
def Obligations.PortClassWrites : Prop :=
  (∀ (s : State) (p : Nat) (c : BitVec 2), s.alive = true → s.Inv → p < 34 → s.bridges .pith (subBase p) = true → classOk p c.toNat = true →
    Runs (.portClassWrite p c) s fun t => bits (t.reg (subBase p)) 31 30 = c.toNat
      ∧ bits (t.reg (subBase p)) 29 0 = bits (s.reg (subBase p)) 29 0) ∧
  (∀ (s : State) (c : BitVec 2), s.alive = true → s.Inv → s.bridges .pith 0x16000000 = true → classOk 34 c.toNat = true →
    Runs (.portClassWrite 34 c) s fun t => bits (t.reg 0x16000000) 9 8 = c.toNat) ∧
  (∀ (s : State) (p : Nat) (c : BitVec 2), s.alive = true → s.Inv → p < 34 → s.bridges .pith (subBase p) = true → classOk p c.toNat = false →
    Runs (.portClassWrite p c) s fun t =>
      t.regs.val = s.regs.val ∧ t.regs.shadow = s.regs.shadow ∧ t.ports = s.ports ∧ t.regs.violKind = 3 ∧ (t.src (evSrc (portGroup p) (12 + portSub p))).pend = true) ∧
  (∀ (s : State) (c : BitVec 2), s.alive = true → s.Inv → s.bridges .pith 0x16000000 = true → classOk 34 c.toNat = false →
    Runs (.portClassWrite 34 c) s fun t =>
      t.regs.val = s.regs.val ∧ t.regs.shadow = s.regs.shadow ∧ t.ports = s.ports ∧ t.regs.violKind = 3 ∧ (t.src (evSrc 7 25)).pend = true)

/-- PITH_WDOG.KICK restarts the watchdog; PITH_OP.TAKEOVER begins a planned takeover to a cold standby, and without one is over
at once with pith.takeover_failed; PITH_OP.REHEARSE begins a rehearsal 1 ms later, or is refused. None of them changes a
register. -/
def Obligations.PithRegisterWrites : Prop :=
  (∀ s : State, s.alive = true → s.Inv → s.pithServes = true → s.bridges .pith 0x05000008 = true →
    exec .watchdogKick s = .next (State.done { s with pith := { s.pith with kickAt := s.now } } s)) ∧
  (∀ s : State, s.alive = true → s.Inv → s.bridges .pith 0x0500000C = true → s.canPlan = true → s.pith.pair s.pith.standby = .cold →
    exec .takeover s = .next ((State.raise0 1 2 { s with pith :=
      { s.pith.setPair s.pith.standby .booting with
        lastCause := 3, take := some { cause := .operator, planned := true, phase := .wake, from_ := s.now } } }).done s)) ∧
  (∀ s : State, s.alive = true → s.Inv → s.bridges .pith 0x0500000C = true → s.canPlan = true → s.pith.pair s.pith.standby ≠ .cold →
    exec .takeover s = .next (s.fallBack.done s)) ∧
  (∀ (s : State) (path : Path), s.alive = true → s.Inv → s.bridges path 0x0500000C = true → s.inRecovery = false → s.rehearseRefused path = false →
    exec (.rehearse path) s = .next (State.done { s with pith := { s.pith with rehearseAt := some (s.now + 1000000) } } s)) ∧
  (∀ (s : State) (path : Path), s.alive = true → s.Inv → s.bridges path 0x0500000C = true → s.inRecovery = false → s.rehearseRefused path = true →
    Runs (.rehearse path) s fun t => t.pith = { s.pith with rehearse := 2 } ∧ t.regs.val = s.regs.val
      ∧ t.regs.violKind = 3 ∧ (t.src (evSrc 1 8)).pend = true)

/-- A pin is written for the resource that SAP_RES_SEL selects, and freezes the policy loop there; ROOTLET_CTRL's ENABLE and
POWER_OFF are written and the drive leaves or enters service; POWER_OFF of a working member is refused (R317); JOIN is
written. -/
def Obligations.PinDriveAndJoinWrites : Prop :=
  (∀ (s : State) (r : Res) (en : Bool) (sp : BitVec 2), s.alive = true → s.bridges .pith 0x02000024 = true → s.selRes = some r →
    let q := s.regs.put (resCfg r) ((s.reg (resCfg r) &&& ~~~0x80000003#32) ||| w32 (b2n en * 2 ^ 31 + sp.toNat))
    exec (.resourcePin en sp) s = .next ((State.notePin { s with regs := q } r (s.flag (resCfg r) 31)).endWith q s)) ∧
  (∀ (s : State) (d : Nat), s.alive = true → d < 24 → s.bridges .pith (rootBase d) = true → s.rootOn d = false →
    let q := s.regs.put (rootBase d) (s.reg (rootBase d) ||| 1#32)
    exec (.rootletEnable d) s = .next (((State.enableRoot d { s with regs := q }).adminDrives).endWith q s)) ∧
  (∀ (s : State) (d : Nat), s.alive = true → d < 24 → s.bridges .pith (rootBase d) = true → s.rootOn d = true →
    let q := s.regs.put (rootBase d) (s.reg (rootBase d) &&& ~~~1#32)
    exec (.rootletDisable d) s = .next (((State.disableRoot d { s with regs := q }).adminDrives).endWith q s)) ∧
  (∀ (s : State) (d : Nat) (on : Bool), s.alive = true → d < 24 → s.bridges .pith (rootBase d) = true → s.powerOff d = !on →
    (on = true → s.memberOf d = none) →
    let q := s.regs.put (rootBase d) (if on then s.reg (rootBase d) ||| 4#32 else s.reg (rootBase d) &&& ~~~4#32)
    exec (.drivePowerOff d on) s = .next (((State.setPowerOff d on { s with regs := q }).adminDrives).endWith q s)) ∧
  (∀ (s : State) (d : Nat), s.alive = true → d < 24 → s.bridges .pith (rootBase d) = true → s.powerOff d = false → s.memberOf d ≠ none →
    Runs (.drivePowerOff d true) s fun t => t.regs.val = s.regs.val ∧ t.regs.violKind = 3 ∧ t.drives = s.drives
      ∧ (t.src (evSrc (24 + d) 5)).pend = true) ∧
  (∀ (s : State) (e w : Bool), s.alive = true → s.Inv → s.bridges .pith 0x1520000C = true → s.stationId ≠ 0 → s.stationId ≠ 0xFFFF →
    Runs (.ringJoinWrite e w) s fun t => t.joinBit 32 = e ∧ t.joinBit 33 = w)

/-- Writing ones to the PEND bits of a group clears those sources and their counts of raises, and no other source; CLEAR of an
engine counter sets it to 0 and leaves its overflow flag.
Reads with an effect: a port's indications read and cleared; the oldest transmit timestamp taken; a ring word read and
the offset moved on by 4; the partners of a _LO register latched as they then stand. -/
def Obligations.ClearsAndReadsWithAnEffect : Prop :=
  ((∀ (s : State) (g : Nat) (ones : W64), s.alive = true → s.Inv → g < 64 → s.bridges .pith (0x03001000 + 16 * g) = true → s.aerDue = [] →
    Runs (.eventPendClear g ones) s fun t => t.regs = s.regs ∧
      ∀ n, t.src n = if n / 64 = g ∧ ones.getLsbD (n % 64) = true
        then { s.src n with pend := false, raises := 0, told := false } else s.src n) ∧
  (∀ (s : State) (n : Nat), s.alive = true → s.Inv → n < 6 → s.bridges .pith (0x04000210 + 16 * n) = true →
    exec (.engineCounterClear n) s = .next (State.done { s with tally := { s.tally with
      eng := NMap.erase s.tally.eng (s.engSel * 8 + n)
      engFrom := NMap.set s.tally.engFrom (s.engSel * 8 + n) (s.cycles8 s.engSel) } } s))) ∧
  ((∀ (s : State) (p : Nat), s.alive = true → p < 34 → s.bridges .pith (subBase p + 0x20) = true →
    exec (.indicationRead p) s = .next (State.done { s with
      ports := NMap.set s.ports p { s.port p with ind := [] }, readData := s.readVal .pith (subBase p + 0x20) } s)) ∧
  (∀ s : State, s.alive = true → s.bridges .pith 0x16000120 = true →
    exec (.indicationRead 34) s = .next (State.done { s with
      mmac := { s.mmac with ind := [] }, readData := s.readVal .pith 0x16000120 } s)) ∧
  (∀ s : State, s.alive = true → s.bridges .pith 0x17000040 = true →
    exec .txtsRead s = .next (State.done { s with
      time := { s.time with taken := s.time.txts.head?, txts := s.time.txts.tail }
      readData := s.readVal .pith 0x17000040 } s)) ∧
  (∀ s : State, s.alive = true → s.Inv → s.bridges .pith 0x04000024 = true →
    Runs .ringDataRead s fun t => t.readData = s.ringWord
      ∧ t.reg 0x04000020 = w32 (place (b2n (s.flag 0x04000020 31)) 31 1 + (s.fld 0x04000020 29 0 + 4) % 2 ^ 30)) ∧
  (∀ (s : State) (a : Nat), s.alive = true → s.bridges .pith a = true → s.partners a ≠ [] →
    Runs (.latchedPairRead a) s fun t => t.readData = s.readVal .pith a
      ∧ (∀ p ∈ s.partners a, NMap.get? t.regs.latch p.1 = some p.2) ∧ t.regs.shadow = s.regs.shadow))

/-- A Register Access request of one operation to MGMT's address is executed and answered to its sender with its tag and
version; a malformed one is counted, raises chip.ra_malformed and is not answered. -/
def Obligations.RegisterAccessIsAnswered : Prop :=
  (∀ (s : State) (dst src own : BitVec 48) (vlan : Option (BitVec 16)) (p : List Byte), s.alive = true →
    s.raPasses p = true → s.portOn 34 = true → s.portClass 34 = 2 → s.raAddr dst = some own → raMalformed p = true →
    exec (.registerAccessFrame dst src vlan p) s = .next (((s.raise0 0 1).count 0 0 1).done s)) ∧
  (∀ (s : State) (dst src own : BitVec 48) (vlan : Option (BitVec 16)) (p : List Byte), s.alive = true →
    s.raPasses p = true → s.portOn 34 = true → s.portClass 34 = 2 → s.raAddr dst = some own → raMalformed p = false → be p 1 1 = 1 →
    let x := s.raOp (be p 8 1) (be p 12 4) (w32 (be p 16 4)) (w32 (be p 20 4))
    let answer := [0x12#8] ++ slice p 1 3 ++ slice p 4 1 ++ beBytes 3 0
      ++ (slice p 8 1 ++ beBytes 1 x.2.1 ++ beBytes 2 0 ++ slice p 12 4 ++ beBytes 4 x.2.2.toNat ++ slice p 20 4)
    exec (.registerAccessFrame dst src vlan p) s = .next (State.endWith
      { x.1 with ra := { dstMac := src, srcMac := own, vlan := vlan, payload := answer } :: x.1.ra } x.1.regs s))

/-! ## Sap (spec/15) -/

/-- A resource whose idle time is over enters the deeper state; engines that enter SP2 park engines 8 to 15 of every Bough. A
resource that leaves its state goes to where its work and its bound lead, and its exit lasts the latency of the state
it leaves; the end of the exit lets it run, and unparks the Boughs that were to be unparked.
A droop detector slows its die to the floor of SAP_DROOP until 256 undivided cycles pass without a trip, and raises
sap.droop at most once per ms. The thermal loop slows a hot die by an eighth, and steps by an eighth every ms; a sensor
above CRIT_C stops the device: ALERT_N[0], sap.thermal_critical and the power-fail response, for good. -/
def Obligations.PowerStatesDroopAndHeat : Prop :=
  ((∀ (s : State) (r : Res) (sp : Nat), s.sapRuns = true → r.ok = true → sp < 4 → s.mayDeepen r sp = true →
    Runs (.sapIdleExpiry r sp) s fun t => (t.res r).sp = sp ∧ t.now = max s.now ((s.res r).idle + s.idleNs sp)
      ∧ t.regs = s.regs
      ∧ (r = .engines → sp = 2 → (s.res r).sp < 2 → ∀ e < 64, e % 16 ≥ 8 → (t.twig e).parked = true)) ∧
  (∀ (s : State) (r : Res), s.sapRuns = true → r.ok = true → s.mayExit r = true → s.exitTo r < (s.res r).sp →
    Runs (.sapStateExit r) s fun t => (t.res r).sp = s.exitTo r
      ∧ (t.res r).exiting = (if s.exitUs r (s.res r).sp = 0 then none else some (s.now + s.exitUs r (s.res r).sp * 1000))) ∧
  (∀ s : State, s.sapRuns = true → s.mayExit .engines = true → s.exitTo .engines = (s.res .engines).sp →
    exec (.sapStateExit .engines) s = .next ((State.setRes .engines { s.res .engines with exiting := some (s.now + 50000) }
      { s with sap := { s.sap with unparking := s.unparkDue } }).done s)) ∧
  (∀ (s : State) (p t : Nat), s.sapRuns = true → p < 10 → (s.res (.port p)).exiting = some t →
    let u := s.until t
    exec (.powerStateExitDone (.port p)) s
      = .next ((State.setRes (.port p) { s.res (.port p) with exiting := none, idle := u.now } u).done s)) ∧
  (∀ (s : State) (d t : Nat), s.sapRuns = true → d < 24 → (s.res (.drive d)).exiting = some t →
    let u := s.until t
    exec (.powerStateExitDone (.drive d)) s = .next ((State.kickDrive d
      (State.setRes (.drive d) { s.res (.drive d) with exiting := none, idle := u.now } u)).done s)) ∧
  (∀ (s : State) (t : Nat), s.sapRuns = true → (s.res .engines).exiting = some t →
    Runs (.powerStateExitDone .engines) s fun u => (u.res .engines).exiting = none ∧ u.sap.unparking = []
      ∧ ∀ b ∈ s.sap.unparking, ∀ e ∈ boughEngines b, (u.twig e).parked = false)) ∧
  ((∀ (s : State) (die : Nat), s.alive = true → die < 6 →
    let due := match nth s.sap.droopAt die none with
      | none => true
      | some t => decide (t + 1000000 ≤ s.now)
    Runs (.droopTrip die) s fun t =>
      t.sap = { s.sap with
        slowed := setNth s.sap.slowed die true, tripAt := setNth s.sap.tripAt die s.now
        droopAt := if due then setNth s.sap.droopAt die (some s.now) else s.sap.droopAt }
      ∧ (due = true → (t.src (evSrc 2 die)).pend = true)) ∧
  (∀ (s : State) (die : Nat), s.alive = true → die < 6 → nth s.sap.slowed die false = true →
    let u := s.until (nth s.sap.tripAt die 0 + ceilDiv 2560 (dieClock die))
    exec (.droopRelease die) s
      = .next (State.done { u with sap := { u.sap with slowed := setNth s.sap.slowed die false } } s)) ∧
  (∀ (s : State) (temps : List (List Nat)), s.alive = true → temps.length = 6 → s.sap.therm.length = 6 →
    (∀ l ∈ temps, ∀ x ∈ l, x ≤ s.critC) →
    Runs (.thermalSample temps) s fun t =>
      t.sap.temp = (List.range 6).map (fun i => (nth temps i []).foldl max 0) ∧ t.sap.flush = s.sap.flush
        ∧ t.sap.dead = s.sap.dead
        ∧ ∀ i < 6, nth t.sap.therm i 8 = (if (nth temps i []).foldl max 0 > s.throttleC ∧ nth s.sap.therm i 8 = 8 then 7
            else nth s.sap.therm i 8)) ∧
  (∀ (s : State) (temps : List (List Nat)), s.alive = true → temps.length = 6 → (∃ l ∈ temps, ∃ x ∈ l, x > s.critC) →
    Runs (.thermalSample temps) s fun t => t.sap.dead = true ∧ t.sap.stuck = true ∧ t.sap.flush.isSome = true
      ∧ t.alertFixed = setNth s.alertFixed 0 true ∧ (t.src (evSrc 2 16)).pend = true) ∧
  (∀ (s : State) (die : Nat), s.alive = true → die < 6 → s.sap.therm.length = 6 → s.thermDue die = true →
    Runs (.throttleStep die) s fun t => t.now = max s.now (nth s.sap.thermAt die 0 + 1000000)
      ∧ nth t.sap.therm die 8 = (if nth s.sap.temp die 0 > s.throttleC then nth s.sap.therm die 8 - 1
          else nth s.sap.therm die 8 + 1)))

/-! ## Power fail (spec/15, spec/06) -/

/-- PWRFAIL_N low for 1 µs, a rail below its limit for 20 µs, and the loss of the DDR or system reference start the power-fail
response: every resource goes to SP0, the Stop phase begins, and sap.powerfail and sapwood.flush_start are raised. The loss
of an Ethernet reference takes its sub-ports down. PWRFAIL_N high again is only noted. -/
def Obligations.PowerFailStarts : Prop :=
  (∀ s : State, s.sap.pwrfailLow = false → s.flushable = true → s.sap.flush = none →
    Runs .pwrfailAssert s fun t => t.sap.flush = some .stop ∧ t.sap.pwrfailLow = true ∧ t.now = s.now + 1000
      ∧ t.sapw.flushFrom = some (s.now + 1000) ∧ (∀ r ∈ allRes, (t.res r).sp = 0)
      ∧ (t.src (evSrc 2 17)).pend = true ∧ (t.src (evSrc 7 2)).pend = true) ∧
  (∀ s : State, s.sap.pwrfailLow = false → s.flushable = false →
    exec .pwrfailAssert s
      = .next (State.done (State.advance 1000 { s with sap := { s.sap with pwrfailLow := true } }) s)) ∧
  (∀ s : State, s.sap.pwrfailLow = true →
    exec .pwrfailDeassert s
      = .next (State.done { s with sap := { s.sap with pwrfailLow := false, pwrfailHighAt := s.now } } s)) ∧
  (∀ s : State, s.flushable = true → s.sap.flush = none →
    Runs .railUndervoltage s fun t => t.sap.flush = some .stop ∧ t.now = s.now + 20000
      ∧ t.sapw.flushFrom = some (s.now + 20000) ∧ (∀ r ∈ allRes, (t.res r).sp = 0)) ∧
  (∀ (s : State) (r : RefIn), s.alive = true → r.ok = true → nth s.sap.refLost (refNo r) false = false →
    Runs (.referenceLoss r) s fun t => t.sap.refLost = setNth s.sap.refLost (refNo r) true
      ∧ (t.src (evSrc 2 (20 + refNo r))).pend = true
      ∧ (r = .ddr ∨ r = .sys → t.sap.stuck = true ∧ t.sap.flush.isSome = true)
      ∧ (r = .eth1 → ∀ p ∈ refPoints false, (t.port p).up = false)
      ∧ (r = .eth2 → ∀ p ∈ refPoints true, (t.port p).up = false))

/-- The phases of the flush: Stop sheds Ethernet where SAP_PF asks and goes on to Vault with two vault drives or more; the last
vault unit begins Seal, whose sealed header goes to every vault drive with FUA, and a Flush beside it; the end of the seal puts
the protected region into the vault, records the flush and holds every block but Sap in reset. The vault drives are those of
the start of the flush. Without a grove the end of Stop is the end. With fewer than two vault drives nothing is sealed. -/
def Obligations.FlushPhases : Prop :=
  (∀ s : State, s.sap.flush = some .stop → s.groves ≠ [] → 2 ≤ s.sapw.vaultSet.length →
    Runs .flushStopDone s fun t => t.sap.flush = some .vault ∧ t.regs = s.regs ∧ t.media = s.media
      ∧ t.sap.shed = (s.sap.shed || s.flag 0x02000014 16)
      ∧ (s.flag 0x02000014 16 = true → ∀ p < 34, (t.port p).up = false)) ∧
  (∀ s : State, s.sap.flush = some .stop → s.groves ≠ [] → s.sapw.vaultSet.length < 2 →
    exec .flushStopDone s = .next (s.shedEth.done s)) ∧
  (∀ s : State, s.sap.flush = some .stop → s.groves = [] →
    Runs .flushStopDone s fun t => t.sap.flush = some .sealed ∧ t.media.vault = none ∧ t.regs = s.regs.sapOnly ∧ t.bud = {} ∧ t.sapw.lastResult = 1) ∧
  (∀ s : State, s.sap.flush = some .vault → s.vaultOut = false →
    Runs .vaultWriteDone s fun t => t.sap = { s.sap with flush := some .seal } ∧ t.regs = s.regs ∧ t.media = s.media
      ∧ ∀ d ∈ s.sapw.vaultSet, ∃ c ∈ (t.drive d).all, ∃ e ∈ (t.drive d).all, e.purpose = .driveFlush
          ∧ c.purpose = .vaultHdr (s.runHeader s.sapw.vaultSet (s.sapw.gen + 1) true) ∧ c.fua = true ∧ c.lba = 2) ∧
  (∀ s : State, s.sap.flush = some .seal → s.vaultOut = false →
    Runs .flushSealDone s fun t =>
      t.media = { s.media with vault := some s.vaultImage }
        ∧ t.sap = { s.sap with flush := some .sealed, res := [] } ∧ t.regs = s.regs.sapOnly
        ∧ t.sapw.lastResult = 1 ∧ t.sapw.lastUs = min (2 ^ 24 - 1) s.flushUs
        ∧ t.bud = {} ∧ t.xylem = {} ∧ t.heart = {} ∧ t.camb = {} ∧ t.groves = [] ∧ t.crown = {} ∧ t.pith = {})

/-! ## Tally, DRAM and the sideband target (spec/19, spec/18, spec/20) -/

/-- At the end of a source's gap the raises counted meanwhile become one entry of the session's Host Event Log and a new gap
begins; with none counted the gap is over.
A sweep writes its record at the head of the sweep ring and moves the head on; with the ring full it is skipped and counted
(FULL_MODE 1) or overwrites the oldest record, whose place TAIL then leaves, and tally.ring_full is raised at most once per
second. A counter of cycles that reaches 2^48 becomes 0 and sets its overflow flag where none is chained to it. -/
def Obligations.HostEventsAndSweeps : Prop :=
  ((∀ (s : State) (sid n last t : Nat) (d : W32) (log : HostLog), s.hostOk = true → NMap.get? s.bud.hostLog sid = some log →
    NMap.get? log.gaps n = some (last, 0, t, d) →
    let u := s.until (last + s.fld 0x0300001C 15 0 * 1000000)
    exec (.hostEventGapExpiry sid n) s = .next (State.done { u with
      bud := { s.bud with hostLog := NMap.set s.bud.hostLog sid { log with gaps := NMap.erase log.gaps n } } } s)) ∧
  (∀ (s : State) (sid n last k t : Nat) (d : W32) (log : HostLog), s.hostOk = true → NMap.get? s.bud.hostLog sid = some log →
    NMap.get? log.gaps n = some (last, k + 1, t, d) →
    let u := s.until (last + s.fld 0x0300001C 15 0 * 1000000)
    let e := log.entries ++ [{ time := t, source := n, count := min 255 (k + 1), scope := scopeOf n, detail := d,
                               page := pageOf n }]
    let log2 : HostLog := { entries := if e.length > 256 then e.tail else e, total := log.total + 1
                            gaps := NMap.set log.gaps n (u.now, 0, 0, 0#32) }
    exec (.hostEventGapExpiry sid n) s = .next ((State.tryAer sid { u with
      bud := { s.bud with hostLog := NMap.set s.bud.hostLog sid log2 } }).done s))) ∧
  ((∀ s : State, s.alive = true → s.on 0x04000000 = true → s.sap.flush = none → s.ringFull = false →
    let u := s.until (s.tally.sweepAt + max 1 (s.fld 0x04000004 19 0) * 1000)
    exec .tallySweep s = .next (State.done { u with tally := { u.tally with
      sweeps := s.tally.sweeps + 1, sweepAt := u.now
      sweep := putWords s.tally.sweep (s.tally.sweepHead * s.sweepBytes) (leWords (s.sweepBytes / 4) u.sweepRecord)
      sweepHead := (s.tally.sweepHead + 1) % s.sweepRecs } } s)) ∧
  (∀ s : State, s.alive = true → s.on 0x04000000 = true → s.sap.flush = none → s.ringFull = true →
    (s.flag 0x04000008 31 = true ∨ s.sweepRecs = 0) →
    let u := s.until (s.tally.sweepAt + max 1 (s.fld 0x04000004 19 0) * 1000)
    exec .tallySweep s = .next ((State.noteFull { u with tally := { u.tally with
      sweeps := s.tally.sweeps + 1, sweepAt := u.now, skipped := (s.tally.skipped + 1) % 65536 } }).done s)) ∧
  (∀ s : State, s.alive = true → s.on 0x04000000 = true → s.sap.flush = none → s.ringFull = true →
    s.flag 0x04000008 31 = false → s.sweepRecs ≠ 0 →
    let u := s.until (s.tally.sweepAt + max 1 (s.fld 0x04000004 19 0) * 1000)
    exec .tallySweep s = .next ((State.noteFull { u with tally := { u.tally with
      sweeps := s.tally.sweeps + 1, sweepAt := u.now
      sweep := putWords s.tally.sweep (s.tally.sweepHead * s.sweepBytes) (leWords (s.sweepBytes / 4) u.sweepRecord)
      sweepHead := (s.tally.sweepHead + 1) % s.sweepRecs } }).endWith
        (s.regs.put 0x04000014 (w32 ((s.fld 0x04000014 23 0 + 1) % s.sweepRecs))) s)) ∧
  (∀ s : State, s.noteFull = s ∨ (s.noteFull = State.raise0 0 16 { s with tally := { s.tally with fullAt := some s.now } }
    ∧ ∀ t, s.tally.fullAt = some t → t + 1000000000 ≤ s.now)) ∧
  (∀ (s : State) (e n : Nat), s.alive = true → e < 64 → n < 6 → s.cycleCounter e n = true →
    (n = 5 ∨ s.flag (engCfg e n) 30 = false) →
    exec (.engineCounterWrap e n) s = .next ((State.raise (evSrc 0 18) (w32 (e + n * 256)) { s with tally := { s.tally with
      eng := NMap.set s.tally.eng (e * 8 + n) 0, engFrom := NMap.set s.tally.engFrom (e * 8 + n) (s.cycles8 e)
      ovf := insertAsc (e * 8 + n) s.tally.ovf } }).done s)) ∧
  (∀ (s : State) (e n : Nat), s.alive = true → e < 64 → n < 5 → s.cycleCounter e n = true →
    s.flag (engCfg e n) 30 = true → s.flag (engCfg e (n + 1)) 31 = true →
    NMap.getD s.tally.eng (e * 8 + n + 1) 0 + 1 < 2 ^ 48 →
    exec (.engineCounterWrap e n) s = .next (State.done { s with tally := { s.tally with
      eng := NMap.set (NMap.set s.tally.eng (e * 8 + n) 0) (e * 8 + n + 1)
        (NMap.getD s.tally.eng (e * 8 + n + 1) 0 + 1)
      engFrom := NMap.set s.tally.engFrom (e * 8 + n) (s.cycles8 e) } } s)))

/-- A DRAM error is located, counted and reported: a correctable one touches no data, an uncorrectable one poisons what its
reader was reading. A scrub pass ends SCRUB_H hours after it began, and the next begins.
The sideband target: a read returns the byte at the offset and moves the offset on, wrapping at 256; a write of one byte
sets the offset, one of more is ignored; an address assignment sets the address. -/
def Obligations.DramAndSideband : Prop :=
  ((∀ (s : State) (ch rank : Nat) (a : W64) (use : DramUse), s.dram.enabled = true →
    let u := State.count { s with dram := { s.dram with
      ue := false, channel := ch, rank := rank, addr := a.toNat % 2 ^ 41 } } 118 0 1
    exec (.dramError false ch rank a use) s = .next ((if s.dram.ceAt.any (fun t => s.now < t + 1000000000) then u
      else State.raise0 7 28 { u with dram := { u.dram with ceAt := some s.now } }).done s)) ∧
  (∀ (s : State) (ch rank : Nat) (a : W64) (use : DramUse), s.dram.enabled = true →
    let u := (State.raise0 7 29 (State.count { s with dram := { s.dram with
      ue := true, channel := ch, rank := rank, addr := a.toNat % 2 ^ 41 } } 118 1 1))
    exec (.dramError true ch rank a use) s = .next ((u.poison use).done s)) ∧
  (∀ (s : State) (seq : Nat),
    s.poison (.record seq) = { s with camb := { s.camb with ring := s.camb.ring.map fun (r : Rec) =>
      if r.seq == seq then { r with poisoned := true } else r } } ∧ s.poison .none = s) ∧
  (∀ (s : State) (off : Nat),
    (s.poison (.ring true off)).tally.trace = NMap.set s.tally.trace (off / 4 * 4) 0#32
      ∧ (s.poison (.ring false off)).tally.sweep = NMap.set s.tally.sweep (off / 4 * 4) 0#32) ∧
  (∀ s : State, s.dram.enabled = true → s.flag 0x18000010 0 = true →
    let u := s.until (s.dram.scrubAt + max 1 (s.fld 0x18000010 15 8) * 3600000000000)
    exec .scrubPassDone s
      = .next ((State.count { u with dram := { s.dram with scrubAt := u.now } } 118 2 1).done s))) ∧
  ((∀ s : State, exec .sidebandRead s = .next (State.done { s with sideband := { s.sideband with
      data := BitVec.ofNat 8 (s.sidebandByte s.sideband.offset.toNat), offset := s.sideband.offset + 1 } } s)) ∧
  (∀ (s : State) (b : Byte),
    exec (.sidebandOffsetWrite [b]) s = .next (State.done { s with sideband := { s.sideband with offset := b } } s)) ∧
  (∀ (s : State) (b c : Byte) (l : List Byte), exec (.sidebandOffsetWrite (b :: c :: l)) s = .next s) ∧
  (∀ (s : State) (a : BitVec 7),
    exec (.sidebandAddressAssign a) s = .next (State.done { s with sideband := { s.sideband with addr := a } } s)) ∧
  (∀ s : State, s.sidebandByte 0 = 0x96 ∧ ∀ o, 0xC < o → s.sidebandByte o = 0))

/-! ## The switch (spec/09, spec/10) -/

/-- What becomes of a frame that arrives: what its PHY saw is counted; a bad FCS or length is counted and the frame dropped; on a
CLOSED port it is dropped; a packet for the station goes to its port's hold buffer, one for another endpoint is in transit, but
on MGMT is discarded; one of the station's own that came round the ring is dropped with crown.ring_loop; PTP goes to CTRL with
its time, a Register Access frame on MGMT to CTRL; anything else is dropped. Pith's own frames leave where Pith says. -/
def Obligations.FramesAreClassified : Prop :=
  (∀ (s : State) (p : Nat) (f : Frame), p < 35 → s.canArrive p = true → lengthKinds f ≠ [] →
    let u := (s.noteCarrier p).indicateAll p (phyKinds p f)
    exec (.frameReceive p f) s = .next (((State.count (State.raise0 6 0 (u.indicateAll p (lengthKinds f))) 105 0 1)).done s)) ∧
  (∀ (s : State) (p : Nat) (f : Frame), p < 34 → s.canArrive p = true → lengthKinds f = [] → f.ethertype ≠ 0x8808#16 →
    s.macAccepts p f = true → headerKinds f = [] → s.portClass p = 0 →
    exec (.frameReceive p f) s = .next (((State.raise0 6 0 (s.indicateAll p (phyKinds p f))).count 105 0 1).done s)) ∧
  (∀ (s : State) (p : Nat) (f : Frame), p < 35 → s.canArrive p = true → lengthKinds f = [] → f.ethertype ≠ 0x8808#16 →
    s.macAccepts p f = false →
    exec (.frameReceive p f) s = .next ((((s.noteCarrier p).indicateAll p (phyKinds p f)).indicate p 11).done s)) ∧
  (∀ (s : State) (p : Nat) (f : Frame) (q : Pkt), Admitted s p f → s.isAhnath f = true → f.body = .ahnath q →
    q.dstEp = s.stationEp → ((p = 32 ∨ p = 33) → q.op ≠ 8#4 ∧ (s.flag 0x1300000C 31 = false ∨ q.srcEp ≠ s.stationEp)) →
    exec (.frameReceive p f) s = .next ((((s.noteCarrier p).indicateAll p (phyKinds p f)).toHold p f).done s)) ∧
  (∀ (s : State) (p : Nat) (f : Frame) (q : Pkt), Admitted s p f → s.isAhnath f = true → f.body = .ahnath q →
    q.dstEp ≠ s.stationEp → p ≠ 34 →
    ((p = 32 ∨ p = 33) → q.op ≠ 8#4 ∧ (s.flag 0x1300000C 31 = false ∨ q.srcEp ≠ s.stationEp)) →
    exec (.frameReceive p f) s = .next (((s.indicateAll p (phyKinds p f)).transit p f q).done s)) ∧
  (∀ (s : State) (p : Nat) (f : Frame) (q : Pkt), Admitted s p f → s.isAhnath f = true → f.body = .ahnath q →
    (p = 32 ∨ p = 33) → q.op ≠ 8#4 → s.flag 0x1300000C 31 = true → q.srcEp = s.stationEp →
    exec (.frameReceive p f) s
      = .next (((State.raise0 6 7 (s.indicateAll p (phyKinds p f))).count 105 7 1).done s)) ∧
  (∀ (s : State) (f : Frame) (q : Pkt), Admitted s 34 f → s.isAhnath f = true → f.body = .ahnath q → q.dstEp ≠ s.stationEp →
    exec (.frameReceive 34 f) s
      = .next ((((s.noteCarrier 34).indicateAll 34 (phyKinds 34 f)).count 105 0 1).done s)) ∧
  (∀ (s : State) (f : Frame), Admitted s 34 f → s.isAhnath f = false → f.ethertype = 0x88B5#16 →
    exec (.frameReceive 34 f) s
      = .next ((((s.noteCarrier 34).indicateAll 34 (phyKinds 34 f)).toCtrl 34 f false).done s)) ∧
  (∀ (s : State) (p : Nat) (f : Frame), Admitted s p f → s.isAhnath f = false → f.ethertype = 0x88F7#16 →
    exec (.frameReceive p f) s
      = .next ((((s.noteCarrier p).indicateAll p (phyKinds p f)).toCtrl p f true).done s)) ∧
  (∀ (s : State) (p : Nat) (f : Frame) (b : List Byte), Admitted s p f → f.udp = none → f.body = .other b →
    f.ethertype ≠ 0x88F7#16 → f.ethertype ≠ 0x88B5#16 →
    exec (.frameReceive p f) s
      = .next ((((s.noteCarrier p).indicateAll p (phyKinds p f)).count 105 0 1).done s)) ∧
  (∀ (s : State) (f : Frame) (out : Nat) (stamp : Bool), s.on 0x13000000 = true → s.isAhnath f = false →
    f.pith = some (out, stamp) → out < 35 →
    let tc := match f.vlan with | v :: _ => v.toNat / 2 ^ 13 | [] => Config.plainTc.toNat
    exec (.frameReceive 35 f) s
      = .next ((s.enqueue out tc { frame := f, tc := tc, answer := true, since := s.now, stamp := stamp }).done s))

/-- A PAUSE or priority-PAUSE frame is counted at its MAC and has no other effect. A heartbeat in a ring or chain renews the
neighbour of its port: a new neighbour is found, one with the station's own ID is a conflict.
A heartbeat period sends one heartbeat out of each joined port, numbered in turn; MISS periods of silence lose the
neighbour; the bypass settles and takes the ring ports' links down; the pass-through runs once the receivers are locked. -/
def Obligations.RingAndPauseFrames : Prop :=
  ((∀ (s : State) (p : Nat) (opcode : BitVec 16), p < 34 → s.canArrive p = true →
    exec (.pauseFrameReceive p opcode) s
      = .next ((s.indicate p (if opcode = 1#16 then 8 else if opcode = 0x101#16 then 9 else 10)).done s)) ∧
  (∀ s : State, s.canArrive 34 = true →
    exec (.pauseFrameReceive 34 1#16) s = .next ((s.indicate 34 9).done s)) ∧
  (∀ (s : State) (west : Bool) (station state : BitVec 16), (s.ringMode = 1 ∨ s.ringMode = 2) →
    s.canArrive (32 + b2n west) = true →
    Runs (.heartbeatReceive west station state) s fun t =>
      t.ring.nbr west = { live := true, state := state, station := station, known := true
                          conflict := station.toNat == s.stationId, lastHb := s.now }
        ∧ t.ring.nbr (!west) = s.ring.nbr (!west)
        ∧ (((s.ring.nbr west).known = false ∨ (s.ring.nbr west).live = false) → (t.src (evSrc 1 (20 + b2n west))).pend = true)
        ∧ (station.toNat = s.stationId → (t.src (evSrc 1 (22 + b2n west))).pend = true))) ∧
  ((∀ s : State, s.canHeartbeat = true →
    Runs .heartbeatSend s fun t => t.now = s.now + s.hbPeriod
      ∧ t.ring.hbSeq = (s.ring.hbSeq + b2n (s.joined 32) + b2n (s.joined 33)) % 2 ^ 32) ∧
  (∀ (s : State) (west : Bool), (s.ringMode = 1 ∨ s.ringMode = 2) → (s.ring.nbr west).live = true →
    Runs (.neighbourLost west) s fun t =>
      t.now = max s.now ((s.ring.nbr west).lastHb + s.fld 0x15200004 23 16 * s.hbPeriod)
        ∧ t.ring.nbr west = { s.ring.nbr west with live := false } ∧ t.ring.nbr (!west) = s.ring.nbr (!west)
        ∧ (t.src (evSrc 1 (18 + b2n west))).pend = true) ∧
  (∀ (s : State) (at_ : Nat), s.ring.byp = some at_ → s.ring.held = false →
    Runs .bypassSettled s fun t => t.ring = { s.ring with held := true } ∧ (t.port 32).up = false ∧ (t.port 33).up = false
      ∧ t.now = max s.now (at_ + s.fld 0x1520000C 15 8 * 1000000)) ∧
  (∀ s : State, s.ringPt = true → s.ring.held = true → s.ring.passing = false →
    exec .passThroughLock s = .next (State.done { s with ring := { s.ring with passing := true } } s)))

/-- A selection starts the head frame of the class chosen unless it has aged: from a port it leaves, padded to 60 bytes and its
FCS, marked CE or as it is; at CTRL Pith has it; from an internal port its pulled data lands. A scrub comes SCRUB_US after
the last one and, where no residue waits, leaves no aged frame in any egress queue. -/
def Obligations.EgressSelectionAndScrub : Prop :=
  (∀ (s : State) (p tc : Nat) (f : QFrame), p < 35 → s.pointReady p = true →
    s.chooseTc p = some tc → headOf (s.queue (8 * p + tc)) = some f → s.tooOld f.since = false →
    Runs (.egressSelect p) s fun t => ∃ fr,
      t.out = { point := p, frame := { fr with len := max 64 fr.len }, time := s.now } :: s.out
        ∧ (fr = f.frame ∨ ∃ h, f.frame.ip = some h ∧ fr = { f.frame with ip := some { h with ecn := .ce } })) ∧
  (∀ (s : State) (tc : Nat) (f : QFrame), s.pointReady 35 = true → s.chooseTc 35 = some tc →
    headOf (s.queue (280 + tc)) = some f → s.tooOld f.since = false →
    Runs (.egressSelect 35) s fun t => t.crown.ctrl = (f.frame, f.rx) :: s.crown.ctrl ∧ t.out = s.out) ∧
  (∀ (s : State) (p tc : Nat) (f : QFrame), 36 ≤ p → p < 40 → s.pointReady p = true → s.chooseTc p = some tc →
    headOf (s.queue (8 * p + tc)) = some f → s.tooOld f.since = false →
    (∀ h, f.frame.ip = some h → h.ecn ≠ .ect0 ∧ h.ecn ≠ .ect1) →
    let q := NMap.getD s.canopy.sfq p {}
    let gone := s.setQueue (8 * p + tc) (dropHead (s.queue (8 * p + tc)))
    let u := match nth q.s tc none with
      | some v => { gone with canopy := { gone.canopy with sfq := NMap.set gone.canopy.sfq p { q with v := v } } }
      | none => gone
    exec (.egressSelect p) s
      = .next (((State.offerResidue p ((u.retag p tc true).leaveBough f.frame false)).pump).done s)) ∧
  (∀ s : State, s.on 0x13000000 = true →
    let u := s.until (s.crown.scrubAt + s.fld 0x13000008 25 16 * 1000)
    exec .crownScrub s = .next (((List.range 34).foldl (fun (s : State) p => s.noteGates p) u).scrub.done s)) ∧
  (∀ s : State, s.crown.residue = [] → ∀ q, ∀ f ∈ s.scrub.queue q, s.tooOld f.since = false)

/-- The forwarding window: READ shows an entry or RESULT 1; WRITE of a valid entry into a set with room puts it there, static,
an invalid one is RESULT 3; DELETE takes the entry out, and with a learned one its path record. WRITE of a path record keeps
it and makes learned entries on it static. An entry not refreshed for LEARN_AGE_S goes.
The shaper window: READ shows the configuration and the tokens of the selected shaper; WRITE within the bounds puts RATE and
BURST in force with tokens 0; what it writes never leaves the bounds. -/
def Obligations.ForwardingAndShaperWindows : Prop :=
  ((∀ (s : State) (e : Fwd), NMap.get? s.crown.fwd (s.reg 0x13000200).toNat = some e →
    exec .fwdEntryRead s = .next (State.endWith { s with crown := { s.crown with fwdResult := 0 } }
      (s.regs.put 0x13000204 e.word) s)) ∧
  (∀ s : State, NMap.get? s.crown.fwd (s.reg 0x13000200).toNat = none →
    exec .fwdEntryRead s = .next (State.done { s with crown := { s.crown with fwdResult := 1 } } s) ∧
    exec .fwdEntryDelete s = .next (State.done { s with crown := { s.crown with fwdResult := 1 } } s)) ∧
  (∀ s : State, let e := fwdOf (s.reg 0x13000204)
    e.ok = true → s.flag 0x13000204 31 = true → NMap.get? s.crown.fwd (s.reg 0x13000200).toNat = none →
    (s.setOf (s.reg 0x13000200)).length < 8 →
    exec .fwdEntryWrite s = .next (State.done { s with crown := { s.crown with
      fwd := NMap.set s.crown.fwd (s.reg 0x13000200).toNat e, fwdResult := 0 } } s)) ∧
  (∀ s : State, (fwdOf (s.reg 0x13000204)).ok = false →
    exec .fwdEntryWrite s = .next (State.done { s with crown := { s.crown with fwdResult := 3 } } s)) ∧
  (∀ (s : State) (e : Fwd), NMap.get? s.crown.fwd (s.reg 0x13000200).toNat = some e →
    exec .fwdEntryDelete s = .next (State.done { s with crown := { s.crown with
      fwd := NMap.erase s.crown.fwd (s.reg 0x13000200).toNat
      paths := if e.learned then NMap.erase s.crown.paths e.path else s.crown.paths, fwdResult := 0 } } s)) ∧
  (∀ s : State, let n := s.fld 0x13000300 11 0
    exec .pathRecordWrite s = .next (State.done { s with crown := { s.crown with
      paths := NMap.set s.crown.paths n s.stagedPath
      fwd := s.crown.fwd.map fun p => if p.2.path == n then (p.1, { p.2 with learned := false }) else p } } s)) ∧
  (∀ (s : State) (ep : W32) (e : Fwd), NMap.get? s.crown.fwd ep.toNat = some e → e.learned = true →
    let u := s.until (e.refreshed + s.fld 0x13000014 15 0 * 1000000000)
    exec (.learnedEntryAgeOut ep) s = .next (State.done { u with crown := { s.crown with
      fwd := NMap.erase s.crown.fwd ep.toNat, paths := NMap.erase s.crown.paths e.path } } s))) ∧
  ((∀ s : State, s.shaperSel = true →
    exec .shaperRead s = .next (State.endWith { s with canopy := { s.canopy with
      shown := BitVec.ofInt 32 (s.selShaper.level s.now / 64) } }
      (s.regs.put 0x12000024 (w32 (s.selShaper.rate % 65536 * 65536 + s.selShaper.burst % 65536))) s)) ∧
  (∀ s : State, s.flag 0x12000020 31 = false →
    let x := s.clampQos (s.fld 0x12000024 31 16) (s.fld 0x12000024 15 0)
    let i := s.fld 0x12000020 13 0
    exec .shaperWrite s = .next ((State.noteClamps (i / 4) x.2.2 { s with canopy := { s.canopy with
      sess := NMap.set s.canopy.sess i { rate := x.1, burst := x.2.1, zero := true, at_ := s.now, window := true } } }).done s)) ∧
  (∀ s : State, s.flag 0x12000020 31 = true → s.fld 0x12000020 13 0 < 4096 →
    let x := s.clampQos (s.fld 0x12000024 31 16) (s.fld 0x12000024 15 0)
    exec .shaperWrite s = .next ((State.noteClamps 0 x.2.2 { s with canopy := { s.canopy with
      ns := NMap.set s.canopy.ns (s.fld 0x12000020 13 0)
        { rate := x.1, burst := x.2.1, zero := true, at_ := s.now, window := true } } }).done s)) ∧
  (∀ (s : State) (rate burst : Nat), s.fld 0x12000008 15 0 ≤ s.fld 0x12000008 31 16 →
    s.fld 0x1200000C 15 0 ≤ s.fld 0x1200000C 31 16 →
    let x := s.clampQos rate burst
    (rate = 0 → x.1 = 0) ∧ (rate ≠ 0 → s.fld 0x12000008 15 0 ≤ x.1 ∧ x.1 ≤ s.fld 0x12000008 31 16)
      ∧ s.fld 0x1200000C 15 0 ≤ x.2.1 ∧ x.2.1 ≤ s.fld 0x1200000C 31 16
      ∧ (x.2.2 = 0 ↔ x.1 = rate ∧ x.2.1 = burst)))

/-! ## Ports, Timebase, MGMT and ring (spec/10, spec/13) -/

/-- A link that comes up or goes down is noted and raised, and going down is counted, as is the loss of PCS
alignment that brought it about.
TIME_OP.SET loads the staged time with a fraction of 0; STEP adds the signed step and keeps the fraction; an edge of PPS_IN
records the time; PPS_OUT rises where the nanoseconds reach the offset; an entry of a gate list ends at its edge. -/
def Obligations.LinksAndTimebase : Prop :=
  ((∀ (s : State) (p : Nat), s.canLink p = true →
    exec (.linkUp p) s = .next ((State.raise0 (portGroup p) (4 + portSub p)
      { s with ports := NMap.set s.ports p { s.port p with up := true } }).done s)) ∧
  (∀ (s : State) (p : Nat) (pcs : Bool), p < 34 → (s.port p).up = true →
    let u := State.indicate (State.raise0 (portGroup p) (8 + portSub p)
      { s with ports := NMap.set s.ports p { s.port p with up := false } }) p 7
    exec (.linkDown p pcs) s = .next ((if pcs then u.indicate p 6 else u).done s)) ∧
  (∀ p < 32, portGroup p = 12 + p / 4 ∧ portSub p = p % 4) ∧ portGroup 32 = 20 ∧ portGroup 33 = 21) ∧
  ((∀ s : State, let t := (s.fld 0x1700001C 15 0 * 2 ^ 32 + (s.reg 0x17000018).toNat) * 1000000000 + s.fld 0x17000014 29 0
    exec .timebaseSet s = .next (State.done { s with time := { s.time with
      sec := t / 1000000000 % 2 ^ 48, ns := t % 1000000000, frac := 0 } } s)) ∧
  (∀ s : State, Runs .timebaseStep s fun t =>
    ((t.time.sec * 1000000000 + t.time.ns : Nat) : Int)
        = (((s.time.sec * 1000000000 + s.time.ns : Nat) : Int) + sInt 32 (s.reg 0x17000024).toNat) % (2 ^ 48 * 1000000000)
      ∧ t.time.ns < 1000000000
      ∧ t.time = { s.time with sec := t.time.sec, ns := t.time.ns }) ∧
  (∀ s : State, s.seed.boot ≠ .reset → s.seed.boot ≠ .heldDead →
    exec .ppsInCapture s = .next ((State.raise0 7 18 { s with time := { s.time with cap := (s.time.sec, s.time.ns) } }).done s)) ∧
  (∀ s : State, s.tbOn = true → s.flag 0x17000000 1 = true → s.fld 0x17000030 29 0 < 1000000000 →
    let off := s.fld 0x17000030 29 0
    let u := s.untilTb ((if s.time.ns < off then s.time.sec else s.time.sec + 1) * 1000000000 + off)
    exec .ppsOutPulse s = .next (State.done { u with time := { u.time with
      ppsHigh := some (u.now + s.fld 0x17000034 15 0 * 1000) } } s)) ∧
  (∀ (s : State) (p : Nat) (g : GateList), p < 34 → s.tbOn = true → (s.port p).gate = some g → 0 < g.cycle →
    exec (.gateEntryAdvance p) s = .next ((s.untilTb (s.tbNs + g.edge s.tbNs)).done s)))

/-- MDIO runs one operation at a time and a read leaves its data in MMAC_MDIO; a poll of the PHY sets speed and duplex; in half
duplex a collision within 512 bit times backs off and the sixteenth gives up; the back-off's end sends again, or drops an
aged frame; where the carrier drops, 96 bit times pass, an attempt has succeeded and gives its timestamp,
and a carrier lost in the middle of an attempt is counted; the PHY's reset ends 10 ms after RESET_N rose. -/
def Obligations.ManagementPort : Prop :=
  (∀ s : State, s.portOn 34 = true → s.mmac.mdioBusy = false →
    exec .mdioStart s = .next (State.done { s with mmac := { s.mmac with mdioBusy := true } } s)) ∧
  (∀ (s : State) (v : BitVec 16), s.mmac.mdioBusy = true →
    let r := if s.flag 0x16000008 26 then s.regs
      else s.regs.put 0x16000008 ((s.reg 0x16000008 &&& 0x041F0000#32) ||| w32 v.toNat)
    exec (.mdioDone v) s = .next (State.endWith { s with mmac := { s.mmac with mdioBusy := false } } r s)) ∧
  (∀ (s : State) (r1 r4 r5 r9 r10 : BitVec 16) (sp : Nat) (full : Bool), s.portOn 34 = true →
    (s.flag 0x16000000 1 = true ∨ s.seed.boot = .recovery) →
    resolvePhy r1 r4 r5 r9 r10 = some (sp, full) →
    exec (.phyAutoPoll r1 r4 r5 r9 r10) s = .next (State.done { s with mmac := { s.mmac with speed := sp, full := full } } s)) ∧
  (∀ (s : State) (n : Nat), s.attempting = true → n ≤ 512 → s.mmac.collisions < 15 →
    Runs (.mgmtCollision n) s fun t => t.mmac.collisions = s.mmac.collisions + 1 ∧ t.mmac.cur = s.mmac.cur
      ∧ ∃ k < 2 ^ min (s.mmac.collisions + 1) 10,
        t.mmac.backoff = some (s.now + n * s.mgmtBit + (32 + 512 * k) * s.mgmtBit)) ∧
  (∀ (s : State) (n : Nat), s.attempting = true → n ≤ 512 → 15 ≤ s.mmac.collisions →
    Runs (.mgmtCollision n) s fun t => t.mmac.cur = none ∧ t.mmac.backoff = none ∧ (t.src (evSrc 7 24)).pend = true) ∧
  (∀ (s : State) (f : QFrame) (t : Nat), s.mmac.backoff = some t → s.mmac.cur = some f → s.mmac.carrier = false →
    let u := s.until t
    u.tooOld f.since = false →
    exec .mgmtBackoffExpiry s = .next (State.done { u with
      mmac := { s.mmac with backoff := none, cur := some f, curAt := u.stampAt (s.tsCorr 34).1, carrier := true }
      out := { point := 34, frame := f.frame, time := u.now } :: s.out } s)) ∧
  (∀ (s : State) (f : QFrame) (t : Nat), s.mmac.backoff = some t → s.mmac.cur = some f →
    let u := s.until t
    u.tooOld f.since = true →
    exec .mgmtBackoffExpiry s = .next ((u.dropAttempt.countAged 34 (34 * 8 + f.tc)).done s)) ∧
  (∀ s : State, s.halfDuplex = true → s.mmac.carrier = true → s.attempting = false →
    let u := s.advance (96 * s.mgmtBit)
    exec (.carrierSenseDeassert false) s = .next (State.done { u with mmac := { s.mmac with carrier := false } } s)) ∧
  (∀ (s : State) (f : QFrame), s.halfDuplex = true → s.mmac.carrier = true → s.mmac.cur = some f → s.mmac.backoff = none →
    Runs (.carrierSenseDeassert false) s fun t => t.mmac.cur = none ∧ t.mmac.carrier = false
      ∧ t.now = s.now + 96 * s.mgmtBit
      ∧ (f.stamp = false → t.time.txts = s.time.txts)
      ∧ (f.stamp = true → s.time.txts.length < 64 → t.time.txts.length = s.time.txts.length + 1)) ∧
  (∀ s : State, s.attempting = true → s.mmac.carrier = true →
    exec (.carrierSenseDeassert true) s = .next ((s.indicate 34 5).done s)) ∧
  (∀ s : State, s.mmac.phyRstN = false → s.seed.boot ≠ .reset →
    let u := s.until s.mmac.phyHold
    exec .phyResetRelease s = .next (State.done { u with mmac := { s.mmac with phyRstN := true } } s))

/-! ## Xylem and Bark's receiver (spec/02, spec/11) -/

/-- Bark's decision on a packet for the station: with INT set it passes only under a key that is held, with NONCE bit 63 set
and a tag that agrees; with INT clear only with KEY_INDEX bit 0 clear and outside REQUIRE. What fails is counted and raises
`bark.tag_fail` or `bark.untagged`; with Bark off every packet passes.
24 ns after a frame entered a hold buffer it leaves it: a packet that Bark passes goes on to Xylem, one that fails goes
nowhere; then the buffer takes the frames that waited for room. Xylem discards fragments and malformed packets, and those whose
session is not bound to their sender or port (counting the latter is the model's choice, log entry 93); the others wait in the
port's inbox. -/
def Obligations.BarkAndHoldBuffers : Prop :=
  ((∀ (s : State) (p : Nat) (q : Pkt), s.on 0x11000000 = false → s.barkCheck p q = (true, s)) ∧
  (∀ (s : State) (p : Nat) (q : Pkt), s.on 0x11000000 = true → q.int = true →
    ((s.barkCheck p q).1 = true ↔ ∃ k, NMap.get? s.bark.keys q.keyIndex.toNat = some k
      ∧ q.nonce.getLsbD 63 = true ∧ q.mac k.key k.salt = q.tag)) ∧
  (∀ (s : State) (p : Nat) (q : Pkt), s.on 0x11000000 = true → q.int = false →
    ((s.barkCheck p q).1 = true ↔ q.keyIndex.getLsbD 0 = false ∧ s.barkMode p ≠ 2)) ∧
  (∀ (s : State) (p : Nat) (q : Pkt), (s.barkCheck p q).1 = false →
    (((s.barkCheck p q).2.src (evSrc 6 32)).pend = true ∨ ((s.barkCheck p q).2.src (evSrc 6 33)).pend = true)
      ∧ (s.barkCheck p q).2.xylem = s.xylem) ∧
  (∀ (s : State) (p : Nat) (q : Pkt), s.on 0x11000000 = true → q.int = false → q.keyIndex.getLsbD 0 = false →
    s.barkMode p = 2 → s.barkCheck p q = (false, (s.raise0 6 33).count 103 3 1))) ∧
  ((∀ (s : State) (port : Nat) (h : Held) (rest : List Held) (q : Pkt) (u : Udp), crownIndex port = true →
    NMap.getD s.crown.hold port [] = h :: rest → h.frame.body = .ahnath q → h.frame.udp = some u →
    let w := s.until (h.since + 24)
    let v := { w with crown := { w.crown with
      hold := if rest.isEmpty then NMap.erase w.crown.hold port else NMap.set w.crown.hold port rest } }
    let r := v.barkCheck h.sub q
    let x := if r.1 then r.2.toXylem port h u q else r.2
    exec (.barkHoldRelease port) s = .next ((x.fillHold (NMap.getD x.crown.holdWait port []).length port).done s)) ∧
  (∀ (s : State) (port : Nat) (h : Held) (u : Udp) (q : Pkt), s.on 0x10000000 = true → u.csum ≠ .wrong →
    h.frame.ip.any (fun i => i.mf || i.fragOff != 0) = true → s.toXylem port h u q = s) ∧
  (∀ (s : State) (port : Nat) (h : Held) (u : Udp) (q : Pkt), malformed u q = true → s.on 0x10000000 = true →
    u.csum ≠ .wrong → h.frame.ip.any (fun i => i.mf || i.fragOff != 0) = false → s.toXylem port h u q = s.raise0 4 0) ∧
  (∀ (s : State) (port : Nat) (h : Held) (u : Udp) (q : Pkt) (x : Session), malformed u q = false → s.on 0x10000000 = true →
    u.csum ≠ .wrong → h.frame.ip.any (fun i => i.mf || i.fragOff != 0) = false → s.sess? q.sid = some x →
    q.srcEp ≠ x.hostEp →
    let v := s.raise (evSrc 4 1) (sessDetail q.sid none)
    s.toXylem port h u q = { v with xylem := { v.xylem with bindDrops := v.xylem.bindDrops + 1 } }) ∧
  (∀ (s : State) (port : Nat) (h : Held) (u : Udp) (q : Pkt) (x : Session), malformed u q = false → s.on 0x10000000 = true →
    u.csum ≠ .wrong → h.frame.ip.any (fun i => i.mf || i.fragOff != 0) = false → s.sess? q.sid = some x →
    q.srcEp = x.hostEp → q.dstEp = s.stationEp → (q.int = true ∨ q.keyIndex.getLsbD 0 = false) → q.op ≠ 8#4 →
    let q' : Pkt := { q with payload := fitBytes (if q.op == 2#4 then 0 else q.length.toNat) q.payload }
    let p : InPkt := { sub := h.sub, cls := h.cls, tc := h.tc, ip := h.frame.ip, pkt := q' }
    (s.toXylem port h u q).xylem.inbox = if x.ports.contains (some h.sub) then
        NMap.set s.xylem.inbox port (NMap.getD s.xylem.inbox port [] ++ [p])
      else s.xylem.inbox))

/-- Of the packets of a port's inbox, taken oldest first: a DOORBELL is refused by the first check that fails (region 3,
generation 1, bounds 4, key limit 6) or acknowledged and acted on; a WRITE, READ or NOTIFY is refused with 7.
A doorbell with SQV on an enabled queue pair of an open session schedules a fetch up to its tail; one for a queue pair
outside the session's range raises the event for it and does nothing else. -/
def Obligations.DoorbellsAreTaken : Prop :=
  ((∀ (s : State) (port : Nat) (x : InPkt), crownIndex port = true → s.inboxHead port = some x → x.pkt.op = 6#4 →
    let q := x.pkt
    let ce := x.ce
    ∃ t, exec (.doorbellReceive port) s = .next (t.done s) ∧
      (∀ c, s.doorbellNak q = some c → c ≠ 6 → t = (s.dropInbox port).sendNak q.sid c q ce) ∧
      (s.doorbellNak q = some 6 → t = ((s.dropInbox port).count 103 5 1).sendNak q.sid 6 q ce) ∧
      (s.doorbellNak q = none →
        t = ((((s.dropInbox port).gatherAck q.sid q.srcEp (q.keyIndex.getLsbD 0) q.reqId ce q.ar).wake q.sid q.srcEp).ringBell
              q.sid (doorbellOf q.payload)))) ∧
  (∀ (s : State) (q : Pkt) (x : Session), s.sess? q.sid = some x →
    (s.doorbellNak q = some 3 ↔ q.region ≠ 0#32) ∧
    (s.doorbellNak q = some 1 ↔ q.region = 0#32 ∧ q.gen ≠ x.dbGen) ∧
    (s.doorbellNak q = some 4 ↔ q.region = 0#32 ∧ q.gen = x.dbGen ∧ 8 < q.offset.toNat + q.length.toNat)) ∧
  (∀ (s : State) (port : Nat) (x : InPkt), crownIndex port = true → s.inboxHead port = some x →
    (x.pkt.op = 1#4 ∨ x.pkt.op = 2#4 ∨ x.pkt.op = 7#4) →
    exec (.unsupportedPacketReceive port) s = .next (((s.dropInbox port).sendNak x.pkt.sid 7 x.pkt x.ce).done s))) ∧
  ((∀ (s : State) (sid : Nat) (b : Doorbell) (y : Session) (x : Qp), s.sess? sid = some y → s.on 0x09000000 = true →
    y.qpBase ≤ b.qpid → b.qpid < y.qpBase + y.qpCount → s.qp? b.qpid = some x → x.st = .enabled →
    b.sqv = true → b.cqv = false →
    (s.ringBell sid b).qp? b.qpid = some { x with sched := some (.doorbell b.sqTail) }
      ∧ ∀ q, q ≠ b.qpid → (s.ringBell sid b).qp? q = s.qp? q) ∧
  (∀ (s : State) (sid : Nat) (b : Doorbell) (y : Session), s.sess? sid = some y → s.on 0x09000000 = true →
    (b.qpid < y.qpBase ∨ y.qpBase + y.qpCount ≤ b.qpid) →
    s.ringBell sid b = s.raise (evSrc 4 17) (sessDetail sid (some b.qpid))))

/-- ACKs, NAKs and READ_RESPs meet the request their ID names, if they fit it; an answer that meets no open request is
discarded and raises the event for a stale one. Pulled write data goes through the internal port of its engine's Bough. A retry
NAK sends the request again; any other ends it and raises xylem.nak_rx. -/
def Obligations.AnswersMeetTheirRequests : Prop :=
  (∀ (s : State) (port : Nat) (x : InPkt), crownIndex port = true → s.inboxHead port = some x → x.pkt.op = 4#4 →
    exec (.ackReceive port) s = .next (((ackIds x.pkt).foldl (fun s i => s.takeAck x.pkt i)
      ((s.dropInbox port).noteAnswers x.pkt (ackIds x.pkt) (x.pkt.aux.toNat / 2 ^ 24))).pump.done s)) ∧
  (∀ (s : State) (q : Pkt) (id : W64), s.takeAck q id
    = if (s.desc? id.toNat).any (fun d => d.fits q) then s.answerOk id.toNat 0 0 [] else s.raise0 4 3) ∧
  (∀ (s : State) (port : Nat) (x : InPkt), crownIndex port = true → s.inboxHead port = some x → x.pkt.op = 5#4 →
    ((s.dropInbox port).desc? x.pkt.reqId.toNat).any (fun d => d.fits x.pkt) = false →
    exec (.nakReceive port) s = .next (((s.dropInbox port).raise0 4 3).pump.done s)) ∧
  (∀ (s : State) (port : Nat) (x : InPkt) (d : Desc), crownIndex port = true → s.inboxHead port = some x → x.pkt.op = 5#4 →
    s.desc? x.pkt.reqId.toNat = some d → d.fits x.pkt = true →
    exec (.nakReceive port) s = .next (State.done (State.pump (State.answerNak x.pkt.reqId.toNat (x.pkt.aux.toNat % 256)
      ((s.dropInbox port).noteAnswers x.pkt [x.pkt.reqId] (x.pkt.aux.toNat / 2 ^ 24)))) s)) ∧
  (∀ (s : State) (port : Nat) (x : InPkt), crownIndex port = true → s.inboxHead port = some x → x.pkt.op = 3#4 →
    let q := x.pkt
    let u := (s.dropInbox port).noteAnswers q [q.reqId] (b2n x.ce)
    let a := match s.desc? q.reqId.toNat with
      | none => u.raise0 4 3
      | some d =>
        if (d.fits q && d.length == q.length.toNat) = false then u.raise0 4 3
        else match d.kind with
          | .dataRead t _ => match (s.cmd? t).bind (·.engine) with
            | some e => u.toBough (e / 16) x
            | none => u.answerOk q.reqId.toNat x.sub x.cls q.payload
          | _ => u.answerOk q.reqId.toNat x.sub x.cls q.payload
    exec (.readRespReceive port) s = .next (State.done (if a.bud.qps == s.bud.qps then a.pump else a.pump.checkTols) s)) ∧
  (∀ (s : State) (r code : Nat) (d : Desc), s.desc? r = some d →
    (code = 8 → d.st = .sent → d.retries < s.retryLimit → s.answerNak r code = s.retransmit r) ∧
    (∀ t off, d.kind = .dataRead t off → 1 ≤ code → code ≤ 7 →
      let st : Status := if code = 1 then { sct := 7, sc := 0x82 } else if code = 2 then { sct := 7, sc := 0x81 }
        else if code = 6 then { sct := 7, sc := 0x83, dw0 := w32 (NMap.getD s.bark.tx d.sid 0) } else { sct := 0, sc := 4 }
      s.answerNak r code
        = ((((State.raise (evSrc 4 2) (s.detailOf d) (s.freeDesc r)).finish t st).tryPost t).closeShoots).checkClosed d.sid))

/-! ## Xylem's timers -/

/-- RTO after a request was sent it is sent again, its slot's rate halved and its interval doubled up to RTO_MAX; at
RETRY_LIMIT it fails. An ACK that gathers is sent when its oldest entry is DELAY old. One MPL after Xylem was enabled
requests may go. A request that is paced leaves when its slot and shapers let it; one to be sent again whose payload is no longer
retained is rebuilt first.
Every T_UPD each slot of the rate table is updated: answers marked CE cut RATE by alpha / 2048 but not below RATE_MIN,
answers without a mark add RATE_AI up to the port's rate; the counts start again; a slot that has sent nothing for
IDLE_RESET updates starts from RATE_START. -/
def Obligations.RequestTimersAndRates : Prop :=
  ((∀ (s : State) (r : Nat) (d : Desc), s.desc? r = some d → d.st = .sent → d.retries < s.retryLimit →
    exec (.retransmitTimeout r) s
      = .next ((((s.until (d.sentAt + d.interval)).cutRate d.dst).retransmit r).done s)) ∧
  (∀ (s : State) (r : Nat) (d : Desc), s.desc? r = some d → d.kind.reserved = false → d.dropped = false →
    (s.retransmit r).desc? r
      = some { d with st := .paced, retries := d.retries + 1, interval := min s.rtoMax (2 * d.interval) }) ∧
  (∀ (s : State) (r : Nat) (d : Desc), s.desc? r = some d → d.st = .sent → s.retryLimit ≤ d.retries →
    exec (.requestRetryExhausted r) s
      = .next ((((s.until (d.sentAt + s.rtoMax)).cutRate d.dst).answerFail r).pump.done s)) ∧
  (∀ (s : State) (n : Nat) (a : AckGather), NMap.get? s.xylem.acks n = some a →
    exec (.ackDelayExpiry n) s
      = .next (((s.until (a.since + s.fld 0x10000010 7 0 * 250)).sendAck n).done s)) ∧
  (∀ s : State, s.on 0x10000000 = true → s.xylem.started = false →
    let u := s.until (s.xylem.enabledAt + s.mpl)
    exec .xylemStartWaitEnd s
      = .next ((State.sendReserved none { u with xylem := { u.xylem with started := true } }).done s)) ∧
  (∀ (s : State) (r : Nat) (d : Desc), s.desc? r = some d → s.releasable r d = true →
    exec (.pacedRelease r) s = .next ((if d.dropped then s.refetch r d else (s.releasePaced r d).pump).done s))) ∧
  ((∀ s : State, s.on 0x10000000 = true →
    let f (r : RateSlot) : RateSlot := r.update s.rateMin (s.fld 0x1000001C 12 0) (s.fld 0x10000020 19 16)
      (s.fld 0x10000020 31 24) (s.rateStart r.portRate)
    let u := s.until (s.xylem.ratedAt + s.fld 0x10000020 15 0)
    exec .rateUpdate s = .next (State.done { u with xylem := { s.xylem with
      ratedAt := u.now, rates := s.xylem.rates.map fun p => (p.1, f p.2) } } s)) ∧
  (∀ (r : RateSlot) (lo ai g idle start : Nat), r.sent = true → 0 < r.marked → r.rate ≤ r.portRate → lo ≤ r.rate →
    let u := r.update lo ai g idle start
    lo ≤ u.rate ∧ u.rate ≤ max lo r.rate ∧ u.acked = 0 ∧ u.marked = 0 ∧ u.sent = false ∧ u.idle = 0) ∧
  (∀ (r : RateSlot) (lo ai g idle start : Nat), r.sent = true → r.marked = 0 → 0 < r.acked →
    (r.update lo ai g idle start).rate = min r.portRate (r.rate + ai)) ∧
  (∀ (r : RateSlot) (lo ai g idle start : Nat), r.sent = false → r.idle + 1 = idle →
    (r.update lo ai g idle start).rate = start ∧ (r.update lo ai g idle start).alpha = 1024))

/-- R51: the rate table has 4,096 slots, and a request is paced by the one whose index the formula gives for its endpoint: of
a WRITE the host to which it goes, of a READ the host that sends the data, in both cases the destination of the request.
Endpoints whose indices agree share the slot and its rate. -/
def Obligations.RateSlotIndex : Prop :=
  (∀ (s : State) (ep : W32),
    s.slotOf ep = ((ep ^^^ s.reg 0x10000024).toNat * 0x9E3779B1) % 2 ^ 32 / 2 ^ 20 ∧ s.slotOf ep < 4096) ∧
  (∀ (s : State) (ep other : W32) (r : RateSlot), s.slotOf ep = s.slotOf other →
    (s.setRate ep r).rateSlot other = { r with portRate := (s.rateSlot other).portRate }) ∧
  (∀ (s : State) (d : Desc), ceilDiv (s.rateSlot d.dst).releaseAt 1000 ≤ s.pacedUntil d)

/-- One MPL after its last retransmission, what the quiet rule holds back goes: a command's completion, a completion slot's
credit, a NOTIFY. COAL_TIME after a completion that is not notified the NOTIFY is due. -/
def Obligations.QuietRuleEnds : Prop :=
  (∀ (s : State) (tag : Nat) (c : Cmd) (st : Status) (t : Nat), s.cmd? tag = some c → c.status = some st → c.posted = false →
    s.owes tag = false → c.retxAt = some t →
    exec (.quietExpiry (.command tag)) s = .next (((s.until (t + s.mpl)).tryPost tag).done s)) ∧
  (∀ (s : State) (qpid slot : Nat) (x : Qp) (h : Nat × Nat × Bool), s.qp? qpid = some x →
    x.heldSlots.find? (fun h => h.1 == slot) = some h → h.2.2 = true →
    exec (.quietExpiry (.slot qpid slot)) s = .next (((s.until (h.2.1 + s.mpl)).releaseSlots qpid).done s)) ∧
  (∀ (s : State) (qpid t : Nat) (x : Qp), s.qp? qpid = some x → x.notifyHold = some t →
    exec (.quietExpiry (.notify qpid)) s = .next (((s.until t).tryNotify qpid).done s)) ∧
  (∀ (s : State) (qpid : Nat) (x : Qp), s.qp? qpid = some x → x.notifyEn = true → x.st ≠ .disabled →
    0 < x.unnotified →
    exec (.notifyCoalExpiry qpid) s
      = .next ((((s.until (x.unnotifiedSince + x.coalTime * 1000)).modQp qpid
          fun x => { x with notifyDue := true }).tryNotify qpid).done s)) ∧
  (∀ (s : State) (q : Nat) (x : Qp), s.qp? q = some x → ∃ y, (s.releaseSlots q).qp? q = some y
    ∧ y.credits + y.heldSlots.length = x.credits + x.heldSlots.length)

/-! ## Bud: queue pairs and sessions (spec/03) -/

/-- A turn of a queue pair begins its fetch: queue pairs with work take turns in ascending order (the order is the model's choice,
log entry 97), and a turn never takes more entries than remain of it while another waits. A poll reads the shadow record at its
interval. -/
def Obligations.FetchTurnsAndPolls : Prop :=
  (∀ (s : State) (q : Nat), qpIndex q = true → s.canFetch q = true →
    exec (.fetch q) s = .next ((s.startFetch q).done s)) ∧
  (∀ (s : State) (q : Nat), s.canFetch q = true → s.nextTurn = some q ∧ s.hasWork q = true) ∧
  (∀ (s : State) (q p left : Nat), s.bud.turn = some (p, left) → left = 0 → p ∈ s.workers → s.nextTurn = some q →
    (q = p ↔ s.workers.length = 1)) ∧
  (∀ (s : State) (q : Nat) (x : Qp), s.qp? q = some x → x.firstFetch = true → x.sched.isSome = true →
    s.startFetch q = (State.modQp (s.takeTurn q) q fun x => { x with
      sched := none, firstFetch := false
      job := some { n := 0, waitShadow := true, shadowFirst := true, left := s.turnLeft q } }).readShadow q true) ∧
  (∀ (s : State) (q tail left : Nat) (x : Qp), tail < x.sqSize → x.sqHead < x.sqSize →
    s.fetchLen q x tail left ≤ max 1 (s.fld 0x09000004 7 0) ∧ s.fetchLen q x tail left ≤ x.credits
      ∧ x.sqHead + s.fetchLen q x tail left ≤ x.sqSize
      ∧ s.fetchLen q x tail left ≤ (tail + x.sqSize - x.sqHead) % x.sqSize
      ∧ ((∃ p ∈ s.workers, p ≠ q) → s.fetchLen q x tail left ≤ left)) ∧
  (∀ (s : State) (q : Nat) (x : Qp), qpIndex q = true → s.canPoll q = true → s.qp? q = some x →
    let u := s.until (x.polledAt + s.pollEvery x)
    exec (.shadowPoll q) s
      = .next (((u.modQp q fun x => { x with polledAt := u.now }).readShadow q false).done s))

/-- A command of a session whose queue pair and session are known is posted into the next slot: the tail moves on, the phase
turns where it wraps, and the entry written carries the SQ head, queue pair, CID, phase and status. -/
def Obligations.CompletionsArePosted : Prop :=
  (∀ (s : State) (tag : Nat) (c : Cmd) (q : Qp) (x : Session), s.cmd? tag = some c → s.qp? c.qpid = some q →
    s.sess? c.sid = some x → s.xylem.started = false →
    ∃ d, (s.post tag).desc? s.xylem.nextReq = some d ∧ d.kind = .completion c.qpid q.cqTail tag ∧ d.op = 1#4 ∧ d.ar = true
      ∧ d.length = 16 ∧ d.dst = x.hostEp ∧ d.offset = q.cqOff + BitVec.ofNat 48 (16 * q.cqTail)
      ∧ d.payload = completionEntry (c.status.getD { sct := 0, sc := 0 }) q.sqHead c.qpid c.cid q.phase) ∧
  (∀ (s : State) (tag : Nat) (c : Cmd) (q : Qp) (x : Session), s.cmd? tag = some c → s.qp? c.qpid = some q →
    s.sess? c.sid = some x → s.xylem.started = false →
    ∃ y, (s.post tag).qp? c.qpid = some y ∧ y.cqTail = (if q.cqTail + 1 ≥ q.cqSize then 0 else q.cqTail + 1)
      ∧ y.phase = (if q.cqTail + 1 ≥ q.cqSize then !q.phase else q.phase) ∧ y.sqHead = q.sqHead)

/-- R73: the 16 bytes of a completion entry, field by field; DNR is 0 with success, 0/22 and 7/86 and 1 with every other status; M is
1 exactly where posting puts the command into its session's Error Information log. -/
def Obligations.CompletionEntryFormat : Prop :=
  (∀ (st : Status) (sqHead q cid : Nat) (phase : Bool), sqHead < 65536 → q < 65536 → cid < 65536 → st.sc < 256 → st.sct < 8 →
    let e := completionEntry st sqHead q cid phase
    e.length = 16 ∧ le e 0 4 = st.dw0.toNat ∧ le e 4 4 = st.dw1.toNat ∧ le e 8 2 = sqHead ∧ le e 10 2 = q
      ∧ le e 12 2 = cid ∧ le e 14 2 % 2 = b2n phase ∧ le e 14 2 / 2 % 256 = st.sc ∧ le e 14 2 / 2 ^ 9 % 8 = st.sct
      ∧ le e 14 2 / 2 ^ 12 % 4 = 0 ∧ le e 14 2 / 2 ^ 14 % 2 = b2n (!st.ok) ∧ le e 14 2 / 2 ^ 15 = b2n (!st.retry)) ∧
  (∀ st : Status, st.retry = true ↔ (st.sct = 0 ∧ st.sc = 0) ∨ (st.sct = 0 ∧ st.sc = 0x22) ∨ (st.sct = 7 ∧ st.sc = 0x86)) ∧
  (∀ (s : State) (tag : Nat) (c : Cmd) (q : Qp) (x : Session), s.cmd? tag = some c → s.qp? c.qpid = some q →
    s.sess? c.sid = some x → s.xylem.started = false →
    let st := c.status.getD { sct := 0, sc := 0 }
    ∃ y, (s.post tag).sess? c.sid = some y
      ∧ y.errors = (if st.ok then x.errors else ((c.cid, c.qpid, st.sct, st.sc) :: x.errors).take 64))

/-- A disabled queue pair with nothing left reports STATE 0 with CAUSE 0x07; a session that is being reset with nothing left
bumps its doorbell generation and opens again, or goes on to close; a silent session resets at KATO. -/
def Obligations.SessionsDrainAndReset : Prop :=
  (∀ (s : State) (q : Nat), qpIndex q = true → s.disableReady q = true →
    exec (.queuePairDisableDone q) s = .next ((s.disableDone q).done s)) ∧
  (∀ (s : State) (q : Nat) (x : Qp) (y : Session), s.qp? q = some x → s.sess? x.sid = some y → x.heldControl = false →
    ∃ z, (s.disableDone q).qp? q = some z ∧ z.st = .disabled ∧ z.cause = 7) ∧
  (∀ (s : State) (i : Nat) (x : Session), sessionIndex i = true → s.resetReady i = true → s.sess? i = some x →
    exec (.sessionResetSettle i) s = .next (((s.until (s.quietTime x.retxAt)).finishReset i).done s)) ∧
  (∀ (s : State) (i : Nat) (x : Session), s.sess? i = some x → s.bud.qps = [] → x.closing = none →
    ∃ y, (s.finishReset i).sess? i = some y ∧ y.dbGen = x.dbGen + 1#16 ∧ y.resets = x.resets + 1 ∧ y.st = .opened) ∧
  (∀ (s : State) (i : Nat) (x : Session), sessionIndex i = true → s.sess? i = some x → x.st = .opened → 0 < x.kato →
    exec (.keepaliveExpiry i) s
      = .next ((((s.until (x.kaSince + x.kato * 1000000)).raise (evSrc 4 20) (sessDetail i none)).startReset i none).done s))

/-- BUD_SESS_OP: OPEN checks the staged record, and reports the first check that fails or makes the session's record and writes
its header; CLOSE and RESET begin the session's reset. -/
def Obligations.SessionWindow : Prop :=
  (∀ (s : State) (k : Nat), s.openCause s.selSession s.stagedSession = some k →
    exec .sessionOpOpen s = .next (State.done { s with bud := { s.bud with openCause := k } } s)) ∧
  (∀ s : State, s.openCause s.selSession s.stagedSession = none →
    exec .sessionOpOpen s = .next ((s.startOpen s.selSession s.stagedSession).done s)) ∧
  (∀ (s : State) (i : Nat) (x : Session), (s.openCause i x = some 1 ↔ (s.sess? i).isSome = true)) ∧
  (∀ (s : State) (i : Nat) (x : Session), s.openCause i x = none → 1 ≤ x.qpCount ∧ x.qpCount ≤ 256
    ∧ x.qpBase + x.qpCount ≤ 16384 ∧ (∀ p ∈ s.bud.sess, p.2.qpBase < x.qpBase + x.qpCount → p.2.qpBase + p.2.qpCount ≤ x.qpBase)) ∧
  (∀ (s : State) (x : Session), s.sess? s.selSession = some x → x.st = .opened →
    exec .sessionOpReset s = .next ((s.startReset s.selSession none).done s) ∧
    exec .sessionOpClose s = .next ((s.startReset s.selSession (some none)).done s)) ∧
  (∀ (s : State) (i : Nat) (x : Session) (cl : Option (Option Nat)), s.sess? i = some x → x.st = .opened →
    s.bud.cmds = [] → s.bud.qps = [] → s.xylem.descs = [] →
    ∃ y, (s.startReset i cl).sess? i = some y ∧ y.st = .resetting ∧ y.closing = cl ∧ y.dbGen = x.dbGen)

/-! ## The engines (spec/04) -/

/-- A ready command goes to its home engine if that has a free context; an idle engine takes up to half of a victim's commands
from the tail of its deque, none of them twice, or waits BACKOFF. -/
def Obligations.PlacementAndStealing : Prop :=
  (∀ (s : State) (tag e : Nat) (c : Cmd), s.cmd? tag = some c → c.stage = .ready → c.status = none →
    s.placeOn c.qpid = some e → s.flows 5 (e / 16 + 1) = true →
    exec (.commandPlace tag) s = .next ((s.putAt tag e).done s)) ∧
  (∀ (s : State) (q : Nat), 0 < s.ctxFree (s.home q) → s.placeOn q = some (s.home q)) ∧
  (∀ (s : State) (q e : Nat), s.placeOn q = some e → s.running e = true) ∧
  (∀ (s : State) (tag e : Nat) (c : Cmd), s.cmd? tag = some c →
    ∃ d, (s.putAt tag e).cmd? tag = some d ∧ d.stage = .placed ∧ d.engine = some e ∧ d.status = c.status) ∧
  (∀ (s : State) (e : Nat), engineIndex e = true → s.canSteal e = true →
    exec (.stealAttempt e) s = .next ((s.steal e).done s)) ∧
  (∀ (s : State) (e v : Nat), s.victim e = some v → s.steal e = s.rob e v ∧ v ≠ e) ∧
  (∀ (s : State) (e v : Nat), s.booty e v ≤ (s.twig v).deque.length / 2 ∧ s.booty e v ≤ s.ctxFree e) ∧
  (∀ (s : State) (e v : Nat), s.victim e = some v → s.flag (twigBase v) 2 = true ∧ v ∈ victims e) ∧
  (∀ (s : State) (e : Nat), s.victim e = none →
    ((s.steal e).twig e).backoff = s.now + max 1 (bits (s.stealCfg e) 31 24) * 10)

/-! ## Rootlets (spec/14) -/

/-- Table 14.3: a drive inserted in an enabled port is debounced, powered, trained from MAX_GEN down, waited for, initialised
and qualified, each step at its time; a link that does not train at the lowest generation, and a drive that does not
initialise, ends in QUAL_FAIL. -/
def Obligations.DrivesComeUp : Prop :=
  (∀ (s : State) (d : Nat), d < 24 → (s.drive d).present = false → (s.drive d).st = .absent → s.rootOn d = true →
    s.powerOff d = false →
    Runs (.drivePresent d) s fun t => t.drive d = { s.drive d with
        present := true, st := .debouncing, deadline := s.now + s.fld (rootBase d + 0xC) 15 0 * 1000000 }
      ∧ ∀ e, e ≠ d → t.drive e = s.drive e) ∧
  (∀ (s : State) (d : Nat), d < 24 → (s.drive d).st = .debouncing →
    let u := s.until (s.drive d).deadline
    exec (.debounceExpiry d) s = .next (State.done (u.setDrive d { s.drive d with
      st := .powering, pwren := true, deadline := u.now + s.fld (rootBase d + 0xC) 31 16 * 1000000 }) s)) ∧
  (∀ (s : State) (d : Nat), d < 24 → (s.drive d).st = .powering →
    let u := s.until (s.drive d).deadline
    exec (.powerDelayExpiry d) s = .next (State.done (u.setDrive d { s.drive d with
      st := .training (s.maxGen d), perstN := true, deadline := u.now + 100000000 }) s)) ∧
  (∀ (s : State) (d gen width : Nat), d < 24 → s.canTrain d gen width = true →
    Runs (.linkTrained d gen width) s fun t => t.drive d = { s.drive d with
        st := .waiting, gen := gen, width := width, deadline := s.now + 100000000 }
      ∧ ((gen < 6 ∨ width < 4) → (t.src (evSrc (24 + d) 0)).pend = true)) ∧
  (∀ (s : State) (d g : Nat), d < 24 → (s.drive d).st = .training g →
    let u := s.until (s.drive d).deadline
    exec (.linkTrainTimeout d) s
      = .next ((if g > 4 then u.train d (g - 1) else u.settleFail d).driven.done s) ∧
    exec (.linkEqualizationFail d) s
      = .next ((if g > 4 then s.train d (g - 1) else s.settleFail d).driven.done s)) ∧
  (∀ (s : State) (d : Nat), d < 24 → (s.drive d).st = .waiting →
    let u := s.until (s.drive d).deadline
    exec (.configWaitExpiry d) s = .next (State.done (u.setDrive d { s.drive d with st := .initialising }) s)) ∧
  (∀ (s : State) (d : Nat) (i : DriveInfo), d < 24 → (s.drive d).st = .initialising →
    exec (.driveInitDone d i) s = .next ((s.initDone d i).driven.done s) ∧
    exec (.driveInitTimeout d) s = .next ((s.settleFail d).driven.done s)) ∧
  (∀ (s : State) (d : Nat) (i : DriveInfo), i.fatal = true → s.initDone d i = s.contain d) ∧
  (∀ (s : State) (d : Nat) (i : DriveInfo), i.fatal = false →
    ((s.initDone d i).drive d).st = (if driveQualified i then .ready else .qualFail)) ∧
  (∀ (s : State) (d : Nat), ((s.settleFail d).drive d).st = .qualFail ∧ ((s.settleFail d).drive d).pwren = false
    ∧ ((s.settleFail d).src (evSrc (24 + d) 3)).pend = true)

/-- A drive removed under power, a fatal error and a forbidden inbound request contain the port; a correctable error is only
counted, a non-fatal one fails the command it names; a command past CMD_MS is aborted and counted, past ABORT_MS its
controller is reset; the end of containment retrains; a disabled port's wait ends with the drive off. -/
def Obligations.DrivesLeaveService : Prop :=
  (∀ (s : State) (d : Nat), d < 24 → (s.drive d).present = true →
    exec (.surpriseRemoval d) s = .next ((s.removed d).driven.done s)) ∧
  (∀ (s : State) (d : Nat), s.rootOn d = false →
    let u := s.advance 1000000
    s.removed d = u.setDrive d { s.drive d with present := false }) ∧
  (∀ (s : State) (d : Nat), d < 24 → (s.drive d).linked = true →
    exec (.aerCorrectable d) s = .next ((s.count (78 + d) 3 1).done s) ∧
    exec (.aerFatal d) s = .next ((s.contain d).driven.done s)) ∧
  (∀ (s : State) (d k : Nat) (c : DriveCmd), d < 24 → s.cmdAt d k = some c →
    exec (.aerNonfatal d k) s = .next (((((s.takeCmd d c.id).cmdFailed d c).kickDrive d).checkOff d).driven.done s)) ∧
  (∀ (s : State) (d : Nat) (w : Bool) (a : W64) (n : Nat), d < 24 → (s.drive d).linked = true →
    (s.drive d).inboundOk w a.toNat n = false →
    exec (.inboundViolation d w a n) s = .next ((s.contain d).driven.done s)) ∧
  (∀ (v : Drive) (a n : Nat), v.atDrive = [] → 0x10000000000 ≤ a → 0 < n → v.inboundOk true a n = false ∧ v.inboundOk false a n = false) ∧
  (∀ (s : State) (d : Nat), d < 24 → (s.drive d).st = .contained →
    exec (.containmentRelease d) s = .next ((s.release_ d).driven.done s)) ∧
  (∀ (s : State) (d : Nat), (s.drive d).present = true → s.rootOn d = true →
    let u := s.until (s.drive d).deadline
    s.release_ d = u.train d (s.maxGen d)) ∧
  (∀ (s : State) (d k : Nat) (c : DriveCmd), d < 24 → s.cmdAt d k = some c → c.abortAt = none → (s.drive d).resetting = false →
    let u := s.until (c.issuedAt + c.cmdMs * 1000000)
    exec (.driveCommandTimeout d k) s
      = .next (((State.raise0 (24 + d) 7 (u.setDrive d { s.drive d with atDrive := (s.drive d).atDrive.map fun x =>
          if x.id == c.id then { x with abortAt := some u.now } else x })).count (78 + d) 4 1).done s)) ∧
  (∀ (s : State) (d k t : Nat) (c : DriveCmd), d < 24 → s.cmdAt d k = some c → c.abortAt = some t → (s.drive d).resetting = false →
    let u := s.until (t + c.abortMs * 1000000)
    let l := ((s.drive d).resets.filter fun t => u.now < t + 3600000000000) ++ [u.now]
    let v := (State.raise0 (24 + d) 8 (u.setDrive d { s.drive d with resetting := true, resets := l })).count (78 + d) 5 1
    exec (.abortWaitExpiry d k) s
      = .next ((if l.length > s.fld (rootBase d + 0x18) 23 16 then v.contain d else v).driven.done s)) ∧
  (∀ (s : State) (d : Nat), d < 24 → (s.drive d).resetting = true →
    exec (.controllerResetDone d true) s = .next ((s.resetDone d true).driven.done s) ∧
    exec (.controllerResetDone d false) s = .next ((s.contain d).driven.done s)) ∧
  (∀ (s : State) (d : Nat), d < 24 → (s.drive d).disabling = true →
    exec (.rootletDisableWaitExpiry d) s = .next (((s.until (s.drive d).deadline).driveOff d).driven.done s))

/-! ## Admin commands (spec/03, spec/05, spec/06, spec/07, spec/11, spec/16, spec/18) -/

/-- Log pages, Identify, features, Abort, event requests and register accesses: a command that waits to be served gives its
data or its status, and what is not served ends with the status of its table. -/
def Obligations.AdminReadsAndFeatures : Prop :=
  (∀ (s : State) (tag : Nat) (c : Cmd) (x : Session), s.adminAt tag 0x06 = some c → s.sess? c.sid = some x →
    exec (.identify tag) s = .next ((match s.identifyData c x with
      | none => s.fail tag 0 2 | some l => s.pushAdmin tag l).done s)) ∧
  (∀ (s : State) (tag : Nat) (c : Cmd) (x : Session), s.adminAt tag 0x02 = some c → s.sess? c.sid = some x →
    s.logPage (bits c.cdw10 7 0) c.sid x = none →
    exec (.getLogPage tag) s = .next ((s.fail tag 1 9).done s)) ∧
  (∀ (s u : State) (tag : Nat) (c : Cmd) (x : Session) (page : List Byte), s.adminAt tag 0x02 = some c →
    s.sess? c.sid = some x → s.logPage (bits c.cdw10 7 0) c.sid x = some (page, u) →
    let off := c.cdw12.toNat + c.cdw13.toNat * 2 ^ 32
    off ≤ page.length → c.adminLen ≤ 16777216 →
    let v := u.pushAdmin tag (slice page off c.adminLen)
    exec (.getLogPage tag) s = .next ((if bit c.cdw10 15 then v else v.pageRead (bits c.cdw10 7 0) c.sid).done s)) ∧
  (∀ (s : State) (tag : Nat) (c : Cmd) (x : Session), s.adminAt tag 0x0A = some c → s.sess? c.sid = some x →
    bits c.cdw10 10 8 < 2 →
    exec (.getFeatures tag) s = .next ((match s.getFeature c x (bits c.cdw10 10 8 == 1) with
      | none => s.fail tag 0 2 | some v => s.finish tag { sct := 0, sc := 0, dw0 := v.1, dw1 := v.2 }).done s)) ∧
  (∀ (s : State) (tag : Nat) (c : Cmd), s.adminAt tag 0x09 = some c → bits c.cdw10 7 0 = 0x0F →
    exec (.setFeatures tag) s = .next (State.done
      (if c.cdw11.toNat = 0 ∨ (100 ≤ c.cdw11.toNat ∧ c.cdw11.toNat ≤ 3600000)
       then (s.modSess c.sid fun x => { x with kato := ceilDiv c.cdw11.toNat 100 * 100 }).finishOk tag
       else s.fail tag 0 2) s)) ∧
  (∀ (s : State) (tag : Nat) (c : Cmd), s.adminAt tag 0x08 = some c →
    exec (.abort tag) s = .next ((s.abortCmd tag c).done s)) ∧
  (∀ (s : State) (tag : Nat) (c : Cmd), s.adminAt tag 0x0C = some c → 4 ≤ (s.aers c.sid).length →
    exec (.asynchronousEventRequest tag) s = .next ((s.fail tag 1 5).done s)) ∧
  (∀ (s : State) (tag : Nat) (c : Cmd), s.adminAt tag 0x0C = some c → (s.aers c.sid).length < 4 →
    exec (.asynchronousEventRequest tag) s = .next ((State.tryAer c.sid (s.begun tag .running)).done s)) ∧
  (∀ (s : State) (tag : Nat) (c : Cmd), s.adminAt tag 0xC4 = some c → c.regsOk = false →
    exec (.registerRead tag) s = .next (State.endWith (s.fail tag 0 2) s.regs s)) ∧
  (∀ (s : State) (tag : Nat) (c : Cmd), s.adminAt tag 0xC4 = some c → c.regsOk = true →
    (∀ i < bits c.cdw11 8 0, s.bridges .admin (c.cdw10.toNat + 4 * i) = true) →
    let r := State.readSeq c.cdw10.toNat (bits c.cdw11 8 0) s
    exec (.registerRead tag) s
      = .next (State.endWith (r.2.pushAdmin tag (r.1.flatMap fun v => leBytes 4 v.toNat)) r.2.regs s)) ∧
  (∀ (s : State) (tag : Nat) (c : Cmd), s.adminAt tag 0xC5 = some c →
    (c.regsOk = true → ∀ i < bits c.cdw11 8 0, s.bridges .admin (c.cdw10.toNat + 4 * i) = true) →
    let w := s.regWrites c.hostData c
    exec (.registerWrite tag c.hostData) s = .next (State.endWith (w.1.finish tag w.2) w.1.regs s)) ∧
  (∀ (s : State) (data : List Byte) (c : Cmd), c.regsOk = true → bit c.cdw11 31 = true →
    s.wrStatus .admin c.cdw10.toNat c.cdw12 (w32 c.cdw13.toNat) = 3 →
    (s.regWrites data c).2 = { sct := 7, sc := 0x87, dw0 := 0#32 })

/-- Sessions and their keys by admin commands: Open checks and starts as the window does; Close and Reset begin the reset, Close of
the own session after its completion; Keep Alive restarts the timer; a key goes into its slot with its counter 0, a change of
transmit slot follows the completion, a cleared slot is empty. -/
def Obligations.SessionAndKeyCommands : Prop :=
  (∀ (s : State) (tag : Nat) (c : Cmd), s.adminAt tag 0xC0 = some c →
    exec (.sessionOpen tag) s = .next (((s.begun tag .placed).openSession c.target
      { hostEp := c.cdw11, ports := portsOf c.cdw12, qpBase := bits c.cdw13 13 0, qpCount := bits c.cdw13 24 16
        priv := bit c.cdw13 31, qcbHandle := c.dpHandle, qcbGen := c.dpGen, qcbOff := c.dpOff, openTag := some tag }).done s)) ∧
  (∀ (s : State) (tag : Nat) (c : Cmd), s.adminAt tag 0xC1 = some c →
    exec (.sessionClose tag) s = .next (State.done
      (if s.closable c.target = false then s.fail tag 0 2
       else if c.target = c.sid then (s.finishOk tag).closeSession c.target none
       else (s.begun tag .running).closeSession c.target (some tag)) s)) ∧
  (∀ (s : State) (tag : Nat) (c : Cmd) (x : Session), s.adminAt tag 0xC2 = some c → s.sess? c.target = some x →
    x.st = .opened →
    exec (.sessionReset tag) s = .next (((s.finishOk tag).startReset c.target none).done s)) ∧
  (∀ (s : State) (tag : Nat) (c : Cmd), s.adminAt tag 0xC3 = some c →
    exec (.sessionQuery tag) s = .next ((s.pushAdmin tag (s.queryBytes c.target)).done s)) ∧
  (∀ (s : State) (tag : Nat) (c : Cmd), s.adminAt tag 0x18 = some c →
    exec (.keepAlive tag) s = .next (((s.modSess c.sid fun x => { x with kaSince := s.now }).finishOk tag).done s)) ∧
  (∀ (s : State) (tag k : Nat) (c : Cmd), s.adminAt tag 0xC8 = some c →
    s.keyCause c c.hostData = some k →
    (c.keyOp = 0 → exec (.keyLoad tag c.hostData) s = .next ((s.failCause tag k).done s)) ∧
    (c.keyOp = 1 → exec (.keyLoadAndSelect tag c.hostData) s = .next ((s.failCause tag k).done s))) ∧
  (∀ (s : State) (tag : Nat) (c : Cmd) (k : BitVec 256 × BitVec 32), s.adminAt tag 0xC8 = some c →
    s.keyCause c c.hostData = none → s.keyData c c.hostData = some k →
    let u := (s.putKey c.target c.keySlot (s.keyLimit c) k).finishOk tag
    (c.keyOp = 0 → exec (.keyLoad tag c.hostData) s = .next ((u.selectKey c.target (u.txOf c.target)).done s)) ∧
    (c.keyOp = 1 → exec (.keyLoadAndSelect tag c.hostData) s = .next ((u.selectKey c.target c.keySlot).done s))) ∧
  (∀ (s : State) (sid slot lim : Nat) (k : BitVec 256 × BitVec 32),
    NMap.get? (s.putKey sid slot lim k).bark.keys (2 * sid + slot) = some { key := k.1, salt := k.2, limitLog2 := lim }) ∧
  (∀ (s : State) (tag : Nat) (c : Cmd), s.adminAt tag 0xC8 = some c → c.keyOp = 2 → s.keyCause c [] = none →
    exec (.keySelect tag) s = .next (((s.finishOk tag).selectKey c.target c.keySlot).done s)) ∧
  (∀ (s : State) (tag : Nat) (c : Cmd), s.adminAt tag 0xC8 = some c → c.keyOp = 3 → s.keyCause c [] = none →
    exec (.keyClear tag) s = .next ((State.finishOk tag { s with bark := { s.bark with
      keys := NMap.erase s.bark.keys (2 * c.target + c.keySlot) } }).done s))

/-- Namespaces: a create within its grove's capacity takes a free NSID and appends its record; a delete detaches every session at
once and its record waits until no command of the namespace is left; attach and detach append the whole new set. -/
def Obligations.NamespaceCommands : Prop :=
  (∀ (s : State) (tag : Nat) (c : Cmd), s.adminAt tag 0x0D = some c → bits c.cdw10 3 0 = 0 →
    (nsOf c.hostData).ok = false → exec (.namespaceCreate tag c.hostData) s = .next ((s.fail tag 0 2).done s)) ∧
  (∀ (s : State) (tag : Nat) (c : Cmd) (g : Grove), s.adminAt tag 0x0D = some c → bits c.cdw10 3 0 = 0 →
    (nsOf c.hostData).ok = true → s.grove? (nsOf c.hostData).grove = some g →
    s.groveNcap (nsOf c.hostData).grove + (nsOf c.hostData).ncap ≤ g.usable → s.freeNsids ≠ [] →
    ∃ id ∈ s.freeNsids, exec (.namespaceCreate tag c.hostData) s
      = .next ((((s.draw s.freeNsids.length).2.modCmd tag fun c => { c with nsid := id, stage := .running }).append
          (nsOf c.hostData).grove id (.nsRecord 0 (some (nsOf c.hostData))) (.admin tag)).done s)) ∧
  (∀ (s : State) (tag : Nat) (c : Cmd) (n : Namespace), s.adminAt tag 0x0D = some c → bits c.cdw10 3 0 = 1 →
    NMap.get? s.heart.ns c.nsid = some n → n.deleting = false →
    let u := { s with heart := { s.heart with
      ns := NMap.set s.heart.ns c.nsid { n with attached := [], deleting := true, was := n.attached } } }
    exec (.namespaceDelete tag) s = .next (((State.noteChanged c.nsid n.attached u).begun tag .running).done s)) ∧
  (∀ (s : State) (nsid : Nat) (n : Namespace), NMap.get? s.heart.ns nsid = some n → n.deleting = true →
    s.bud.cmds = [] → s.nsRecords = [] →
    exec (.namespaceDeleteRecord nsid) s = .next ((s.append n.grove nsid (.nsRecord 1 (some n)) .none).done s)) ∧
  (∀ (s : State) (nsid : Nat) (n : Namespace), NMap.get? s.heart.ns nsid = some n → s.deleteDue nsid = true →
    ∃ who, exec (.namespaceDeleteRecord nsid) s = .next ((s.append n.grove nsid (.nsRecord 1 (some n)) who).done s)) ∧
  (∀ (s : State) (tag : Nat) (c : Cmd) (n : Namespace) (ids : List Nat), s.adminAt tag 0x15 = some c →
    (NMap.get? s.heart.ns c.nsid).any (fun n => !n.deleting) = true → s.nsNewest c.nsid = some n → cntlIds c.hostData = some ids →
    (bits c.cdw10 3 0 = 0 → (∀ i ∈ ids, i ∉ n.attached) →
      exec (.namespaceAttach tag c.hostData) s = .next (((s.begun tag .running).append n.grove c.nsid
        (.nsRecord 3 (some { n with attached := ids.foldl (fun l i => insertAsc i l) n.attached })) (.admin tag)).done s)) ∧
    (bits c.cdw10 3 0 = 0 → (∃ i ∈ ids, i ∈ n.attached) →
      exec (.namespaceAttach tag c.hostData) s = .next ((s.fail tag 1 0x18).done s)) ∧
    (bits c.cdw10 3 0 = 1 → (∀ i ∈ ids, i ∈ n.attached) →
      exec (.namespaceDetach tag c.hostData) s = .next (((s.begun tag .running).append n.grove c.nsid
        (.nsRecord 3 (some { n with attached := n.attached.filter fun i => !ids.contains i })) (.admin tag)).done s)) ∧
    (bits c.cdw10 3 0 = 1 → (∃ i ∈ ids, i ∉ n.attached) →
      exec (.namespaceDetach tag c.hostData) s = .next ((s.fail tag 1 0x1A).done s)))

/-- The image in flash: downloaded parts are held; a commit of a slot that may be written begins the one flash write that runs;
its end programs the slot, and, where it was not taken, the command fails; the running slot is refused. -/
def Obligations.FirmwareCommands : Prop :=
  (∀ (s : State) (tag : Nat) (c : Cmd), s.adminAt tag 0x11 = some c →
    exec (.firmwareImageDownload tag c.hostData) s = .next ((State.finishOk tag { s with pith := { s.pith with
      download := NMap.set s.pith.download (c.cdw11.toNat * 4) (fitBytes c.adminLen c.hostData) } }).done s)) ∧
  (∀ (s : State) (tag : Nat) (c : Cmd), s.adminAt tag 0x10 = some c → s.seed.write = none → (c.fs = 1 ∨ c.fs = 2) →
    c.fs - 1 ≠ s.seed.slot →
    let t (ca : Nat) (img : List Byte) := State.done (State.begun tag .placed { s with
      seed := { s.seed with write := some (tag, c.fs - 1, ca), image := img } }) s
    (c.ca = 0 → exec (.firmwareCommitWrite tag) s = .next (t 0 s.pith.imageBytes)) ∧
    (c.ca = 1 → exec (.firmwareCommitWriteMark tag) s = .next (t 1 s.pith.imageBytes)) ∧
    (c.ca = 2 → exec (.firmwareCommitMark tag) s = .next (t 2 [])) ∧
    (c.ca = 3 → exec (.firmwareActivate tag) s = .next (t 3 s.pith.imageBytes))) ∧
  (∀ (s : State) (tag : Nat) (c : Cmd), s.adminAt tag 0x10 = some c → s.seed.write = none →
    (c.ca = 0 → c.fs - 1 = s.seed.slot → exec (.firmwareCommitWrite tag) s = .next ((s.fail tag 1 6).done s)) ∧
    (3 < c.ca → exec (.firmwareCommitWrite tag) s = .next ((s.fail tag 1 7).done s))) ∧
  (∀ (s : State) (tag : Nat) (c : Cmd), s.adminAt tag 0xC6 = some c → s.seed.write = none → s.seed.dirtySlot = true →
    exec (.saveConfiguration tag) s = .next ((s.fail tag 0 0x0C).done s)) ∧
  (∀ (s : State) (tag : Nat) (c : Cmd), s.adminAt tag 0xC6 = some c → s.seed.write = none → s.seed.dirtySlot = false →
    exec (.saveConfiguration tag) s = .next ((match s.slotImage s.seed.slot, s.media.imageKey with
      | some run, some key => s.startWrite tag (1 - s.seed.slot) 0xF (s.saveImage key run (s.dir.elim 0 (·.2.saveCtr)))
      | _, _ => s.fail tag 0 6).done s)) ∧
  (∀ (s : State) (tag slot ca : Nat) (ok : Bool), s.seed.write = some (tag, slot, ca) → ca ≠ 3 →
    exec (.flashWriteDone ok) s = .next ((s.flashDone tag slot ca ok).done s)) ∧
  (∀ (s : State) (slot : Nat) (img : List Byte), (s.programSlot slot img).seed = s.seed
    ∧ ∀ a, (a < slotBase slot ∨ slotBase slot + slotSize ≤ a) →
      NMap.get? (s.programSlot slot img).media.flash a = NMap.get? s.media.flash a)

/-- Grove Management: a cause that its table names ends the action with that cause in DW0; otherwise Create and Add Spares send the
formats that are needed, Delete and Remove Spares erase labels, Release clears the namespaces' warning, and the rebuild, pause,
failure and verification of a grove begin or end. -/
def Obligations.GroveManagement : Prop :=
  (∀ (s : State) (tag k : Nat) (c : Cmd), s.adminAt tag 0xC7 = some c →
    (c.gmAction = 0 → s.createCause c = some k → exec (.groveCreate tag) s = .next ((s.failCause tag k).done s)) ∧
    (c.gmAction = 0 → s.createCause c = none → exec (.groveCreate tag) s
      = .next ((((s.begun tag .placed).sendFormats tag c.gmDrives).formatsDone tag).done s)) ∧
    (c.gmAction = 2 → s.spareCause c = some k → exec (.addSpares tag) s = .next ((s.failCause tag k).done s)) ∧
    (c.gmAction = 2 → s.spareCause c = none → exec (.addSpares tag) s
      = .next ((((s.begun tag .placed).sendFormats tag c.gmDrives).formatsDone tag).done s)) ∧
    (c.gmAction = 1 → s.grove? c.gmGrove = none → exec (.groveDelete tag) s = .next ((s.failCause tag 1).done s)) ∧
    (c.gmAction = 3 → (∀ d ∈ c.gmDrives, (s.drive d).spare = none) → exec (.removeSpares tag) s
      = .next ((((s.begun tag .running).labelsDone tag).checkVault).done s)) ∧
    (c.gmAction = 9 → s.grove? c.gmGrove = none → exec (.pauseRebuild tag) s = .next ((s.failCause tag 8).done s)) ∧
    (c.gmAction = 10 → s.grove? c.gmGrove = none → exec (.resumeRebuild tag) s = .next ((s.failCause tag 8).done s))) ∧
  (∀ (s : State) (tag : Nat) (c : Cmd) (g : Grove), s.adminAt tag 0xC7 = some c → s.grove? c.gmGrove = some g →
    (c.gmAction = 1 → exec (.groveDelete tag) s = .next ((s.gmDelete tag c).done s)) ∧
    (c.gmAction = 4 → exec (.releaseNamespaces tag) s = .next ((State.finishOk tag { s with heart := { s.heart with
      ns := s.heart.ns.map fun p =>
        (p.1, if p.2.grove == c.gmGrove then { p.2 with notReady := false } else p.2) } }).done s)) ∧
    (c.gmAction = 9 → (g.running.1.isSome = true ∨ g.running.2.isSome = true) → exec (.pauseRebuild tag) s
      = .next (((s.setGrove c.gmGrove { g with paused := true }).finishOk tag).done s)) ∧
    (c.gmAction = 9 → g.running = (none, none) → exec (.pauseRebuild tag) s = .next ((s.failCause tag 3).done s)) ∧
    (c.gmAction = 10 → g.paused = true → exec (.resumeRebuild tag) s
      = .next (((s.setGrove c.gmGrove { g with paused := false }).pump.finishOk tag).done s)) ∧
    (c.gmAction = 10 → g.paused = false → exec (.resumeRebuild tag) s = .next ((s.failCause tag 4).done s)) ∧
    (c.gmAction = 12 → g.offline = true → exec (.verify tag) s = .next ((s.failCause tag 10).done s)) ∧
    (c.gmAction = 12 → g.offline = false → g.resync.isSome = true →
      exec (.verify tag) s = .next ((s.failCause tag 6).done s)) ∧
    (c.gmAction = 12 → g.offline = false → g.resync = none →
      exec (.verify tag) s = .next (((s.startResync c.gmGrove 2 7
        (((g.holders.head?.bind fun d => NMap.get? s.media.intents d).elim [] Intent.stripes).filter
          fun n => NMap.has g.segs (n / 64))).finishOk tag).done s))) ∧
  (∀ (s : State) (tag : Nat) (c : Cmd) (g : Grove) (m : Member), s.adminAt tag 0xC7 = some c → s.grove? c.gmGrove = some g →
    c.gmSlot < g.n → g.members[c.gmSlot]? = some m → g.offline = false →
    (c.gmAction = 8 → m.st = .failed → s.spares.contains c.gmDrive = true → s.serves c.gmDrive c.gmGrove g = true →
      exec (.rebuildNow tag) s = .next (((s.takeSpare c.gmGrove c.gmSlot c.gmDrive).pump.finishOk tag).done s)) ∧
    (c.gmAction = 8 → m.st = .working → exec (.rebuildNow tag) s = .next ((s.failCause tag 1).done s)) ∧
    (c.gmAction = 8 → m.st = .rebuilding → exec (.rebuildNow tag) s = .next ((s.failCause tag 9).done s)) ∧
    (c.gmAction = 11 → m.st = .failed → exec (.failMember tag) s = .next ((s.failCause tag 12).done s)) ∧
    (c.gmAction = 11 → m.st = .working → 2 ≤ g.down → exec (.failMember tag) s = .next ((s.failCause tag 5).done s)) ∧
    (c.gmAction = 11 → m.st = .working → g.down < 2 →
      exec (.failMember tag) s = .next (((s.failMember c.gmGrove c.gmSlot).finishOk tag).done s)))

/-! ## I/O commands (spec/03, spec/04, spec/05, spec/08) -/

/-- The command at the head of its engine's deque starts, and does what its opcode asks: a Flush waits for what it covers or
closes the stripes that hold it, a Write pulls its data, a Read waits for its translation, a Compare pulls beside it, Write
Zeroes and Dataset Management append one record.
A translation, once its engine's Bough reaches Root, reads the first map page it lacks; with all of them in DRAM it pins every block's location, or ends the
command where a block is lost. A write on an offline grove ends with 2/80. A shoot stops lingering at LINGER_US. -/
def Obligations.IoCommandsRun : Prop :=
  ((∀ (s : State) (tag : Nat), s.startable tag 0 = true → exec (.flush tag) s = .next ((s.runFlush tag).done s)) ∧
  (∀ (s : State) (tag : Nat), s.startable tag 1 = true → exec (.write tag) s = .next (((s.start tag).pull tag).done s)) ∧
  (∀ (s : State) (tag : Nat) (c : Cmd), s.startable tag 1 = false → s.cmd? tag = some c → c.stalled = true → c.status = none →
    exec (.write tag) s = .next ((s.pull tag).done s)) ∧
  (∀ (s : State) (tag : Nat), s.startable tag 2 = true → exec (.read tag) s = .next ((s.start tag).done s)) ∧
  (∀ (s : State) (tag : Nat) (c : Cmd), s.startable tag 5 = true → (s.start tag).cmd? tag = some c →
    exec (.compare tag) s = .next (((s.start tag).pullData tag 0 ((s.start tag).xferLen c)).done s)) ∧
  (∀ (s : State) (tag : Nat) (c : Cmd), s.startable tag 8 = true → (s.start tag).cmd? tag = some c →
    (s.start tag).nsOffline c.nsid = false →
    exec (.writeZeroes tag) s = .next (((s.start tag).append ((s.start tag).groveOf c.nsid) c.nsid
      (.zero (c.fseq.getD 0) c.slba c.nlb (bit c.cdw12 25)) (.command tag)).done s)) ∧
  (∀ (s : State) (tag : Nat) (c : Cmd), s.startable tag 9 = true → (s.start tag).cmd? tag = some c →
    (s.start tag).nsOffline c.nsid = false →
    exec (.datasetManagement tag) s = .next (State.done
      (if bit c.cdw11 2 && !c.ranges.isEmpty
       then (s.start tag).append ((s.start tag).groveOf c.nsid) c.nsid (.deallocate (c.fseq.getD 0) c.ranges) (.command tag)
       else (s.start tag).finishOk tag) s)) ∧
  (∀ (s : State) (tag opc : Nat) (c : Cmd), s.startable tag opc = true → s.cmd? tag = some c →
    ∃ d, (s.start tag).cmd? tag = some d ∧ d.stage = .running ∧ d.opc = opc ∧ d.slba = c.slba ∧ d.nlb = c.nlb)) ∧
  ((∀ (s : State) (tag k : Nat) (c : Cmd), s.cmd? tag = some c → c.translating = true → s.on 0x07000000 = true →
    (∀ e, c.engine = some e → s.flows (engineDie e) 5 = true) → (s.pagesMissing c).head? = some k →
    exec (.translationDone tag) s = .next ((s.readPage c.nsid k).done s)) ∧
  (∀ (s : State) (tag : Nat) (c : Cmd), s.cmd? tag = some c → c.translating = true → s.on 0x07000000 = true →
    (∀ e, c.engine = some e → s.flows (engineDie e) 5 = true) → s.pagesMissing c = [] →
    exec (.translationDone tag) s = .next ((s.translated tag c).done s)) ∧
  (∀ (s : State) (tag lba : Nat) (c : Cmd), c.nlb = 1 → c.slba = lba → (s.lookups c).loc c.nsid lba = .lost →
    s.translated tag c = (s.lookups c).finish tag { sct := 7, sc := 0x84, dw0 := w32 lba }) ∧
  (∀ (s : State) (tag : Nat) (c : Cmd), s.cmd? tag = some c → s.nsOffline c.nsid = true → s.pull tag = s.fail tag 2 0x80) ∧
  (∀ (s : State) (n : Nat) (x : Piece), s.piece? n = some x → x.shoot = true → x.attachable = true → x.done = true →
    exec (.shootLingerExpiry n) s = .next ((((s.until (x.doneAt + x.lingerUs * 1000)).modPiece n
      fun x => { x with attachable := false }).closePiece n).done s)))

/-! ## Cambium, Heartwood and the groves (spec/05, spec/06, spec/07) -/

/-- The oldest record that is not durable becomes so once the map pages of its change are in DRAM (the first that is not is read
first): its change is applied and what waited for it goes on. A commit moves a
block to its new place only while it still lies where the commit says, and no other block; compaction runs a round; a dirty
page is staged in the MAP stream; a namespace whose delete record is durable is gone, its NSID kept aside. -/
def Obligations.JournalAndMap : Prop :=
  (∀ (s : State) (r : Rec), s.nextRecord = some r → s.changeMissing r.nsid r.body.runs = [] →
    s.changeFits r.nsid r.body.runs = true →
    exec .journalRecordDurable s = .next ((s.recordDurable r).done s)) ∧
  (∀ (s : State) (r : Rec) (k : Nat), s.nextRecord = some r → (s.changeMissing r.nsid r.body.runs).head? = some k →
    exec .journalRecordDurable s = .next ((s.readPage r.nsid k).done s)) ∧
  (∀ (s : State) (nsid seq : Nat) (m : MovePiece), m.nlb = 1 → s.loc nsid m.slba = .staged m.fromA m.fromB →
    (s.applyCommit nsid seq [m]).loc nsid m.slba = .data m.seg m.off) ∧
  (∀ (s : State) (nsid seq : Nat) (m : MovePiece), m.nlb = 1 → s.loc nsid m.slba ≠ .staged m.fromA m.fromB →
    s.applyCommit nsid seq [m] = s) ∧
  (∀ (s : State) (nsid seq k : Nat) (m : MovePiece), m.nlb = 1 → k ≠ mapKey nsid m.slba →
    NMap.get? (s.applyCommit nsid seq [m]).heart.map k = NMap.get? s.heart.map k) ∧
  (∀ (s : State) (nsid seq : Nat) (m : MovePiece), m.nlb = 1 → s.loc nsid m.slba = .data m.fromA m.fromB →
    (s.applyRelocate nsid seq [m]).loc nsid m.slba = .data m.seg m.off) ∧
  (∀ s : State, s.camb.compacting = true → s.on 0x06000000 = true →
    exec .cambiumCompact s = .next (s.compact.done s)) ∧
  (∀ (s : State) (page : Nat), (s.writeBackDue = true ∨ (s.camb.compacting = true ∧ s.on 0x06000000 = true)) →
    s.canWriteBack page = true →
    exec (.pageWriteback page) s = .next ((s.writeBack page).done s)) ∧
  (∀ (s : State) (nsid seq : Nat), (s.dropNamespace nsid seq).heart.ns = NMap.erase s.heart.ns nsid
    ∧ (nsid, seq) ∈ (s.dropNamespace nsid seq).heart.gone
    ∧ ∀ p ∈ (s.dropNamespace nsid seq).heart.map, p.1 / 2 ^ 48 ≠ nsid)

/-- R144 and R146: the slots of P, Q and the data chunks of a stripe by their formulas, which name every slot once; a conventional
chunk's first block; and the chunk, stripe and block of a block offset, each block of a segment having one. -/
def Obligations.StripePlacement : Prop :=
  (∀ (g : Grove) (s : Nat), 4 ≤ g.n → g.pSlot s = g.n - 1 - s % g.n ∧ g.qSlot s = (g.pSlot s + 1) % g.n
    ∧ ∀ d < g.n - 2, g.dSlot s d = (g.qSlot s + 1 + d) % g.n) ∧
  (∀ (g : Grove) (s : Nat), 4 ≤ g.n → g.pSlot s < g.n ∧ g.qSlot s < g.n ∧ g.pSlot s ≠ g.qSlot s
    ∧ ∀ d < g.n - 2, g.dSlot s d < g.n ∧ g.dSlot s d ≠ g.pSlot s ∧ g.dSlot s d ≠ g.qSlot s
      ∧ ∀ e < d, g.dSlot s e ≠ g.dSlot s d) ∧
  (∀ (g : Grove) (s : Nat), g.zoned = false → g.chunkLba s = 5767168 + s * g.c) ∧
  (∀ (g : Grove) (seg off : Nat), 4 ≤ g.n → off < 64 * ((g.n - 2) * g.c) →
    let w := (g.n - 2) * g.c
    let p := g.place seg off
    p = (64 * seg + off / w, off % w / g.c, off % g.c)
      ∧ 64 * seg ≤ p.1 ∧ p.1 ≤ 64 * seg + 63 ∧ p.2.1 < g.n - 2 ∧ p.2.2 < g.c ∧ g.offOf p.1 p.2.1 p.2.2 = off)

/-- Stripes, segments and members: a missing data block is the sum of P and the other data blocks; a stream with staged blocks opens a stripe, an idle one is closed at CLOSE_MS; a drive's answer
to a command is handled once it reaches the die that acts on it; the Pruner takes its victim; a segment with nothing live left is recorded free; a member fails; a
segment whose stripes are all on the spare is done; a resynchronization checks its next stripe. -/
def Obligations.StripesSegmentsAndMembers : Prop :=
  (∀ (l : List (Nat × List Byte)) (d : Nat) (b : List Byte), b.length = blockLen → (∀ p ∈ l, p.2.length = blockLen) →
    viaP l (sumP ((d, b) :: l)) = b) ∧
  (∀ (s : State) (g : Nat) (k : Stream), g < 4 → s.canOpen g k = true →
    exec (.stripeOpen g k) s = .next ((s.openStripe g k).done s)) ∧
  (∀ (s : State) (g : Nat) (k : Stream) (x : Stripe), g < 4 → s.idleStripe g k = some x →
    exec (.stripeIdleClose g k) s
      = .next ((((s.until (x.lastAdd + s.fld 0x0B000008 15 0 * 1000000)).closeCur g k).pump).done s)) ∧
  (∀ (s : State) (d id : Nat) (c : DriveCmd) (r : DriveResult), d < 24 → s.cmdAt d id = some c → (s.drive d).resetting = false →
    s.flows (driveDie d) (s.endDie c) = true → (r = .aborted → c.abortAt.isSome = true) →
    exec (.driveCommandComplete d id r) s = .next ((((s.endCmd d c r).checkOff d).driven).done s)) ∧
  (∀ (s : State) (d id : Nat) (c : DriveCmd), d < 24 → s.cmdAt d id = some c → (s.drive d).resetting = false →
    s.flows (driveDie d) (s.endDie c) = true → c.abortAt = none →
    exec (.driveCommandComplete d id .aborted) s = .next ((((s.endCmd d c (.error 0 7)).checkOff d).driven).done s)) ∧
  (∀ (s : State) (gi u : Nat) (g : Grove), gi < 4 → s.grove? gi = some g → g.offline = false → s.pruneVictim gi g = some u →
    exec (.prunerVictimSelect gi) s = .next ((s.prune gi).done s)) ∧
  (∀ (s : State) (gi u : Nat) (g : Grove), s.pruneVictim gi g = some u → s.isVictim gi g u = true ∧ u ∈ g.usedSets) ∧
  (∀ (s : State) (g a : Nat), g < 4 → s.canFree g a = true →
    exec (.segmentFree g a) s = .next ((((s.modGrove g fun x =>
      { x with segs := NMap.modify x.segs a fun y => { y with st := 3 } }).segRecord g a 3 (.segFree g a))).done s)) ∧
  (∀ (s : State) (g a : Nat), s.canFree g a = true → s.live g a = 0 ∧ s.segPinned g a = false) ∧
  (∀ (s : State) (gi slot : Nat) (g : Grove) (m : Member), gi < 4 → s.grove? gi = some g → g.members[slot]? = some m →
    m.st ≠ .failed →
    exec (.memberFail gi slot) s = .next ((s.failMember gi slot).driven.done s)) ∧
  (∀ (s : State) (gi a : Nat) (g : Grove), gi < 4 → s.grove? gi = some g → g.rbSeg = some a → g.rbJob = none →
    64 ≤ g.rbNext → g.paused = false → g.offline = false →
    exec (.rebuildSegmentDone gi) s = .next (((s.segRebuilt gi a).pump).done s)) ∧
  (∀ (s : State) (gi n : Nat) (l : List (Option (List (List Byte)))), gi < 4 → s.resyncAt gi = some n →
    exec (.resyncStripe gi l) s = .next ((s.resyncNext gi n l).done s)) ∧
  (∀ (s : State) (gi n : Nat) (g : Grove) (r : Resync), s.seed.boot = .running → s.grove? gi = some g → g.offline = false →
    g.resync = some r → r.todo.head? = some n → (∀ x ∈ g.rebuilds, x.bitmap.contains (n / 64) = false) →
    s.resyncAt gi = some n)
end

