-- ==== Sys2Proof/Laws/Map.lean ====
section
/-!
SUPPORT. The laws of `NMap`: what a key reads after a write, an erasure or a change, and that each keeps the order of keys.
-/

namespace Sys2Proof

theorem NMap.get?_set_same {α : Type} (m : NMap α) (k : Nat) (v : α) : NMap.get? (NMap.set m k v) k = some v := by
  induction m with
  | nil => simp [NMap.set, NMap.get?]
  | cons p t ih =>
    obtain ⟨j, w⟩ := p
    simp only [NMap.set]
    split
    · simp [NMap.get?]
    · split
      · simp [NMap.get?]
      · have : (j == k) = false := by simp_all; omega
        simp [NMap.get?, this, ih]

theorem NMap.get?_set_other {α : Type} (m : NMap α) (k j : Nat) (v : α) (h : j ≠ k) :
    NMap.get? (NMap.set m k v) j = NMap.get? m j := by
  have hk : (k == j) = false := by simp; omega
  induction m with
  | nil => simp [NMap.set, NMap.get?, hk]
  | cons p t ih =>
    obtain ⟨i, w⟩ := p
    simp only [NMap.set]
    split
    · simp [NMap.get?, hk]
    · split
      · rename_i h2
        have : i = k := by simp at h2; omega
        subst this
        simp [NMap.get?, hk]
      · simp only [NMap.get?, ih]

theorem NMap.getD_set_same {α : Type} (m : NMap α) (k : Nat) (v d : α) : NMap.getD (NMap.set m k v) k d = v := by
  simp [NMap.getD, NMap.get?_set_same]

theorem NMap.getD_set_other {α : Type} (m : NMap α) (k j : Nat) (v d : α) (h : j ≠ k) :
    NMap.getD (NMap.set m k v) j d = NMap.getD m j d := by
  simp [NMap.getD, NMap.get?_set_other m k j v h]

theorem NMap.get?_erase_other {α : Type} (m : NMap α) (k j : Nat) (h : j ≠ k) :
    NMap.get? (NMap.erase m k) j = NMap.get? m j := by
  induction m with
  | nil => rfl
  | cons p t ih =>
    obtain ⟨i, w⟩ := p
    simp only [NMap.erase]
    split
    · rename_i h2
      have : (i == j) = false := by simp at h2 ⊢; omega
      simp [NMap.get?, this]
    · simp only [NMap.get?, ih]

/-- In ascending order, the keys after the first are larger. -/
theorem NMap.sorted_tail {α : Type} {p : Nat × α} {t : NMap α} (h : NMap.sorted (p :: t) = true) :
    NMap.sorted t = true ∧ ∀ q ∈ t, p.1 < q.1 := by
  induction t generalizing p with
  | nil => simp [NMap.sorted]
  | cons q u ih =>
    obtain ⟨j, v⟩ := p; obtain ⟨k, w⟩ := q
    simp only [NMap.sorted, Bool.and_eq_true, decide_eq_true_eq] at h
    have h2 := ih h.2
    refine ⟨h.2, fun r hr => ?_⟩
    rcases List.mem_cons.1 hr with e | e
    · rw [e]; exact h.1
    · exact Nat.lt_trans h.1 (h2.2 r e)

theorem NMap.sorted_cons {α : Type} {p : Nat × α} {t : NMap α} (h : NMap.sorted t = true) (h2 : ∀ q ∈ t, p.1 < q.1) :
    NMap.sorted (p :: t) = true := by
  cases t with
  | nil => rfl
  | cons q u =>
    obtain ⟨j, v⟩ := p; obtain ⟨k, w⟩ := q
    simp [NMap.sorted, h, h2 (k, w) (by simp)]

theorem NMap.mem_set {α : Type} {m : NMap α} {k : Nat} {v : α} {p : Nat × α} (h : p ∈ NMap.set m k v) :
    p = (k, v) ∨ p ∈ m := by
  induction m with
  | nil => simpa [NMap.set] using h
  | cons q t ih =>
    obtain ⟨j, w⟩ := q
    simp only [NMap.set] at h
    split at h
    · simpa using h
    · split at h
      · simp at h; rcases h with h | h <;> simp [h]
      · simp at h
        rcases h with h | h
        · simp [h]
        · rcases ih h with h | h <;> simp [h]

theorem NMap.sorted_set {α : Type} {m : NMap α} (h : NMap.sorted m = true) (k : Nat) (v : α) :
    NMap.sorted (NMap.set m k v) = true := by
  induction m with
  | nil => rfl
  | cons q t ih =>
    obtain ⟨j, w⟩ := q
    have ht := NMap.sorted_tail h
    simp only [NMap.set]
    split
    · rename_i hk
      exact NMap.sorted_cons h (fun r hr => by
        rcases List.mem_cons.1 hr with e | e
        · rw [e]; exact hk
        · exact Nat.lt_trans hk (ht.2 r e))
    · split
      · rename_i hk
        have : k = j := by simpa using hk
        subst this
        exact NMap.sorted_cons ht.1 ht.2
      · rename_i h1 h2
        refine NMap.sorted_cons (ih ht.1) (fun r hr => ?_)
        rcases NMap.mem_set hr with e | e
        · rw [e]; simp at h2 ⊢; omega
        · exact ht.2 r e

theorem NMap.mem_erase {α : Type} {m : NMap α} {k : Nat} {p : Nat × α} (h : p ∈ NMap.erase m k) : p ∈ m := by
  induction m with
  | nil => exact h
  | cons q t ih =>
    obtain ⟨j, w⟩ := q
    simp only [NMap.erase] at h
    split at h
    · exact List.mem_cons_of_mem _ h
    · rcases List.mem_cons.1 h with e | e
      · rw [e]; exact List.mem_cons_self
      · exact List.mem_cons_of_mem _ (ih e)

theorem NMap.sorted_erase {α : Type} {m : NMap α} (h : NMap.sorted m = true) (k : Nat) :
    NMap.sorted (NMap.erase m k) = true := by
  induction m with
  | nil => rfl
  | cons q t ih =>
    obtain ⟨j, w⟩ := q
    have ht := NMap.sorted_tail h
    simp only [NMap.erase]
    split
    · exact ht.1
    · exact NMap.sorted_cons (ih ht.1) (fun r hr => ht.2 r (NMap.mem_erase hr))

theorem NMap.get?_none_of_lt {α : Type} {m : NMap α} {k : Nat} (h : ∀ p ∈ m, k < p.1) : NMap.get? m k = none := by
  induction m with
  | nil => rfl
  | cons q t ih =>
    obtain ⟨j, w⟩ := q
    have : (j == k) = false := by have := h (j, w) (by simp); simp; omega
    simp only [NMap.get?, this]
    exact ih (fun p hp => h p (by simp [hp]))

theorem NMap.get?_erase_same {α : Type} {m : NMap α} (h : NMap.sorted m = true) (k : Nat) :
    NMap.get? (NMap.erase m k) k = none := by
  induction m with
  | nil => rfl
  | cons q t ih =>
    obtain ⟨j, w⟩ := q
    have ht := NMap.sorted_tail h
    simp only [NMap.erase]
    split
    · rename_i hk
      have : j = k := by simpa using hk
      subst this
      exact NMap.get?_none_of_lt ht.2
    · rename_i hk
      simp only [NMap.get?]
      rw [if_neg hk]
      exact ih ht.1

theorem NMap.mem_of_get? {α : Type} {m : NMap α} {k : Nat} {v : α} (h : NMap.get? m k = some v) : (k, v) ∈ m := by
  induction m with
  | nil => simp [NMap.get?] at h
  | cons q t ih =>
    obtain ⟨j, w⟩ := q
    simp only [NMap.get?] at h
    split at h
    · rename_i hk
      simp_all
    · exact List.mem_cons_of_mem _ (ih h)

/-- Erasing a key that is not there changes nothing. -/
theorem NMap.erase_none {α : Type} {m : NMap α} {k : Nat} (h : NMap.get? m k = none) : NMap.erase m k = m := by
  induction m with
  | nil => rfl
  | cons q t ih =>
    obtain ⟨j, w⟩ := q
    simp only [NMap.get?] at h
    split at h
    · simp at h
    · rename_i hk
      simp only [NMap.erase, if_neg hk, ih h]

/-- Writing the value that a key has changes nothing, in ascending order. -/
theorem NMap.set_same {α : Type} {m : NMap α} {k : Nat} {v : α} (hs : NMap.sorted m = true)
    (h : NMap.get? m k = some v) : NMap.set m k v = m := by
  induction m with
  | nil => simp [NMap.get?] at h
  | cons q t ih =>
    obtain ⟨j, w⟩ := q
    have ht := NMap.sorted_tail hs
    by_cases hk : j = k
    · subst hk
      simp [NMap.get?] at h
      simp [NMap.set, h]
    · have e : (j == k) = false := by simp [hk]
      simp only [NMap.get?, e] at h
      have : (k, v) ∈ t := NMap.mem_of_get? h
      have lt := ht.2 _ this
      have e1 : ¬ k < j := by omega
      have e2 : ¬ ((k == j) = true) := by simp; omega
      simp [NMap.set, e1, e2, ih ht.1 h]

end Sys2Proof
end

