-- ==== Sys2Proof/Laws/Regs.lean ====
section
/-!
SUPPORT. The laws of the register memory: what a register reads after a write, and that every write keeps the canonical
form.
-/

namespace Sys2Proof.Machine

open Sys2Proof

/-- The canonical form, as four facts. -/
theorem Regs.wf_iff (r : Regs) : r.wf = true ↔
    NMap.sorted r.val = true ∧ (∀ p ∈ r.val, p.2 ≠ resetOf p.1) ∧ NMap.sorted r.shadow = true
      ∧ ∀ p ∈ r.shadow, p.2 ≠ resetOf p.1 := by
  simp [Regs.wf, and_assoc]

theorem Regs.get_put_same (r : Regs) (h : r.wf = true) (a : Nat) (v : W32) : (r.put a v).get a = v := by
  have h := (Regs.wf_iff r).1 h
  simp only [Regs.put, Regs.get]
  split
  · rename_i e
    simp [NMap.getD, NMap.get?_erase_same h.1]
    exact (by simpa using e : v = resetOf a).symm
  · simp [NMap.getD_set_same]

theorem Regs.get_put_other (r : Regs) (a b : Nat) (v : W32) (h : b ≠ a) : (r.put a v).get b = r.get b := by
  simp only [Regs.put, Regs.get]
  split
  · simp [NMap.getD, NMap.get?_erase_other _ _ _ h]
  · exact NMap.getD_set_other _ _ _ _ _ h

/-- Writing the value in force changes nothing. -/
theorem Regs.put_get (r : Regs) (h : r.wf = true) (a : Nat) : r.put a (r.get a) = r := by
  have h := (Regs.wf_iff r).1 h
  simp only [Regs.put]
  cases e : NMap.get? r.val a with
  | none =>
    have : r.get a = resetOf a := by simp [Regs.get, NMap.getD, e]
    simp [this, NMap.erase_none e]
  | some v =>
    have g : r.get a = v := by simp [Regs.get, NMap.getD, e]
    have : v ≠ resetOf a := h.2.1 _ (NMap.mem_of_get? e)
    simp [g, this, NMap.set_same h.1 e]

theorem Regs.getShadow_putShadow_same (r : Regs) (h : r.wf = true) (a : Nat) (v : W32) :
    (r.putShadow a v).getShadow a = v := by
  have h := (Regs.wf_iff r).1 h
  simp only [Regs.putShadow, Regs.getShadow]
  split
  · rename_i e
    simp [NMap.getD, NMap.get?_erase_same h.2.2.1]
    exact (by simpa using e : v = resetOf a).symm
  · simp [NMap.getD_set_same]

theorem Regs.put_wf (r : Regs) (h : r.wf = true) (a : Nat) (v : W32) : (r.put a v).wf = true := by
  have h := (Regs.wf_iff r).1 h
  rw [Regs.wf_iff]
  simp only [Regs.put]
  refine ⟨?_, ?_, h.2.2⟩
  · split
    · exact NMap.sorted_erase h.1 a
    · exact NMap.sorted_set h.1 a v
  · split
    · exact fun p hp => h.2.1 p (NMap.mem_erase hp)
    · rename_i e
      intro p hp
      rcases NMap.mem_set hp with q | q
      · rw [q]; simpa using e
      · exact h.2.1 p q

theorem Regs.putShadow_wf (r : Regs) (h : r.wf = true) (a : Nat) (v : W32) : (r.putShadow a v).wf = true := by
  have h := (Regs.wf_iff r).1 h
  rw [Regs.wf_iff]
  simp only [Regs.putShadow]
  refine ⟨h.1, h.2.1, ?_, ?_⟩
  · split
    · exact NMap.sorted_erase h.2.2.1 a
    · exact NMap.sorted_set h.2.2.1 a v
  · split
    · exact fun p hp => h.2.2.2 p (NMap.mem_erase hp)
    · rename_i e
      intro p hp
      rcases NMap.mem_set hp with q | q
      · rw [q]; simpa using e
      · exact h.2.2.2 p q

/-- A fresh register file is in canonical form. -/
theorem Regs.empty_wf : ({} : Regs).wf = true := by decide

/-- A record of a violation, a snapshot or a latch leaves the form alone. -/
theorem Regs.violate_wf (r : Regs) (a : Nat) (p : Path) (k : Nat) : (r.violate a p k).wf = r.wf := rfl

/-- A snapshot put in force keeps the form. -/
theorem Regs.applyVals_wf (r : Regs) (h : r.wf = true) (vals : NMap W32) : (r.applyVals vals).wf = true := by
  suffices ∀ q : Regs, q.wf = true →
      (vals.foldl (fun q p => q.put p.1 (r.merge vals p.1)) q).wf = true from this r h
  have : ∀ (l : NMap W32) (q : Regs), q.wf = true → (l.foldl (fun q p => q.put p.1 (r.merge vals p.1)) q).wf = true := by
    intro l
    induction l with
    | nil => exact fun q h => h
    | cons p t ih => exact fun q h => ih _ (Regs.put_wf q h _ _)
  exact this vals

/-- A shorthand: what a command that has its effect leaves. -/
theorem act_true {ok : Bool} (h : ok = true) (t s : State) : act ok t s = .next (t.done s) := by simp [act, h]
theorem act_false {ok : Bool} (h : ok = false) (t s : State) : act ok t s = .next s := by simp [act, h]
theorem actR_true {ok : Bool} (h : ok = true) (r : Regs) (t s : State) : actR ok r t s = .next (t.endWith r s) := by
  simp [actR, h]
theorem actR_false {ok : Bool} (h : ok = false) (r : Regs) (t s : State) : actR ok r t s = .next s := by simp [actR, h]

@[simp] theorem State.endWith_regs (t : State) (r : Regs) (s : State) : (t.endWith r s).regs = r := rfl
@[simp] theorem State.endWith_pending (t : State) (r : Regs) (s : State) : (t.endWith r s).pending = s.pending := rfl
@[simp] theorem State.done_regs (t s : State) : (t.done s).regs = s.regs := rfl
@[simp] theorem State.done_pending (t s : State) : (t.done s).pending = s.pending := rfl

end Sys2Proof.Machine
end

