-- ==== Sys2Proof/Laws/State.lean ====
section
/-!
SUPPORT. What each named update of the state leaves alone, field by field, so that no proof unfolds a record update; and
what the accessors read after the updates of the tables.
-/

namespace Sys2Proof.Machine

@[simp] theorem State.setReg_frame (s : State) (a : Nat) (v : W32) :
    (s.setReg a v).now = s.now ∧ (s.setReg a v).xylem = s.xylem ∧ (s.setReg a v).bud = s.bud ∧
    (s.setReg a v).knot = s.knot ∧ (s.setReg a v).twigs = s.twigs ∧ (s.setReg a v).boughCycles = s.boughCycles ∧
    (s.setReg a v).heart = s.heart ∧ (s.setReg a v).camb = s.camb ∧ (s.setReg a v).sapw = s.sapw ∧
    (s.setReg a v).groves = s.groves ∧ (s.setReg a v).asmNext = s.asmNext ∧ (s.setReg a v).pieces = s.pieces ∧
    (s.setReg a v).nextPiece = s.nextPiece ∧ (s.setReg a v).drives = s.drives ∧ (s.setReg a v).crown = s.crown ∧
    (s.setReg a v).bark = s.bark ∧ (s.setReg a v).canopy = s.canopy ∧ (s.setReg a v).ports = s.ports ∧
    (s.setReg a v).mmac = s.mmac ∧ (s.setReg a v).time = s.time ∧ (s.setReg a v).ring = s.ring ∧
    (s.setReg a v).pith = s.pith ∧ (s.setReg a v).sap = s.sap ∧ (s.setReg a v).seed = s.seed ∧
    (s.setReg a v).evt = s.evt ∧ (s.setReg a v).alertFixed = s.alertFixed ∧ (s.setReg a v).tally = s.tally ∧
    (s.setReg a v).dram = s.dram ∧ (s.setReg a v).links = s.links ∧ (s.setReg a v).linkAt = s.linkAt ∧
    (s.setReg a v).bistDone = s.bistDone ∧ (s.setReg a v).bistPass = s.bistPass ∧ (s.setReg a v).sideband = s.sideband ∧
    (s.setReg a v).media = s.media ∧ (s.setReg a v).aerDue = s.aerDue ∧ (s.setReg a v).fresh = s.fresh ∧
    (s.setReg a v).readData = s.readData ∧ (s.setReg a v).out = s.out ∧ (s.setReg a v).ra = s.ra ∧
    (s.setReg a v).pending = s.pending := by
  and_intros <;> rfl

@[simp] theorem State.setTwig_frame (s : State) (e : Nat) (v : Twig) :
    (s.setTwig e v).now = s.now ∧ (s.setTwig e v).regs = s.regs ∧ (s.setTwig e v).xylem = s.xylem ∧
    (s.setTwig e v).bud = s.bud ∧ (s.setTwig e v).knot = s.knot ∧ (s.setTwig e v).boughCycles = s.boughCycles ∧
    (s.setTwig e v).heart = s.heart ∧ (s.setTwig e v).camb = s.camb ∧ (s.setTwig e v).sapw = s.sapw ∧
    (s.setTwig e v).groves = s.groves ∧ (s.setTwig e v).asmNext = s.asmNext ∧ (s.setTwig e v).pieces = s.pieces ∧
    (s.setTwig e v).nextPiece = s.nextPiece ∧ (s.setTwig e v).drives = s.drives ∧ (s.setTwig e v).crown = s.crown ∧
    (s.setTwig e v).bark = s.bark ∧ (s.setTwig e v).canopy = s.canopy ∧ (s.setTwig e v).ports = s.ports ∧
    (s.setTwig e v).mmac = s.mmac ∧ (s.setTwig e v).time = s.time ∧ (s.setTwig e v).ring = s.ring ∧
    (s.setTwig e v).pith = s.pith ∧ (s.setTwig e v).sap = s.sap ∧ (s.setTwig e v).seed = s.seed ∧
    (s.setTwig e v).evt = s.evt ∧ (s.setTwig e v).alertFixed = s.alertFixed ∧ (s.setTwig e v).tally = s.tally ∧
    (s.setTwig e v).dram = s.dram ∧ (s.setTwig e v).links = s.links ∧ (s.setTwig e v).linkAt = s.linkAt ∧
    (s.setTwig e v).bistDone = s.bistDone ∧ (s.setTwig e v).bistPass = s.bistPass ∧
    (s.setTwig e v).sideband = s.sideband ∧ (s.setTwig e v).media = s.media ∧ (s.setTwig e v).aerDue = s.aerDue ∧
    (s.setTwig e v).fresh = s.fresh ∧ (s.setTwig e v).readData = s.readData ∧ (s.setTwig e v).out = s.out ∧
    (s.setTwig e v).ra = s.ra ∧ (s.setTwig e v).pending = s.pending := by
  and_intros <;> rfl

@[simp] theorem State.setDrive_frame (s : State) (d : Nat) (v : Drive) :
    (s.setDrive d v).now = s.now ∧ (s.setDrive d v).regs = s.regs ∧ (s.setDrive d v).xylem = s.xylem ∧
    (s.setDrive d v).bud = s.bud ∧ (s.setDrive d v).knot = s.knot ∧ (s.setDrive d v).twigs = s.twigs ∧
    (s.setDrive d v).boughCycles = s.boughCycles ∧ (s.setDrive d v).heart = s.heart ∧ (s.setDrive d v).camb = s.camb ∧
    (s.setDrive d v).sapw = s.sapw ∧ (s.setDrive d v).groves = s.groves ∧ (s.setDrive d v).asmNext = s.asmNext ∧
    (s.setDrive d v).pieces = s.pieces ∧ (s.setDrive d v).nextPiece = s.nextPiece ∧ (s.setDrive d v).crown = s.crown ∧
    (s.setDrive d v).bark = s.bark ∧ (s.setDrive d v).canopy = s.canopy ∧ (s.setDrive d v).ports = s.ports ∧
    (s.setDrive d v).mmac = s.mmac ∧ (s.setDrive d v).time = s.time ∧ (s.setDrive d v).ring = s.ring ∧
    (s.setDrive d v).pith = s.pith ∧ (s.setDrive d v).sap = s.sap ∧ (s.setDrive d v).seed = s.seed ∧
    (s.setDrive d v).evt = s.evt ∧ (s.setDrive d v).alertFixed = s.alertFixed ∧ (s.setDrive d v).tally = s.tally ∧
    (s.setDrive d v).dram = s.dram ∧ (s.setDrive d v).links = s.links ∧ (s.setDrive d v).linkAt = s.linkAt ∧
    (s.setDrive d v).bistDone = s.bistDone ∧ (s.setDrive d v).bistPass = s.bistPass ∧
    (s.setDrive d v).sideband = s.sideband ∧ (s.setDrive d v).media = s.media ∧ (s.setDrive d v).aerDue = s.aerDue ∧
    (s.setDrive d v).fresh = s.fresh ∧ (s.setDrive d v).readData = s.readData ∧ (s.setDrive d v).out = s.out ∧
    (s.setDrive d v).ra = s.ra ∧ (s.setDrive d v).pending = s.pending := by
  and_intros <;> rfl

@[simp] theorem State.setPort_frame (s : State) (p : Nat) (v : Port) :
    (s.setPort p v).now = s.now ∧ (s.setPort p v).regs = s.regs ∧ (s.setPort p v).xylem = s.xylem ∧
    (s.setPort p v).bud = s.bud ∧ (s.setPort p v).knot = s.knot ∧ (s.setPort p v).twigs = s.twigs ∧
    (s.setPort p v).boughCycles = s.boughCycles ∧ (s.setPort p v).heart = s.heart ∧ (s.setPort p v).camb = s.camb ∧
    (s.setPort p v).sapw = s.sapw ∧ (s.setPort p v).groves = s.groves ∧ (s.setPort p v).asmNext = s.asmNext ∧
    (s.setPort p v).pieces = s.pieces ∧ (s.setPort p v).nextPiece = s.nextPiece ∧ (s.setPort p v).drives = s.drives ∧
    (s.setPort p v).crown = s.crown ∧ (s.setPort p v).bark = s.bark ∧ (s.setPort p v).canopy = s.canopy ∧
    (s.setPort p v).mmac = s.mmac ∧ (s.setPort p v).time = s.time ∧ (s.setPort p v).ring = s.ring ∧
    (s.setPort p v).pith = s.pith ∧ (s.setPort p v).sap = s.sap ∧ (s.setPort p v).seed = s.seed ∧
    (s.setPort p v).evt = s.evt ∧ (s.setPort p v).alertFixed = s.alertFixed ∧ (s.setPort p v).tally = s.tally ∧
    (s.setPort p v).dram = s.dram ∧ (s.setPort p v).links = s.links ∧ (s.setPort p v).linkAt = s.linkAt ∧
    (s.setPort p v).bistDone = s.bistDone ∧ (s.setPort p v).bistPass = s.bistPass ∧
    (s.setPort p v).sideband = s.sideband ∧ (s.setPort p v).media = s.media ∧ (s.setPort p v).aerDue = s.aerDue ∧
    (s.setPort p v).fresh = s.fresh ∧ (s.setPort p v).readData = s.readData ∧ (s.setPort p v).out = s.out ∧
    (s.setPort p v).ra = s.ra ∧ (s.setPort p v).pending = s.pending := by
  and_intros <;> rfl

@[simp] theorem State.setGrove_frame (s : State) (g : Nat) (v : Grove) :
    (s.setGrove g v).now = s.now ∧ (s.setGrove g v).regs = s.regs ∧ (s.setGrove g v).xylem = s.xylem ∧
    (s.setGrove g v).bud = s.bud ∧ (s.setGrove g v).knot = s.knot ∧ (s.setGrove g v).twigs = s.twigs ∧
    (s.setGrove g v).boughCycles = s.boughCycles ∧ (s.setGrove g v).heart = s.heart ∧ (s.setGrove g v).camb = s.camb ∧
    (s.setGrove g v).sapw = s.sapw ∧ (s.setGrove g v).asmNext = s.asmNext ∧ (s.setGrove g v).pieces = s.pieces ∧
    (s.setGrove g v).nextPiece = s.nextPiece ∧ (s.setGrove g v).drives = s.drives ∧ (s.setGrove g v).crown = s.crown ∧
    (s.setGrove g v).bark = s.bark ∧ (s.setGrove g v).canopy = s.canopy ∧ (s.setGrove g v).ports = s.ports ∧
    (s.setGrove g v).mmac = s.mmac ∧ (s.setGrove g v).time = s.time ∧ (s.setGrove g v).ring = s.ring ∧
    (s.setGrove g v).pith = s.pith ∧ (s.setGrove g v).sap = s.sap ∧ (s.setGrove g v).seed = s.seed ∧
    (s.setGrove g v).evt = s.evt ∧ (s.setGrove g v).alertFixed = s.alertFixed ∧ (s.setGrove g v).tally = s.tally ∧
    (s.setGrove g v).dram = s.dram ∧ (s.setGrove g v).links = s.links ∧ (s.setGrove g v).linkAt = s.linkAt ∧
    (s.setGrove g v).bistDone = s.bistDone ∧ (s.setGrove g v).bistPass = s.bistPass ∧
    (s.setGrove g v).sideband = s.sideband ∧ (s.setGrove g v).media = s.media ∧ (s.setGrove g v).aerDue = s.aerDue ∧
    (s.setGrove g v).fresh = s.fresh ∧ (s.setGrove g v).readData = s.readData ∧ (s.setGrove g v).out = s.out ∧
    (s.setGrove g v).ra = s.ra ∧ (s.setGrove g v).pending = s.pending := by
  and_intros <;> rfl

@[simp] theorem State.modGrove_frame (s : State) (g : Nat) (f : Grove → Grove) :
    (s.modGrove g f).now = s.now ∧ (s.modGrove g f).regs = s.regs ∧ (s.modGrove g f).xylem = s.xylem ∧
    (s.modGrove g f).bud = s.bud ∧ (s.modGrove g f).knot = s.knot ∧ (s.modGrove g f).twigs = s.twigs ∧
    (s.modGrove g f).boughCycles = s.boughCycles ∧ (s.modGrove g f).heart = s.heart ∧ (s.modGrove g f).camb = s.camb ∧
    (s.modGrove g f).sapw = s.sapw ∧ (s.modGrove g f).asmNext = s.asmNext ∧ (s.modGrove g f).pieces = s.pieces ∧
    (s.modGrove g f).nextPiece = s.nextPiece ∧ (s.modGrove g f).drives = s.drives ∧ (s.modGrove g f).crown = s.crown ∧
    (s.modGrove g f).bark = s.bark ∧ (s.modGrove g f).canopy = s.canopy ∧ (s.modGrove g f).ports = s.ports ∧
    (s.modGrove g f).mmac = s.mmac ∧ (s.modGrove g f).time = s.time ∧ (s.modGrove g f).ring = s.ring ∧
    (s.modGrove g f).pith = s.pith ∧ (s.modGrove g f).sap = s.sap ∧ (s.modGrove g f).seed = s.seed ∧
    (s.modGrove g f).evt = s.evt ∧ (s.modGrove g f).alertFixed = s.alertFixed ∧ (s.modGrove g f).tally = s.tally ∧
    (s.modGrove g f).dram = s.dram ∧ (s.modGrove g f).links = s.links ∧ (s.modGrove g f).linkAt = s.linkAt ∧
    (s.modGrove g f).bistDone = s.bistDone ∧ (s.modGrove g f).bistPass = s.bistPass ∧
    (s.modGrove g f).sideband = s.sideband ∧ (s.modGrove g f).media = s.media ∧ (s.modGrove g f).aerDue = s.aerDue ∧
    (s.modGrove g f).fresh = s.fresh ∧ (s.modGrove g f).readData = s.readData ∧ (s.modGrove g f).out = s.out ∧
    (s.modGrove g f).ra = s.ra ∧ (s.modGrove g f).pending = s.pending := by
  and_intros <;> rfl

@[simp] theorem State.setSess_frame (s : State) (i : Nat) (v : Session) :
    (s.setSess i v).now = s.now ∧ (s.setSess i v).regs = s.regs ∧ (s.setSess i v).xylem = s.xylem ∧
    (s.setSess i v).knot = s.knot ∧ (s.setSess i v).twigs = s.twigs ∧ (s.setSess i v).boughCycles = s.boughCycles ∧
    (s.setSess i v).heart = s.heart ∧ (s.setSess i v).camb = s.camb ∧ (s.setSess i v).sapw = s.sapw ∧
    (s.setSess i v).groves = s.groves ∧ (s.setSess i v).asmNext = s.asmNext ∧ (s.setSess i v).pieces = s.pieces ∧
    (s.setSess i v).nextPiece = s.nextPiece ∧ (s.setSess i v).drives = s.drives ∧ (s.setSess i v).crown = s.crown ∧
    (s.setSess i v).bark = s.bark ∧ (s.setSess i v).canopy = s.canopy ∧ (s.setSess i v).ports = s.ports ∧
    (s.setSess i v).mmac = s.mmac ∧ (s.setSess i v).time = s.time ∧ (s.setSess i v).ring = s.ring ∧
    (s.setSess i v).pith = s.pith ∧ (s.setSess i v).sap = s.sap ∧ (s.setSess i v).seed = s.seed ∧
    (s.setSess i v).evt = s.evt ∧ (s.setSess i v).alertFixed = s.alertFixed ∧ (s.setSess i v).tally = s.tally ∧
    (s.setSess i v).dram = s.dram ∧ (s.setSess i v).links = s.links ∧ (s.setSess i v).linkAt = s.linkAt ∧
    (s.setSess i v).bistDone = s.bistDone ∧ (s.setSess i v).bistPass = s.bistPass ∧
    (s.setSess i v).sideband = s.sideband ∧ (s.setSess i v).media = s.media ∧ (s.setSess i v).aerDue = s.aerDue ∧
    (s.setSess i v).fresh = s.fresh ∧ (s.setSess i v).readData = s.readData ∧ (s.setSess i v).out = s.out ∧
    (s.setSess i v).ra = s.ra ∧ (s.setSess i v).pending = s.pending := by
  and_intros <;> rfl

@[simp] theorem State.modSess_frame (s : State) (i : Nat) (f : Session → Session) :
    (s.modSess i f).now = s.now ∧ (s.modSess i f).regs = s.regs ∧ (s.modSess i f).xylem = s.xylem ∧
    (s.modSess i f).knot = s.knot ∧ (s.modSess i f).twigs = s.twigs ∧ (s.modSess i f).boughCycles = s.boughCycles ∧
    (s.modSess i f).heart = s.heart ∧ (s.modSess i f).camb = s.camb ∧ (s.modSess i f).sapw = s.sapw ∧
    (s.modSess i f).groves = s.groves ∧ (s.modSess i f).asmNext = s.asmNext ∧ (s.modSess i f).pieces = s.pieces ∧
    (s.modSess i f).nextPiece = s.nextPiece ∧ (s.modSess i f).drives = s.drives ∧ (s.modSess i f).crown = s.crown ∧
    (s.modSess i f).bark = s.bark ∧ (s.modSess i f).canopy = s.canopy ∧ (s.modSess i f).ports = s.ports ∧
    (s.modSess i f).mmac = s.mmac ∧ (s.modSess i f).time = s.time ∧ (s.modSess i f).ring = s.ring ∧
    (s.modSess i f).pith = s.pith ∧ (s.modSess i f).sap = s.sap ∧ (s.modSess i f).seed = s.seed ∧
    (s.modSess i f).evt = s.evt ∧ (s.modSess i f).alertFixed = s.alertFixed ∧ (s.modSess i f).tally = s.tally ∧
    (s.modSess i f).dram = s.dram ∧ (s.modSess i f).links = s.links ∧ (s.modSess i f).linkAt = s.linkAt ∧
    (s.modSess i f).bistDone = s.bistDone ∧ (s.modSess i f).bistPass = s.bistPass ∧
    (s.modSess i f).sideband = s.sideband ∧ (s.modSess i f).media = s.media ∧ (s.modSess i f).aerDue = s.aerDue ∧
    (s.modSess i f).fresh = s.fresh ∧ (s.modSess i f).readData = s.readData ∧ (s.modSess i f).out = s.out ∧
    (s.modSess i f).ra = s.ra ∧ (s.modSess i f).pending = s.pending := by
  and_intros <;> rfl

@[simp] theorem State.setQp_frame (s : State) (q : Nat) (v : Qp) :
    (s.setQp q v).now = s.now ∧ (s.setQp q v).regs = s.regs ∧ (s.setQp q v).xylem = s.xylem ∧
    (s.setQp q v).knot = s.knot ∧ (s.setQp q v).twigs = s.twigs ∧ (s.setQp q v).boughCycles = s.boughCycles ∧
    (s.setQp q v).heart = s.heart ∧ (s.setQp q v).camb = s.camb ∧ (s.setQp q v).sapw = s.sapw ∧
    (s.setQp q v).groves = s.groves ∧ (s.setQp q v).asmNext = s.asmNext ∧ (s.setQp q v).pieces = s.pieces ∧
    (s.setQp q v).nextPiece = s.nextPiece ∧ (s.setQp q v).drives = s.drives ∧ (s.setQp q v).crown = s.crown ∧
    (s.setQp q v).bark = s.bark ∧ (s.setQp q v).canopy = s.canopy ∧ (s.setQp q v).ports = s.ports ∧
    (s.setQp q v).mmac = s.mmac ∧ (s.setQp q v).time = s.time ∧ (s.setQp q v).ring = s.ring ∧
    (s.setQp q v).pith = s.pith ∧ (s.setQp q v).sap = s.sap ∧ (s.setQp q v).seed = s.seed ∧ (s.setQp q v).evt = s.evt ∧
    (s.setQp q v).alertFixed = s.alertFixed ∧ (s.setQp q v).tally = s.tally ∧ (s.setQp q v).dram = s.dram ∧
    (s.setQp q v).links = s.links ∧ (s.setQp q v).linkAt = s.linkAt ∧ (s.setQp q v).bistDone = s.bistDone ∧
    (s.setQp q v).bistPass = s.bistPass ∧ (s.setQp q v).sideband = s.sideband ∧ (s.setQp q v).media = s.media ∧
    (s.setQp q v).aerDue = s.aerDue ∧ (s.setQp q v).fresh = s.fresh ∧ (s.setQp q v).readData = s.readData ∧
    (s.setQp q v).out = s.out ∧ (s.setQp q v).ra = s.ra ∧ (s.setQp q v).pending = s.pending := by
  and_intros <;> rfl

@[simp] theorem State.modQp_frame (s : State) (q : Nat) (f : Qp → Qp) :
    (s.modQp q f).now = s.now ∧ (s.modQp q f).regs = s.regs ∧ (s.modQp q f).xylem = s.xylem ∧
    (s.modQp q f).knot = s.knot ∧ (s.modQp q f).twigs = s.twigs ∧ (s.modQp q f).boughCycles = s.boughCycles ∧
    (s.modQp q f).heart = s.heart ∧ (s.modQp q f).camb = s.camb ∧ (s.modQp q f).sapw = s.sapw ∧
    (s.modQp q f).groves = s.groves ∧ (s.modQp q f).asmNext = s.asmNext ∧ (s.modQp q f).pieces = s.pieces ∧
    (s.modQp q f).nextPiece = s.nextPiece ∧ (s.modQp q f).drives = s.drives ∧ (s.modQp q f).crown = s.crown ∧
    (s.modQp q f).bark = s.bark ∧ (s.modQp q f).canopy = s.canopy ∧ (s.modQp q f).ports = s.ports ∧
    (s.modQp q f).mmac = s.mmac ∧ (s.modQp q f).time = s.time ∧ (s.modQp q f).ring = s.ring ∧
    (s.modQp q f).pith = s.pith ∧ (s.modQp q f).sap = s.sap ∧ (s.modQp q f).seed = s.seed ∧ (s.modQp q f).evt = s.evt ∧
    (s.modQp q f).alertFixed = s.alertFixed ∧ (s.modQp q f).tally = s.tally ∧ (s.modQp q f).dram = s.dram ∧
    (s.modQp q f).links = s.links ∧ (s.modQp q f).linkAt = s.linkAt ∧ (s.modQp q f).bistDone = s.bistDone ∧
    (s.modQp q f).bistPass = s.bistPass ∧ (s.modQp q f).sideband = s.sideband ∧ (s.modQp q f).media = s.media ∧
    (s.modQp q f).aerDue = s.aerDue ∧ (s.modQp q f).fresh = s.fresh ∧ (s.modQp q f).readData = s.readData ∧
    (s.modQp q f).out = s.out ∧ (s.modQp q f).ra = s.ra ∧ (s.modQp q f).pending = s.pending := by
  and_intros <;> rfl

@[simp] theorem State.setCmd_frame (s : State) (t : Nat) (c : Cmd) :
    (s.setCmd t c).now = s.now ∧ (s.setCmd t c).regs = s.regs ∧ (s.setCmd t c).xylem = s.xylem ∧
    (s.setCmd t c).knot = s.knot ∧ (s.setCmd t c).twigs = s.twigs ∧ (s.setCmd t c).boughCycles = s.boughCycles ∧
    (s.setCmd t c).heart = s.heart ∧ (s.setCmd t c).camb = s.camb ∧ (s.setCmd t c).sapw = s.sapw ∧
    (s.setCmd t c).groves = s.groves ∧ (s.setCmd t c).asmNext = s.asmNext ∧ (s.setCmd t c).pieces = s.pieces ∧
    (s.setCmd t c).nextPiece = s.nextPiece ∧ (s.setCmd t c).drives = s.drives ∧ (s.setCmd t c).crown = s.crown ∧
    (s.setCmd t c).bark = s.bark ∧ (s.setCmd t c).canopy = s.canopy ∧ (s.setCmd t c).ports = s.ports ∧
    (s.setCmd t c).mmac = s.mmac ∧ (s.setCmd t c).time = s.time ∧ (s.setCmd t c).ring = s.ring ∧
    (s.setCmd t c).pith = s.pith ∧ (s.setCmd t c).sap = s.sap ∧ (s.setCmd t c).seed = s.seed ∧
    (s.setCmd t c).evt = s.evt ∧ (s.setCmd t c).alertFixed = s.alertFixed ∧ (s.setCmd t c).tally = s.tally ∧
    (s.setCmd t c).dram = s.dram ∧ (s.setCmd t c).links = s.links ∧ (s.setCmd t c).linkAt = s.linkAt ∧
    (s.setCmd t c).bistDone = s.bistDone ∧ (s.setCmd t c).bistPass = s.bistPass ∧ (s.setCmd t c).sideband = s.sideband ∧
    (s.setCmd t c).media = s.media ∧ (s.setCmd t c).aerDue = s.aerDue ∧ (s.setCmd t c).fresh = s.fresh ∧
    (s.setCmd t c).readData = s.readData ∧ (s.setCmd t c).out = s.out ∧ (s.setCmd t c).ra = s.ra ∧
    (s.setCmd t c).pending = s.pending := by
  and_intros <;> rfl

@[simp] theorem State.modCmd_frame (s : State) (t : Nat) (f : Cmd → Cmd) :
    (s.modCmd t f).now = s.now ∧ (s.modCmd t f).regs = s.regs ∧ (s.modCmd t f).xylem = s.xylem ∧
    (s.modCmd t f).knot = s.knot ∧ (s.modCmd t f).twigs = s.twigs ∧ (s.modCmd t f).boughCycles = s.boughCycles ∧
    (s.modCmd t f).heart = s.heart ∧ (s.modCmd t f).camb = s.camb ∧ (s.modCmd t f).sapw = s.sapw ∧
    (s.modCmd t f).groves = s.groves ∧ (s.modCmd t f).asmNext = s.asmNext ∧ (s.modCmd t f).pieces = s.pieces ∧
    (s.modCmd t f).nextPiece = s.nextPiece ∧ (s.modCmd t f).drives = s.drives ∧ (s.modCmd t f).crown = s.crown ∧
    (s.modCmd t f).bark = s.bark ∧ (s.modCmd t f).canopy = s.canopy ∧ (s.modCmd t f).ports = s.ports ∧
    (s.modCmd t f).mmac = s.mmac ∧ (s.modCmd t f).time = s.time ∧ (s.modCmd t f).ring = s.ring ∧
    (s.modCmd t f).pith = s.pith ∧ (s.modCmd t f).sap = s.sap ∧ (s.modCmd t f).seed = s.seed ∧
    (s.modCmd t f).evt = s.evt ∧ (s.modCmd t f).alertFixed = s.alertFixed ∧ (s.modCmd t f).tally = s.tally ∧
    (s.modCmd t f).dram = s.dram ∧ (s.modCmd t f).links = s.links ∧ (s.modCmd t f).linkAt = s.linkAt ∧
    (s.modCmd t f).bistDone = s.bistDone ∧ (s.modCmd t f).bistPass = s.bistPass ∧ (s.modCmd t f).sideband = s.sideband ∧
    (s.modCmd t f).media = s.media ∧ (s.modCmd t f).aerDue = s.aerDue ∧ (s.modCmd t f).fresh = s.fresh ∧
    (s.modCmd t f).readData = s.readData ∧ (s.modCmd t f).out = s.out ∧ (s.modCmd t f).ra = s.ra ∧
    (s.modCmd t f).pending = s.pending := by
  and_intros <;> rfl

@[simp] theorem State.setDesc_frame (s : State) (r : Nat) (d : Desc) :
    (s.setDesc r d).now = s.now ∧ (s.setDesc r d).regs = s.regs ∧ (s.setDesc r d).bud = s.bud ∧
    (s.setDesc r d).knot = s.knot ∧ (s.setDesc r d).twigs = s.twigs ∧ (s.setDesc r d).boughCycles = s.boughCycles ∧
    (s.setDesc r d).heart = s.heart ∧ (s.setDesc r d).camb = s.camb ∧ (s.setDesc r d).sapw = s.sapw ∧
    (s.setDesc r d).groves = s.groves ∧ (s.setDesc r d).asmNext = s.asmNext ∧ (s.setDesc r d).pieces = s.pieces ∧
    (s.setDesc r d).nextPiece = s.nextPiece ∧ (s.setDesc r d).drives = s.drives ∧ (s.setDesc r d).crown = s.crown ∧
    (s.setDesc r d).bark = s.bark ∧ (s.setDesc r d).canopy = s.canopy ∧ (s.setDesc r d).ports = s.ports ∧
    (s.setDesc r d).mmac = s.mmac ∧ (s.setDesc r d).time = s.time ∧ (s.setDesc r d).ring = s.ring ∧
    (s.setDesc r d).pith = s.pith ∧ (s.setDesc r d).sap = s.sap ∧ (s.setDesc r d).seed = s.seed ∧
    (s.setDesc r d).evt = s.evt ∧ (s.setDesc r d).alertFixed = s.alertFixed ∧ (s.setDesc r d).tally = s.tally ∧
    (s.setDesc r d).dram = s.dram ∧ (s.setDesc r d).links = s.links ∧ (s.setDesc r d).linkAt = s.linkAt ∧
    (s.setDesc r d).bistDone = s.bistDone ∧ (s.setDesc r d).bistPass = s.bistPass ∧
    (s.setDesc r d).sideband = s.sideband ∧ (s.setDesc r d).media = s.media ∧ (s.setDesc r d).aerDue = s.aerDue ∧
    (s.setDesc r d).fresh = s.fresh ∧ (s.setDesc r d).readData = s.readData ∧ (s.setDesc r d).out = s.out ∧
    (s.setDesc r d).ra = s.ra ∧ (s.setDesc r d).pending = s.pending := by
  and_intros <;> rfl

@[simp] theorem State.modDesc_frame (s : State) (r : Nat) (f : Desc → Desc) :
    (s.modDesc r f).now = s.now ∧ (s.modDesc r f).regs = s.regs ∧ (s.modDesc r f).bud = s.bud ∧
    (s.modDesc r f).knot = s.knot ∧ (s.modDesc r f).twigs = s.twigs ∧ (s.modDesc r f).boughCycles = s.boughCycles ∧
    (s.modDesc r f).heart = s.heart ∧ (s.modDesc r f).camb = s.camb ∧ (s.modDesc r f).sapw = s.sapw ∧
    (s.modDesc r f).groves = s.groves ∧ (s.modDesc r f).asmNext = s.asmNext ∧ (s.modDesc r f).pieces = s.pieces ∧
    (s.modDesc r f).nextPiece = s.nextPiece ∧ (s.modDesc r f).drives = s.drives ∧ (s.modDesc r f).crown = s.crown ∧
    (s.modDesc r f).bark = s.bark ∧ (s.modDesc r f).canopy = s.canopy ∧ (s.modDesc r f).ports = s.ports ∧
    (s.modDesc r f).mmac = s.mmac ∧ (s.modDesc r f).time = s.time ∧ (s.modDesc r f).ring = s.ring ∧
    (s.modDesc r f).pith = s.pith ∧ (s.modDesc r f).sap = s.sap ∧ (s.modDesc r f).seed = s.seed ∧
    (s.modDesc r f).evt = s.evt ∧ (s.modDesc r f).alertFixed = s.alertFixed ∧ (s.modDesc r f).tally = s.tally ∧
    (s.modDesc r f).dram = s.dram ∧ (s.modDesc r f).links = s.links ∧ (s.modDesc r f).linkAt = s.linkAt ∧
    (s.modDesc r f).bistDone = s.bistDone ∧ (s.modDesc r f).bistPass = s.bistPass ∧
    (s.modDesc r f).sideband = s.sideband ∧ (s.modDesc r f).media = s.media ∧ (s.modDesc r f).aerDue = s.aerDue ∧
    (s.modDesc r f).fresh = s.fresh ∧ (s.modDesc r f).readData = s.readData ∧ (s.modDesc r f).out = s.out ∧
    (s.modDesc r f).ra = s.ra ∧ (s.modDesc r f).pending = s.pending := by
  and_intros <;> rfl

@[simp] theorem State.setPiece_frame (s : State) (p : Nat) (v : Piece) :
    (s.setPiece p v).now = s.now ∧ (s.setPiece p v).regs = s.regs ∧ (s.setPiece p v).xylem = s.xylem ∧
    (s.setPiece p v).bud = s.bud ∧ (s.setPiece p v).knot = s.knot ∧ (s.setPiece p v).twigs = s.twigs ∧
    (s.setPiece p v).boughCycles = s.boughCycles ∧ (s.setPiece p v).heart = s.heart ∧ (s.setPiece p v).camb = s.camb ∧
    (s.setPiece p v).sapw = s.sapw ∧ (s.setPiece p v).groves = s.groves ∧ (s.setPiece p v).asmNext = s.asmNext ∧
    (s.setPiece p v).nextPiece = s.nextPiece ∧ (s.setPiece p v).drives = s.drives ∧ (s.setPiece p v).crown = s.crown ∧
    (s.setPiece p v).bark = s.bark ∧ (s.setPiece p v).canopy = s.canopy ∧ (s.setPiece p v).ports = s.ports ∧
    (s.setPiece p v).mmac = s.mmac ∧ (s.setPiece p v).time = s.time ∧ (s.setPiece p v).ring = s.ring ∧
    (s.setPiece p v).pith = s.pith ∧ (s.setPiece p v).sap = s.sap ∧ (s.setPiece p v).seed = s.seed ∧
    (s.setPiece p v).evt = s.evt ∧ (s.setPiece p v).alertFixed = s.alertFixed ∧ (s.setPiece p v).tally = s.tally ∧
    (s.setPiece p v).dram = s.dram ∧ (s.setPiece p v).links = s.links ∧ (s.setPiece p v).linkAt = s.linkAt ∧
    (s.setPiece p v).bistDone = s.bistDone ∧ (s.setPiece p v).bistPass = s.bistPass ∧
    (s.setPiece p v).sideband = s.sideband ∧ (s.setPiece p v).media = s.media ∧ (s.setPiece p v).aerDue = s.aerDue ∧
    (s.setPiece p v).fresh = s.fresh ∧ (s.setPiece p v).readData = s.readData ∧ (s.setPiece p v).out = s.out ∧
    (s.setPiece p v).ra = s.ra ∧ (s.setPiece p v).pending = s.pending := by
  and_intros <;> rfl

@[simp] theorem State.modPiece_frame (s : State) (p : Nat) (f : Piece → Piece) :
    (s.modPiece p f).now = s.now ∧ (s.modPiece p f).regs = s.regs ∧ (s.modPiece p f).xylem = s.xylem ∧
    (s.modPiece p f).bud = s.bud ∧ (s.modPiece p f).knot = s.knot ∧ (s.modPiece p f).twigs = s.twigs ∧
    (s.modPiece p f).boughCycles = s.boughCycles ∧ (s.modPiece p f).heart = s.heart ∧ (s.modPiece p f).camb = s.camb ∧
    (s.modPiece p f).sapw = s.sapw ∧ (s.modPiece p f).groves = s.groves ∧ (s.modPiece p f).asmNext = s.asmNext ∧
    (s.modPiece p f).nextPiece = s.nextPiece ∧ (s.modPiece p f).drives = s.drives ∧ (s.modPiece p f).crown = s.crown ∧
    (s.modPiece p f).bark = s.bark ∧ (s.modPiece p f).canopy = s.canopy ∧ (s.modPiece p f).ports = s.ports ∧
    (s.modPiece p f).mmac = s.mmac ∧ (s.modPiece p f).time = s.time ∧ (s.modPiece p f).ring = s.ring ∧
    (s.modPiece p f).pith = s.pith ∧ (s.modPiece p f).sap = s.sap ∧ (s.modPiece p f).seed = s.seed ∧
    (s.modPiece p f).evt = s.evt ∧ (s.modPiece p f).alertFixed = s.alertFixed ∧ (s.modPiece p f).tally = s.tally ∧
    (s.modPiece p f).dram = s.dram ∧ (s.modPiece p f).links = s.links ∧ (s.modPiece p f).linkAt = s.linkAt ∧
    (s.modPiece p f).bistDone = s.bistDone ∧ (s.modPiece p f).bistPass = s.bistPass ∧
    (s.modPiece p f).sideband = s.sideband ∧ (s.modPiece p f).media = s.media ∧ (s.modPiece p f).aerDue = s.aerDue ∧
    (s.modPiece p f).fresh = s.fresh ∧ (s.modPiece p f).readData = s.readData ∧ (s.modPiece p f).out = s.out ∧
    (s.modPiece p f).ra = s.ra ∧ (s.modPiece p f).pending = s.pending := by
  and_intros <;> rfl

@[simp] theorem State.setRes_frame (s : State) (r : Res) (x : ResSt) :
    (s.setRes r x).now = s.now ∧ (s.setRes r x).regs = s.regs ∧ (s.setRes r x).xylem = s.xylem ∧
    (s.setRes r x).bud = s.bud ∧ (s.setRes r x).knot = s.knot ∧ (s.setRes r x).twigs = s.twigs ∧
    (s.setRes r x).boughCycles = s.boughCycles ∧ (s.setRes r x).heart = s.heart ∧ (s.setRes r x).camb = s.camb ∧
    (s.setRes r x).sapw = s.sapw ∧ (s.setRes r x).groves = s.groves ∧ (s.setRes r x).asmNext = s.asmNext ∧
    (s.setRes r x).pieces = s.pieces ∧ (s.setRes r x).nextPiece = s.nextPiece ∧ (s.setRes r x).drives = s.drives ∧
    (s.setRes r x).crown = s.crown ∧ (s.setRes r x).bark = s.bark ∧ (s.setRes r x).canopy = s.canopy ∧
    (s.setRes r x).ports = s.ports ∧ (s.setRes r x).mmac = s.mmac ∧ (s.setRes r x).time = s.time ∧
    (s.setRes r x).ring = s.ring ∧ (s.setRes r x).pith = s.pith ∧ (s.setRes r x).seed = s.seed ∧
    (s.setRes r x).evt = s.evt ∧ (s.setRes r x).alertFixed = s.alertFixed ∧ (s.setRes r x).tally = s.tally ∧
    (s.setRes r x).dram = s.dram ∧ (s.setRes r x).links = s.links ∧ (s.setRes r x).linkAt = s.linkAt ∧
    (s.setRes r x).bistDone = s.bistDone ∧ (s.setRes r x).bistPass = s.bistPass ∧ (s.setRes r x).sideband = s.sideband ∧
    (s.setRes r x).media = s.media ∧ (s.setRes r x).aerDue = s.aerDue ∧ (s.setRes r x).fresh = s.fresh ∧
    (s.setRes r x).readData = s.readData ∧ (s.setRes r x).out = s.out ∧ (s.setRes r x).ra = s.ra ∧
    (s.setRes r x).pending = s.pending := by
  and_intros <;> rfl

@[simp] theorem State.setLink_frame (s : State) (l : Nat) (v : BitVec 2) :
    (s.setLink l v).now = s.now ∧ (s.setLink l v).regs = s.regs ∧ (s.setLink l v).xylem = s.xylem ∧
    (s.setLink l v).bud = s.bud ∧ (s.setLink l v).knot = s.knot ∧ (s.setLink l v).twigs = s.twigs ∧
    (s.setLink l v).boughCycles = s.boughCycles ∧ (s.setLink l v).heart = s.heart ∧ (s.setLink l v).camb = s.camb ∧
    (s.setLink l v).sapw = s.sapw ∧ (s.setLink l v).groves = s.groves ∧ (s.setLink l v).asmNext = s.asmNext ∧
    (s.setLink l v).pieces = s.pieces ∧ (s.setLink l v).nextPiece = s.nextPiece ∧ (s.setLink l v).drives = s.drives ∧
    (s.setLink l v).crown = s.crown ∧ (s.setLink l v).bark = s.bark ∧ (s.setLink l v).canopy = s.canopy ∧
    (s.setLink l v).ports = s.ports ∧ (s.setLink l v).mmac = s.mmac ∧ (s.setLink l v).time = s.time ∧
    (s.setLink l v).ring = s.ring ∧ (s.setLink l v).pith = s.pith ∧ (s.setLink l v).sap = s.sap ∧
    (s.setLink l v).seed = s.seed ∧ (s.setLink l v).evt = s.evt ∧ (s.setLink l v).alertFixed = s.alertFixed ∧
    (s.setLink l v).tally = s.tally ∧ (s.setLink l v).dram = s.dram ∧ (s.setLink l v).linkAt = s.linkAt ∧
    (s.setLink l v).bistDone = s.bistDone ∧ (s.setLink l v).bistPass = s.bistPass ∧
    (s.setLink l v).sideband = s.sideband ∧ (s.setLink l v).media = s.media ∧ (s.setLink l v).aerDue = s.aerDue ∧
    (s.setLink l v).fresh = s.fresh ∧ (s.setLink l v).readData = s.readData ∧ (s.setLink l v).out = s.out ∧
    (s.setLink l v).ra = s.ra ∧ (s.setLink l v).pending = s.pending := by
  and_intros <;> rfl

@[simp] theorem State.setQueue_frame (s : State) (q : Nat) (l : List QFrame) :
    (s.setQueue q l).now = s.now ∧ (s.setQueue q l).regs = s.regs ∧ (s.setQueue q l).xylem = s.xylem ∧
    (s.setQueue q l).bud = s.bud ∧ (s.setQueue q l).knot = s.knot ∧ (s.setQueue q l).twigs = s.twigs ∧
    (s.setQueue q l).boughCycles = s.boughCycles ∧ (s.setQueue q l).heart = s.heart ∧ (s.setQueue q l).camb = s.camb ∧
    (s.setQueue q l).sapw = s.sapw ∧ (s.setQueue q l).groves = s.groves ∧ (s.setQueue q l).asmNext = s.asmNext ∧
    (s.setQueue q l).pieces = s.pieces ∧ (s.setQueue q l).nextPiece = s.nextPiece ∧ (s.setQueue q l).drives = s.drives ∧
    (s.setQueue q l).bark = s.bark ∧ (s.setQueue q l).canopy = s.canopy ∧ (s.setQueue q l).ports = s.ports ∧
    (s.setQueue q l).mmac = s.mmac ∧ (s.setQueue q l).time = s.time ∧ (s.setQueue q l).ring = s.ring ∧
    (s.setQueue q l).pith = s.pith ∧ (s.setQueue q l).sap = s.sap ∧ (s.setQueue q l).seed = s.seed ∧
    (s.setQueue q l).evt = s.evt ∧ (s.setQueue q l).alertFixed = s.alertFixed ∧ (s.setQueue q l).tally = s.tally ∧
    (s.setQueue q l).dram = s.dram ∧ (s.setQueue q l).links = s.links ∧ (s.setQueue q l).linkAt = s.linkAt ∧
    (s.setQueue q l).bistDone = s.bistDone ∧ (s.setQueue q l).bistPass = s.bistPass ∧
    (s.setQueue q l).sideband = s.sideband ∧ (s.setQueue q l).media = s.media ∧ (s.setQueue q l).aerDue = s.aerDue ∧
    (s.setQueue q l).fresh = s.fresh ∧ (s.setQueue q l).readData = s.readData ∧ (s.setQueue q l).out = s.out ∧
    (s.setQueue q l).ra = s.ra ∧ (s.setQueue q l).pending = s.pending := by
  and_intros <;> rfl

@[simp] theorem State.fwdDone_frame (s : State) (r : Nat) :
    (s.fwdDone r).now = s.now ∧ (s.fwdDone r).regs = s.regs ∧ (s.fwdDone r).xylem = s.xylem ∧ (s.fwdDone r).bud = s.bud ∧
    (s.fwdDone r).knot = s.knot ∧ (s.fwdDone r).twigs = s.twigs ∧ (s.fwdDone r).boughCycles = s.boughCycles ∧
    (s.fwdDone r).heart = s.heart ∧ (s.fwdDone r).camb = s.camb ∧ (s.fwdDone r).sapw = s.sapw ∧
    (s.fwdDone r).groves = s.groves ∧ (s.fwdDone r).asmNext = s.asmNext ∧ (s.fwdDone r).pieces = s.pieces ∧
    (s.fwdDone r).nextPiece = s.nextPiece ∧ (s.fwdDone r).drives = s.drives ∧ (s.fwdDone r).bark = s.bark ∧
    (s.fwdDone r).canopy = s.canopy ∧ (s.fwdDone r).ports = s.ports ∧ (s.fwdDone r).mmac = s.mmac ∧
    (s.fwdDone r).time = s.time ∧ (s.fwdDone r).ring = s.ring ∧ (s.fwdDone r).pith = s.pith ∧ (s.fwdDone r).sap = s.sap ∧
    (s.fwdDone r).seed = s.seed ∧ (s.fwdDone r).evt = s.evt ∧ (s.fwdDone r).alertFixed = s.alertFixed ∧
    (s.fwdDone r).tally = s.tally ∧ (s.fwdDone r).dram = s.dram ∧ (s.fwdDone r).links = s.links ∧
    (s.fwdDone r).linkAt = s.linkAt ∧ (s.fwdDone r).bistDone = s.bistDone ∧ (s.fwdDone r).bistPass = s.bistPass ∧
    (s.fwdDone r).sideband = s.sideband ∧ (s.fwdDone r).media = s.media ∧ (s.fwdDone r).aerDue = s.aerDue ∧
    (s.fwdDone r).fresh = s.fresh ∧ (s.fwdDone r).readData = s.readData ∧ (s.fwdDone r).out = s.out ∧
    (s.fwdDone r).ra = s.ra ∧ (s.fwdDone r).pending = s.pending := by
  and_intros <;> rfl

@[simp] theorem State.count_frame (s : State) (b c k : Nat) :
    (s.count b c k).now = s.now ∧ (s.count b c k).regs = s.regs ∧ (s.count b c k).xylem = s.xylem ∧
    (s.count b c k).bud = s.bud ∧ (s.count b c k).knot = s.knot ∧ (s.count b c k).twigs = s.twigs ∧
    (s.count b c k).boughCycles = s.boughCycles ∧ (s.count b c k).heart = s.heart ∧ (s.count b c k).camb = s.camb ∧
    (s.count b c k).sapw = s.sapw ∧ (s.count b c k).groves = s.groves ∧ (s.count b c k).asmNext = s.asmNext ∧
    (s.count b c k).pieces = s.pieces ∧ (s.count b c k).nextPiece = s.nextPiece ∧ (s.count b c k).drives = s.drives ∧
    (s.count b c k).crown = s.crown ∧ (s.count b c k).bark = s.bark ∧ (s.count b c k).canopy = s.canopy ∧
    (s.count b c k).ports = s.ports ∧ (s.count b c k).mmac = s.mmac ∧ (s.count b c k).time = s.time ∧
    (s.count b c k).ring = s.ring ∧ (s.count b c k).pith = s.pith ∧ (s.count b c k).sap = s.sap ∧
    (s.count b c k).seed = s.seed ∧ (s.count b c k).evt = s.evt ∧ (s.count b c k).alertFixed = s.alertFixed ∧
    (s.count b c k).dram = s.dram ∧ (s.count b c k).links = s.links ∧ (s.count b c k).linkAt = s.linkAt ∧
    (s.count b c k).bistDone = s.bistDone ∧ (s.count b c k).bistPass = s.bistPass ∧
    (s.count b c k).sideband = s.sideband ∧ (s.count b c k).media = s.media ∧ (s.count b c k).aerDue = s.aerDue ∧
    (s.count b c k).fresh = s.fresh ∧ (s.count b c k).readData = s.readData ∧ (s.count b c k).out = s.out ∧
    (s.count b c k).ra = s.ra ∧ (s.count b c k).pending = s.pending := by
  and_intros <;> rfl

@[simp] theorem State.advance_frame (s : State) (d : Nat) :
    (s.advance d).regs = s.regs ∧ (s.advance d).xylem = s.xylem ∧ (s.advance d).bud = s.bud ∧
    (s.advance d).knot = s.knot ∧ (s.advance d).twigs = s.twigs ∧ (s.advance d).heart = s.heart ∧
    (s.advance d).camb = s.camb ∧ (s.advance d).sapw = s.sapw ∧ (s.advance d).groves = s.groves ∧
    (s.advance d).asmNext = s.asmNext ∧ (s.advance d).pieces = s.pieces ∧ (s.advance d).nextPiece = s.nextPiece ∧
    (s.advance d).drives = s.drives ∧ (s.advance d).crown = s.crown ∧ (s.advance d).bark = s.bark ∧
    (s.advance d).canopy = s.canopy ∧ (s.advance d).ports = s.ports ∧ (s.advance d).mmac = s.mmac ∧
    (s.advance d).ring = s.ring ∧ (s.advance d).pith = s.pith ∧ (s.advance d).seed = s.seed ∧ (s.advance d).evt = s.evt ∧
    (s.advance d).alertFixed = s.alertFixed ∧ (s.advance d).tally = s.tally ∧ (s.advance d).dram = s.dram ∧
    (s.advance d).links = s.links ∧ (s.advance d).linkAt = s.linkAt ∧ (s.advance d).bistDone = s.bistDone ∧
    (s.advance d).bistPass = s.bistPass ∧ (s.advance d).sideband = s.sideband ∧ (s.advance d).media = s.media ∧
    (s.advance d).aerDue = s.aerDue ∧ (s.advance d).fresh = s.fresh ∧ (s.advance d).readData = s.readData ∧
    (s.advance d).out = s.out ∧ (s.advance d).ra = s.ra ∧ (s.advance d).pending = s.pending := by
  and_intros <;> rfl

theorem State.until_eq (s : State) (t : Nat) : s.until t = s ∨ s.until t = s.advance (t - s.now) := by
  unfold State.until; split
  · exact .inr rfl
  · exact .inl rfl

theorem State.until_now (s : State) (t : Nat) : (s.until t).now = max s.now t := by
  unfold State.until State.advance; split
  · show s.now + (t - s.now) = max s.now t; omega
  · omega

theorem NMap.get?_modify {α : Type} (m : NMap α) (k j : Nat) (f : α → α) :
    NMap.get? (NMap.modify m k f) j = if j = k then (NMap.get? m j).map f else NMap.get? m j := by
  induction m with
  | nil => simp [NMap.modify, NMap.get?]
  | cons p t ih =>
    obtain ⟨i, w⟩ := p
    by_cases hk : i = k <;> by_cases hj : i = j
    · subst hk; subst hj; simp [NMap.modify, NMap.get?]
    · subst hk; simp [NMap.modify, NMap.get?, hj, Ne.symm hj]
    · subst hj; simp [NMap.modify, NMap.get?, hk]
    · simp [NMap.modify, NMap.get?, hk, hj, ih]

@[simp] theorem State.drive_setDrive (s : State) (d : Nat) (v : Drive) : (s.setDrive d v).drive d = v :=
  NMap.getD_set_same _ _ _ _

theorem State.drive_setDrive_other (s : State) (d e : Nat) (v : Drive) (h : e ≠ d) : (s.setDrive d v).drive e = s.drive e :=
  NMap.getD_set_other _ _ _ _ _ h

@[simp] theorem State.twig_setTwig (s : State) (e : Nat) (v : Twig) : (s.setTwig e v).twig e = v :=
  NMap.getD_set_same _ _ _ _

theorem State.twig_setTwig_other (s : State) (e j : Nat) (v : Twig) (h : j ≠ e) : (s.setTwig e v).twig j = s.twig j :=
  NMap.getD_set_other _ _ _ _ _ h

@[simp] theorem State.port_setPort (s : State) (p : Nat) (v : Port) : (s.setPort p v).port p = v :=
  NMap.getD_set_same _ _ _ _

theorem State.port_setPort_other (s : State) (p q : Nat) (v : Port) (h : q ≠ p) : (s.setPort p v).port q = s.port q :=
  NMap.getD_set_other _ _ _ _ _ h

@[simp] theorem State.grove?_setGrove (s : State) (g : Nat) (v : Grove) : (s.setGrove g v).grove? g = some v :=
  NMap.get?_set_same _ _ _

theorem State.grove?_modGrove (s : State) (g j : Nat) (f : Grove → Grove) :
    (s.modGrove g f).grove? j = if j = g then (s.grove? j).map f else s.grove? j := NMap.get?_modify _ _ _ _

@[simp] theorem State.sess?_setSess (s : State) (i : Nat) (v : Session) : (s.setSess i v).sess? i = some v :=
  NMap.get?_set_same _ _ _

theorem State.sess?_modSess (s : State) (i j : Nat) (f : Session → Session) :
    (s.modSess i f).sess? j = if j = i then (s.sess? j).map f else s.sess? j := NMap.get?_modify _ _ _ _

@[simp] theorem State.qp?_setQp (s : State) (q : Nat) (v : Qp) : (s.setQp q v).qp? q = some v :=
  NMap.get?_set_same _ _ _

theorem State.qp?_modQp (s : State) (q j : Nat) (f : Qp → Qp) :
    (s.modQp q f).qp? j = if j = q then (s.qp? j).map f else s.qp? j := NMap.get?_modify _ _ _ _

@[simp] theorem State.cmd?_setCmd (s : State) (t : Nat) (c : Cmd) : (s.setCmd t c).cmd? t = some c :=
  NMap.get?_set_same _ _ _

theorem State.cmd?_modCmd (s : State) (t j : Nat) (f : Cmd → Cmd) :
    (s.modCmd t f).cmd? j = if j = t then (s.cmd? j).map f else s.cmd? j := NMap.get?_modify _ _ _ _

@[simp] theorem State.desc?_setDesc (s : State) (r : Nat) (d : Desc) : (s.setDesc r d).desc? r = some d :=
  NMap.get?_set_same _ _ _

theorem State.desc?_modDesc (s : State) (r j : Nat) (f : Desc → Desc) :
    (s.modDesc r f).desc? j = if j = r then (s.desc? j).map f else s.desc? j := NMap.get?_modify _ _ _ _

theorem State.piece?_modPiece (s : State) (p j : Nat) (f : Piece → Piece) :
    (State.modPiece p f s).piece? j = if j = p then (s.piece? j).map f else s.piece? j := NMap.get?_modify _ _ _ _

end Sys2Proof.Machine
end

