-- ==== Sys2Proof/Laws/Ops.lean ====
section
/-!
SUPPORT. One lemma for each shared way a command ends: served admin commands, register writes,
commits and reads.
-/

namespace Sys2Proof.Machine

theorem runs_of_exec {c : Instr} {s t : State} {P : State → Prop} (h : exec c s = .next t) (hp : P t) : Runs c s P :=
  ⟨t, h, hp⟩

theorem State.serveAdmin_served {s : State} {tag opc : Nat} {sub : Cmd → Bool} {f : Cmd → State → State} {c : Cmd}
    (h : s.adminAt tag opc = some c) (hs : sub c = true) : s.serveAdmin tag opc sub f = .next ((f c s).done s) := by
  simp [State.serveAdmin, h, act, hs]

theorem State.serveAdmin_absent {s : State} {tag opc : Nat} {sub : Cmd → Bool} {f : Cmd → State → State}
    (h : s.adminAt tag opc = none) : s.serveAdmin tag opc sub f = .next s := by simp [State.serveAdmin, h, act]

theorem State.serveAdminR_served {s : State} {tag opc : Nat} {way : Cmd → Bool} {r : Cmd → Regs} {f : Cmd → State → State} {c : Cmd}
    (h : s.adminAt tag opc = some c) (hw : way c = true) :
    s.serveAdminR tag opc way r f = .next ((f c s).endWith (r c) s) := by
  simp [State.serveAdminR, h, hw, actR]

theorem State.doWrite_open {s : State} {ok : Bool} {path : Path} {a : Nat} (ha : s.alive = true)
    (hb : s.bridges path a = true) (hk : ok = true) (data mask : W32) :
    s.doWrite ok path a data mask = .next ((s.write1 path a data mask).endWith (s.newRegs path a data mask) s) := by
  simp [State.doWrite, actR, ha, hb, hk]

theorem State.doRead_open {s : State} {ok : Bool} {a : Nat} (ha : s.alive = true) (hb : s.bridges .pith a = true)
    (hk : ok = true) :
    s.doRead ok a = .next (({ s.read1 a with readData := s.readVal .pith a } : State).endWith (s.readRegs a) s) := by
  simp [State.doRead, actR, ha, hb, hk]

end Sys2Proof.Machine
end

