-- ==== Sys2Proof/Laws/PerInstr.lean ====
section
/-!
SUPPORT. Statements made command by command, about the command as syntax.

`Range`: a command is well formed just where each operand that names a part of the block lies below the number of those
parts, and each list of one entry per part has as many entries as there are parts.
-/

namespace Sys2Proof.Laws.Range
open Sys2Proof

-- One theorem at a time: they all wait for the equations of `Instr.wf`.
set_option Elab.async false

/-- A resource's index and the number of such resources. -/
def resIndices : Res → List (Nat × Nat)
  | .engines => []
  | .port p => [(p, 10)]
  | .drive d => [(d, 24)]

/-- The Bough of a PCIe reference. -/
def refIndices : RefIn → List (Nat × Nat)
  | .pcie b => [(b, 4)]
  | _ => []

/-- The operands of a command that name a part of the block, each with the number of such parts; a list that has one entry
per part gives its length from both sides. -/
def indices : Instr → List (Nat × Nat)
  | .frameReceive point _ => [(point, 36)]
  | .pauseFrameReceive point _ => [(point, 35)]
  | .barkHoldRelease port => [(port, 11)]
  | .doorbellReceive port => [(port, 11)]
  | .ackReceive port => [(port, 11)]
  | .nakReceive port => [(port, 11)]
  | .readRespReceive port => [(port, 11)]
  | .unsupportedPacketReceive port => [(port, 11)]
  | .heartbeatReceive _ _ _ => []
  | .commandPlace _ => []
  | .fetch qpid => [(qpid, 16384)]
  | .shadowPoll qpid => [(qpid, 16384)]
  | .retransmitTimeout _ => []
  | .requestRetryExhausted _ => []
  | .ackDelayExpiry _ => []
  | .rateUpdate => []
  | .pacedRelease _ => []
  | .quietExpiry _ => []
  | .notifyCoalExpiry qpid => [(qpid, 16384)]
  | .xylemStartWaitEnd => []
  | .queuePairDisableDone qpid => [(qpid, 16384)]
  | .sessionResetSettle sid => [(sid, 4096)]
  | .keepaliveExpiry sid => [(sid, 4096)]
  | .sessionOpOpen => []
  | .sessionOpClose => []
  | .sessionOpReset => []
  | .getLogPage _ => []
  | .identify _ => []
  | .abort _ => []
  | .setFeatures _ => []
  | .getFeatures _ => []
  | .asynchronousEventRequest _ => []
  | .namespaceCreate _ _ => []
  | .namespaceDelete _ => []
  | .namespaceDeleteRecord nsid => [(0, nsid), (nsid, 4097)]
  | .namespaceAttach _ _ => []
  | .namespaceDetach _ _ => []
  | .firmwareImageDownload _ _ => []
  | .firmwareCommitWrite _ => []
  | .firmwareCommitWriteMark _ => []
  | .firmwareCommitMark _ => []
  | .firmwareActivate _ => []
  | .keepAlive _ => []
  | .sessionOpen _ => []
  | .sessionClose _ => []
  | .sessionReset _ => []
  | .sessionQuery _ => []
  | .registerRead _ => []
  | .registerWrite _ _ => []
  | .saveConfiguration _ => []
  | .groveCreate _ => []
  | .groveDelete _ => []
  | .addSpares _ => []
  | .removeSpares _ => []
  | .releaseNamespaces _ => []
  | .rebuildNow _ => []
  | .pauseRebuild _ => []
  | .resumeRebuild _ => []
  | .failMember _ => []
  | .verify _ => []
  | .keyLoad _ _ => []
  | .keyLoadAndSelect _ _ => []
  | .keySelect _ => []
  | .keyClear _ => []
  | .flush _ => []
  | .write _ => []
  | .read _ => []
  | .compare _ => []
  | .writeZeroes _ => []
  | .datasetManagement _ => []
  | .translationDone _ => []
  | .stealAttempt engine => [(engine, 64)]
  | .journalRecordDurable => []
  | .cambiumCompact => []
  | .pageWriteback _ => []
  | .stripeOpen grove _ => [(grove, 4)]
  | .stripeIdleClose grove _ => [(grove, 4)]
  | .driveCommandComplete drive _ _ => [(drive, 24)]
  | .prunerVictimSelect grove => [(grove, 4)]
  | .segmentFree grove _ => [(grove, 4)]
  | .memberFail grove _ => [(grove, 4)]
  | .rebuildSegmentDone grove => [(grove, 4)]
  | .resyncStripe grove _ => [(grove, 4)]
  | .shootLingerExpiry _ => []
  | .egressSelect point => [(point, 40)]
  | .crownScrub => []
  | .learnedEntryAgeOut _ => []
  | .fwdEntryRead => []
  | .fwdEntryWrite => []
  | .fwdEntryDelete => []
  | .pathRecordWrite => []
  | .linkUp point => [(point, 34)]
  | .linkDown point _ => [(point, 34)]
  | .portClassWrite point _ => [(point, 35)]
  | .indicationRead point => [(point, 35)]
  | .timebaseSet => []
  | .timebaseStep => []
  | .ppsInCapture => []
  | .ppsOutPulse => []
  | .txtsRead => []
  | .gateEntryAdvance point => [(point, 34)]
  | .gateListSwap point => [(point, 34)]
  | .mdioStart => []
  | .mdioDone _ => []
  | .phyAutoPoll _ _ _ _ _ => []
  | .mgmtCollision _ => []
  | .mgmtBackoffExpiry => []
  | .shaperRead => []
  | .shaperWrite => []
  | .heartbeatSend => []
  | .neighbourLost _ => []
  | .ringJoinWrite _ _ => []
  | .bypassSettled => []
  | .passThroughLock => []
  | .lockstepMismatch _ _ => []
  | .watchdogExpiry _ => []
  | .watchdogKick => []
  | .pithCheckpoint => []
  | .takeover => []
  | .rehearse _ => []
  | .rearm _ => []
  | .standbyWakeDone _ => []
  | .standbyBootDone _ => []
  | .standbyRestoreDone => []
  | .takeoverTimeout => []
  | .boughVacated bough => [(bough, 4)]
  | .reloadAbort bough => [(bough, 4)]
  | .reloadRetry bough => [(bough, 4)]
  | .microcodeLoaded bough => [(bough, 4)]
  | .drivePresent drive => [(drive, 24)]
  | .debounceExpiry drive => [(drive, 24)]
  | .powerDelayExpiry drive => [(drive, 24)]
  | .linkTrained drive _ _ => [(drive, 24)]
  | .linkTrainTimeout drive => [(drive, 24)]
  | .configWaitExpiry drive => [(drive, 24)]
  | .driveInitDone drive _ => [(drive, 24)]
  | .driveInitTimeout drive => [(drive, 24)]
  | .surpriseRemoval drive => [(drive, 24)]
  | .drivePowerOff drive _ => [(drive, 24)]
  | .rootletDisable drive => [(drive, 24)]
  | .rootletEnable drive => [(drive, 24)]
  | .aerCorrectable drive => [(drive, 24)]
  | .aerNonfatal drive _ => [(drive, 24)]
  | .aerFatal drive => [(drive, 24)]
  | .inboundViolation drive _ _ _ => [(drive, 24)]
  | .containmentRelease drive => [(drive, 24)]
  | .driveCommandTimeout drive _ => [(drive, 24)]
  | .abortWaitExpiry drive _ => [(drive, 24)]
  | .controllerResetDone drive _ => [(drive, 24)]
  | .sapIdleExpiry res sp => (sp, 4) :: resIndices res
  | .sapStateExit res => resIndices res
  | .resourcePin _ _ => []
  | .droopTrip die => [(die, 6)]
  | .droopRelease die => [(die, 6)]
  | .thermalSample temps => [(temps.length, 7), (5, temps.length)]
  | .throttleStep die => [(die, 6)]
  | .pwrfailAssert => []
  | .railUndervoltage => []
  | .flushStopDone => []
  | .vaultWriteDone => []
  | .flushSealDone => []
  | .sapRestart _ _ _ => []
  | .referenceLoss ref => refIndices ref
  | .resetAssert => []
  | .resetRelease _ _ _ => []
  | .pllLocked => []
  | .selftestDone pass links => [(pass.length, 7), (5, pass.length), (links.length, 13), (11, links.length)]
  | .imageChecked => []
  | .dramTrained _ => []
  | .drivesSettled _ _ => []
  | .driveWaitExpiry => []
  | .restoreDone => []
  | .waitRecordTimeout => []
  | .startDone => []
  | .seedRestart _ _ _ => []
  | .recoveryErase => []
  | .recoveryProgram => []
  | .recoveryCheck => []
  | .recoverySetNext => []
  | .recoveryProvision => []
  | .recoveryRestart _ _ _ => []
  | .flashOpDone _ => []
  | .flashWriteDone _ => []
  | .dlinkRetrain link => [(link, 12)]
  | .dlinkRetrainDone link _ => [(link, 12)]
  | .dlinkDown link => [(link, 12)]
  | .registerAccessFrame _ _ _ _ => []
  | .registerFieldWrite _ _ _ _ => []
  | .commitApply _ bit => [(bit, 32)]
  | .xylemCommitTimer => []
  | .xylemCommitRate => []
  | .budCommitFetch => []
  | .knotCommitLimits => []
  | .twigCommitSteal engine => [(engine, 64)]
  | .heartwoodCommitWb => []
  | .cambiumCommitWater => []
  | .groveCommitLag => []
  | .groveCommitAssy => []
  | .sapwoodCommitWater => []
  | .prunerCommitThresh => []
  | .coppiceCommitLimits => []
  | .crownCommitBuf => []
  | .crownCommitEcn => []
  | .fmacCommitGate port sub => [(port, 10), (sub, 4)]
  | .canopyCommitSch => []
  | .canopyCommitPolice => []
  | .rootletCommitIo drive => [(drive, 24)]
  | .sapCommitPolicy => []
  | .sapCommitSafety => []
  | .tallyCommitFilter => []
  | .tallyCommitSample => []
  | .eventPendClear group _ => [(group, 64)]
  | .hostEventGapExpiry sid source => [(sid, 4096), (source, 4096)]
  | .tallySweep => []
  | .engineCounterWrap engine n => [(engine, 64), (n, 6)]
  | .engineCounterClear n => [(n, 6)]
  | .ringDataRead => []
  | .latchedPairRead _ => []
  | .dramError _ _ _ _ _ => []
  | .sidebandRead => []
  | .sidebandOffsetWrite _ => []
  | .sidebandAddressAssign _ => []
  | .rehearsalBeginDelayExpiry => []
  | .linkEqualizationFail drive => [(drive, 24)]
  | .rootletDisableWaitExpiry drive => [(drive, 24)]
  | .powerStateExitDone res => resIndices res
  | .pwrfailDeassert => []
  | .carrierSenseDeassert _ => []
  | .phyResetRelease => []
  | .scrubPassDone => []

/-- A command is well formed just where its indices are in range. -/
def Statement (i : Instr) : Prop := i.wf = (indices i).all fun p => decide (p.1 < p.2)

theorem exactly (a k : Nat) :
    decide (a = k + 1) = [(a, k + 2), (k, a)].all fun p => decide (p.1 < p.2) := by
  rw [Bool.eq_iff_iff]; simp; omega

theorem exactly2 (a b k l : Nat) :
    (decide (a = k + 1) && decide (b = l + 1))
      = [(a, k + 2), (k, a), (b, l + 2), (l, b)].all fun p => decide (p.1 < p.2) := by
  rw [Bool.eq_iff_iff]; simp; omega

theorem between (a k : Nat) :
    decide (1 ≤ a ∧ a ≤ k) = [(0, a), (a, k + 1)].all fun p => decide (p.1 < p.2) := by
  rw [Bool.eq_iff_iff]; simp; omega

theorem frameReceive : ∀ (point : Nat) (f : Frame), Statement (.frameReceive point f) := fun _ _ => (Bool.and_true _).symm

theorem pauseFrameReceive : ∀ (point : Nat) (opcode : BitVec 16), Statement (.pauseFrameReceive point opcode) := fun _ _ => (Bool.and_true _).symm

theorem barkHoldRelease : ∀ (port : Nat), Statement (.barkHoldRelease port) := fun _ => (Bool.and_true _).symm

theorem doorbellReceive : ∀ (port : Nat), Statement (.doorbellReceive port) := fun _ => (Bool.and_true _).symm

theorem ackReceive : ∀ (port : Nat), Statement (.ackReceive port) := fun _ => (Bool.and_true _).symm

theorem nakReceive : ∀ (port : Nat), Statement (.nakReceive port) := fun _ => (Bool.and_true _).symm

theorem readRespReceive : ∀ (port : Nat), Statement (.readRespReceive port) := fun _ => (Bool.and_true _).symm

theorem unsupportedPacketReceive : ∀ (port : Nat), Statement (.unsupportedPacketReceive port) := fun _ => (Bool.and_true _).symm

theorem heartbeatReceive : ∀ (west : Bool) (station : BitVec 16) (state : BitVec 16), Statement (.heartbeatReceive west station state) := fun _ _ _ => rfl

theorem commandPlace : ∀ (tag : Nat), Statement (.commandPlace tag) := fun _ => rfl

theorem fetch : ∀ (qpid : Nat), Statement (.fetch qpid) := fun _ => (Bool.and_true _).symm

theorem shadowPoll : ∀ (qpid : Nat), Statement (.shadowPoll qpid) := fun _ => (Bool.and_true _).symm

theorem retransmitTimeout : ∀ (req : Nat), Statement (.retransmitTimeout req) := fun _ => rfl

theorem requestRetryExhausted : ∀ (req : Nat), Statement (.requestRetryExhausted req) := fun _ => rfl

theorem ackDelayExpiry : ∀ (ack : Nat), Statement (.ackDelayExpiry ack) := fun _ => rfl

theorem rateUpdate : Statement (.rateUpdate) := rfl

theorem pacedRelease : ∀ (req : Nat), Statement (.pacedRelease req) := fun _ => rfl

theorem quietExpiry : ∀ (q : Quiet), Statement (.quietExpiry q) := fun _ => rfl

theorem notifyCoalExpiry : ∀ (qpid : Nat), Statement (.notifyCoalExpiry qpid) := fun _ => (Bool.and_true _).symm

theorem xylemStartWaitEnd : Statement (.xylemStartWaitEnd) := rfl

theorem queuePairDisableDone : ∀ (qpid : Nat), Statement (.queuePairDisableDone qpid) := fun _ => (Bool.and_true _).symm

theorem sessionResetSettle : ∀ (sid : Nat), Statement (.sessionResetSettle sid) := fun _ => (Bool.and_true _).symm

theorem keepaliveExpiry : ∀ (sid : Nat), Statement (.keepaliveExpiry sid) := fun _ => (Bool.and_true _).symm

theorem sessionOpOpen : Statement (.sessionOpOpen) := rfl

theorem sessionOpClose : Statement (.sessionOpClose) := rfl

theorem sessionOpReset : Statement (.sessionOpReset) := rfl

theorem getLogPage : ∀ (tag : Nat), Statement (.getLogPage tag) := fun _ => rfl

theorem identify : ∀ (tag : Nat), Statement (.identify tag) := fun _ => rfl

theorem abort : ∀ (tag : Nat), Statement (.abort tag) := fun _ => rfl

theorem setFeatures : ∀ (tag : Nat), Statement (.setFeatures tag) := fun _ => rfl

theorem getFeatures : ∀ (tag : Nat), Statement (.getFeatures tag) := fun _ => rfl

theorem asynchronousEventRequest : ∀ (tag : Nat), Statement (.asynchronousEventRequest tag) := fun _ => rfl

theorem namespaceCreate : ∀ (tag : Nat) (data : List Byte), Statement (.namespaceCreate tag data) := fun _ _ => rfl

theorem namespaceDelete : ∀ (tag : Nat), Statement (.namespaceDelete tag) := fun _ => rfl

theorem namespaceDeleteRecord : ∀ (nsid : Nat), Statement (.namespaceDeleteRecord nsid) := fun nsid => between nsid 4096

theorem namespaceAttach : ∀ (tag : Nat) (data : List Byte), Statement (.namespaceAttach tag data) := fun _ _ => rfl

theorem namespaceDetach : ∀ (tag : Nat) (data : List Byte), Statement (.namespaceDetach tag data) := fun _ _ => rfl

theorem firmwareImageDownload : ∀ (tag : Nat) (data : List Byte), Statement (.firmwareImageDownload tag data) := fun _ _ => rfl

theorem firmwareCommitWrite : ∀ (tag : Nat), Statement (.firmwareCommitWrite tag) := fun _ => rfl

theorem firmwareCommitWriteMark : ∀ (tag : Nat), Statement (.firmwareCommitWriteMark tag) := fun _ => rfl

theorem firmwareCommitMark : ∀ (tag : Nat), Statement (.firmwareCommitMark tag) := fun _ => rfl

theorem firmwareActivate : ∀ (tag : Nat), Statement (.firmwareActivate tag) := fun _ => rfl

theorem keepAlive : ∀ (tag : Nat), Statement (.keepAlive tag) := fun _ => rfl

theorem sessionOpen : ∀ (tag : Nat), Statement (.sessionOpen tag) := fun _ => rfl

theorem sessionClose : ∀ (tag : Nat), Statement (.sessionClose tag) := fun _ => rfl

theorem sessionReset : ∀ (tag : Nat), Statement (.sessionReset tag) := fun _ => rfl

theorem sessionQuery : ∀ (tag : Nat), Statement (.sessionQuery tag) := fun _ => rfl

theorem registerRead : ∀ (tag : Nat), Statement (.registerRead tag) := fun _ => rfl

theorem registerWrite : ∀ (tag : Nat) (data : List Byte), Statement (.registerWrite tag data) := fun _ _ => rfl

theorem saveConfiguration : ∀ (tag : Nat), Statement (.saveConfiguration tag) := fun _ => rfl

theorem groveCreate : ∀ (tag : Nat), Statement (.groveCreate tag) := fun _ => rfl

theorem groveDelete : ∀ (tag : Nat), Statement (.groveDelete tag) := fun _ => rfl

theorem addSpares : ∀ (tag : Nat), Statement (.addSpares tag) := fun _ => rfl

theorem removeSpares : ∀ (tag : Nat), Statement (.removeSpares tag) := fun _ => rfl

theorem releaseNamespaces : ∀ (tag : Nat), Statement (.releaseNamespaces tag) := fun _ => rfl

theorem rebuildNow : ∀ (tag : Nat), Statement (.rebuildNow tag) := fun _ => rfl

theorem pauseRebuild : ∀ (tag : Nat), Statement (.pauseRebuild tag) := fun _ => rfl

theorem resumeRebuild : ∀ (tag : Nat), Statement (.resumeRebuild tag) := fun _ => rfl

theorem failMember : ∀ (tag : Nat), Statement (.failMember tag) := fun _ => rfl

theorem verify : ∀ (tag : Nat), Statement (.verify tag) := fun _ => rfl

theorem keyLoad : ∀ (tag : Nat) (data : List Byte), Statement (.keyLoad tag data) := fun _ _ => rfl

theorem keyLoadAndSelect : ∀ (tag : Nat) (data : List Byte), Statement (.keyLoadAndSelect tag data) := fun _ _ => rfl

theorem keySelect : ∀ (tag : Nat), Statement (.keySelect tag) := fun _ => rfl

theorem keyClear : ∀ (tag : Nat), Statement (.keyClear tag) := fun _ => rfl

theorem flush : ∀ (tag : Nat), Statement (.flush tag) := fun _ => rfl

theorem write : ∀ (tag : Nat), Statement (.write tag) := fun _ => rfl

theorem read : ∀ (tag : Nat), Statement (.read tag) := fun _ => rfl

theorem compare : ∀ (tag : Nat), Statement (.compare tag) := fun _ => rfl

theorem writeZeroes : ∀ (tag : Nat), Statement (.writeZeroes tag) := fun _ => rfl

theorem datasetManagement : ∀ (tag : Nat), Statement (.datasetManagement tag) := fun _ => rfl

theorem translationDone : ∀ (tag : Nat), Statement (.translationDone tag) := fun _ => rfl

theorem stealAttempt : ∀ (engine : Nat), Statement (.stealAttempt engine) := fun _ => (Bool.and_true _).symm

theorem journalRecordDurable : Statement (.journalRecordDurable) := rfl

theorem cambiumCompact : Statement (.cambiumCompact) := rfl

theorem pageWriteback : ∀ (page : Nat), Statement (.pageWriteback page) := fun _ => rfl

theorem stripeOpen : ∀ (grove : Nat) (stream : Stream), Statement (.stripeOpen grove stream) := fun _ _ => (Bool.and_true _).symm

theorem stripeIdleClose : ∀ (grove : Nat) (stream : Stream), Statement (.stripeIdleClose grove stream) := fun _ _ => (Bool.and_true _).symm

theorem driveCommandComplete : ∀ (drive : Nat) (cmd : Nat) (result : DriveResult), Statement (.driveCommandComplete drive cmd result) := fun _ _ _ => (Bool.and_true _).symm

theorem prunerVictimSelect : ∀ (grove : Nat), Statement (.prunerVictimSelect grove) := fun _ => (Bool.and_true _).symm

theorem segmentFree : ∀ (grove : Nat) (seg : Nat), Statement (.segmentFree grove seg) := fun _ _ => (Bool.and_true _).symm

theorem memberFail : ∀ (grove : Nat) (slot : Nat), Statement (.memberFail grove slot) := fun _ _ => (Bool.and_true _).symm

theorem rebuildSegmentDone : ∀ (grove : Nat), Statement (.rebuildSegmentDone grove) := fun _ => (Bool.and_true _).symm

theorem resyncStripe : ∀ (grove : Nat) (chunks : List (Option (List (List Byte)))), Statement (.resyncStripe grove chunks) := fun _ _ => (Bool.and_true _).symm

theorem shootLingerExpiry : ∀ (shoot : Nat), Statement (.shootLingerExpiry shoot) := fun _ => rfl

theorem egressSelect : ∀ (point : Nat), Statement (.egressSelect point) := fun _ => (Bool.and_true _).symm

theorem crownScrub : Statement (.crownScrub) := rfl

theorem learnedEntryAgeOut : ∀ (ep : W32), Statement (.learnedEntryAgeOut ep) := fun _ => rfl

theorem fwdEntryRead : Statement (.fwdEntryRead) := rfl

theorem fwdEntryWrite : Statement (.fwdEntryWrite) := rfl

theorem fwdEntryDelete : Statement (.fwdEntryDelete) := rfl

theorem pathRecordWrite : Statement (.pathRecordWrite) := rfl

theorem linkUp : ∀ (point : Nat), Statement (.linkUp point) := fun _ => (Bool.and_true _).symm

theorem linkDown : ∀ (point : Nat) (pcs : Bool), Statement (.linkDown point pcs) := fun _ _ => (Bool.and_true _).symm

theorem portClassWrite : ∀ (point : Nat) (cls : BitVec 2), Statement (.portClassWrite point cls) := fun _ _ => (Bool.and_true _).symm

theorem indicationRead : ∀ (point : Nat), Statement (.indicationRead point) := fun _ => (Bool.and_true _).symm

theorem timebaseSet : Statement (.timebaseSet) := rfl

theorem timebaseStep : Statement (.timebaseStep) := rfl

theorem ppsInCapture : Statement (.ppsInCapture) := rfl

theorem ppsOutPulse : Statement (.ppsOutPulse) := rfl

theorem txtsRead : Statement (.txtsRead) := rfl

theorem gateEntryAdvance : ∀ (point : Nat), Statement (.gateEntryAdvance point) := fun _ => (Bool.and_true _).symm

theorem gateListSwap : ∀ (point : Nat), Statement (.gateListSwap point) := fun _ => (Bool.and_true _).symm

theorem mdioStart : Statement (.mdioStart) := rfl

theorem mdioDone : ∀ (value : BitVec 16), Statement (.mdioDone value) := fun _ => rfl

theorem phyAutoPoll : ∀ (r1 r4 r5 r9 r10 : BitVec 16), Statement (.phyAutoPoll r1 r4 r5 r9 r10) := fun _ _ _ _ _ => rfl

theorem mgmtCollision : ∀ (bits : Nat), Statement (.mgmtCollision bits) := fun _ => rfl

theorem mgmtBackoffExpiry : Statement (.mgmtBackoffExpiry) := rfl

theorem shaperRead : Statement (.shaperRead) := rfl

theorem shaperWrite : Statement (.shaperWrite) := rfl

theorem heartbeatSend : Statement (.heartbeatSend) := rfl

theorem neighbourLost : ∀ (west : Bool), Statement (.neighbourLost west) := fun _ => rfl

theorem ringJoinWrite : ∀ (joinE joinW : Bool), Statement (.ringJoinWrite joinE joinW) := fun _ _ => rfl

theorem bypassSettled : Statement (.bypassSettled) := rfl

theorem passThroughLock : Statement (.passThroughLock) := rfl

theorem lockstepMismatch : ∀ (pairB : Bool) (cut : Option (Nat × Nat)), Statement (.lockstepMismatch pairB cut) := fun _ _ => rfl

theorem watchdogExpiry : ∀ (cut : Option (Nat × Nat)), Statement (.watchdogExpiry cut) := fun _ => rfl

theorem watchdogKick : Statement (.watchdogKick) := rfl

theorem pithCheckpoint : Statement (.pithCheckpoint) := rfl

theorem takeover : Statement (.takeover) := rfl

theorem rehearse : ∀ (path : Path), Statement (.rehearse path) := fun _ => rfl

theorem rearm : ∀ (pass : Bool), Statement (.rearm pass) := fun _ => rfl

theorem standbyWakeDone : ∀ (ok : Bool), Statement (.standbyWakeDone ok) := fun _ => rfl

theorem standbyBootDone : ∀ (ok : Bool), Statement (.standbyBootDone ok) := fun _ => rfl

theorem standbyRestoreDone : Statement (.standbyRestoreDone) := rfl

theorem takeoverTimeout : Statement (.takeoverTimeout) := rfl

theorem boughVacated : ∀ (bough : Nat), Statement (.boughVacated bough) := fun _ => (Bool.and_true _).symm

theorem reloadAbort : ∀ (bough : Nat), Statement (.reloadAbort bough) := fun _ => (Bool.and_true _).symm

theorem reloadRetry : ∀ (bough : Nat), Statement (.reloadRetry bough) := fun _ => (Bool.and_true _).symm

theorem microcodeLoaded : ∀ (bough : Nat), Statement (.microcodeLoaded bough) := fun _ => (Bool.and_true _).symm

theorem drivePresent : ∀ (drive : Nat), Statement (.drivePresent drive) := fun _ => (Bool.and_true _).symm

theorem debounceExpiry : ∀ (drive : Nat), Statement (.debounceExpiry drive) := fun _ => (Bool.and_true _).symm

theorem powerDelayExpiry : ∀ (drive : Nat), Statement (.powerDelayExpiry drive) := fun _ => (Bool.and_true _).symm

theorem linkTrained : ∀ (drive : Nat) (gen : Nat) (width : Nat), Statement (.linkTrained drive gen width) := fun _ _ _ => (Bool.and_true _).symm

theorem linkTrainTimeout : ∀ (drive : Nat), Statement (.linkTrainTimeout drive) := fun _ => (Bool.and_true _).symm

theorem configWaitExpiry : ∀ (drive : Nat), Statement (.configWaitExpiry drive) := fun _ => (Bool.and_true _).symm

theorem driveInitDone : ∀ (drive : Nat) (info : DriveInfo), Statement (.driveInitDone drive info) := fun _ _ => (Bool.and_true _).symm

theorem driveInitTimeout : ∀ (drive : Nat), Statement (.driveInitTimeout drive) := fun _ => (Bool.and_true _).symm

theorem surpriseRemoval : ∀ (drive : Nat), Statement (.surpriseRemoval drive) := fun _ => (Bool.and_true _).symm

theorem drivePowerOff : ∀ (drive : Nat) (on : Bool), Statement (.drivePowerOff drive on) := fun _ _ => (Bool.and_true _).symm

theorem rootletDisable : ∀ (drive : Nat), Statement (.rootletDisable drive) := fun _ => (Bool.and_true _).symm

theorem rootletEnable : ∀ (drive : Nat), Statement (.rootletEnable drive) := fun _ => (Bool.and_true _).symm

theorem aerCorrectable : ∀ (drive : Nat), Statement (.aerCorrectable drive) := fun _ => (Bool.and_true _).symm

theorem aerNonfatal : ∀ (drive : Nat) (cmd : Nat), Statement (.aerNonfatal drive cmd) := fun _ _ => (Bool.and_true _).symm

theorem aerFatal : ∀ (drive : Nat), Statement (.aerFatal drive) := fun _ => (Bool.and_true _).symm

theorem inboundViolation : ∀ (drive : Nat) (isWrite : Bool) (addr : W64) (len : Nat), Statement (.inboundViolation drive isWrite addr len) := fun _ _ _ _ => (Bool.and_true _).symm

theorem containmentRelease : ∀ (drive : Nat), Statement (.containmentRelease drive) := fun _ => (Bool.and_true _).symm

theorem driveCommandTimeout : ∀ (drive : Nat) (cmd : Nat), Statement (.driveCommandTimeout drive cmd) := fun _ _ => (Bool.and_true _).symm

theorem abortWaitExpiry : ∀ (drive : Nat) (cmd : Nat), Statement (.abortWaitExpiry drive cmd) := fun _ _ => (Bool.and_true _).symm

theorem controllerResetDone : ∀ (drive : Nat) (ok : Bool), Statement (.controllerResetDone drive ok) := fun _ _ => (Bool.and_true _).symm

theorem sapIdleExpiry : ∀ (res : Res) (sp : Nat), Statement (.sapIdleExpiry res sp) := fun res sp => by
  cases res with
  | engines => exact (Bool.true_and _).trans (Bool.and_true _).symm
  | port p => exact (Bool.and_comm _ _).trans (congrArg _ (Bool.and_true _).symm)
  | drive d => exact (Bool.and_comm _ _).trans (congrArg _ (Bool.and_true _).symm)

theorem sapStateExit : ∀ (res : Res), Statement (.sapStateExit res) := fun
  | .engines => rfl
  | .port _ => (Bool.and_true _).symm
  | .drive _ => (Bool.and_true _).symm

theorem resourcePin : ∀ (en : Bool) (sp : BitVec 2), Statement (.resourcePin en sp) := fun _ _ => rfl

theorem droopTrip : ∀ (die : Nat), Statement (.droopTrip die) := fun _ => (Bool.and_true _).symm

theorem droopRelease : ∀ (die : Nat), Statement (.droopRelease die) := fun _ => (Bool.and_true _).symm

theorem thermalSample : ∀ (temps : List (List Nat)), Statement (.thermalSample temps) := fun temps => exactly temps.length 5

theorem throttleStep : ∀ (die : Nat), Statement (.throttleStep die) := fun _ => (Bool.and_true _).symm

theorem pwrfailAssert : Statement (.pwrfailAssert) := rfl

theorem railUndervoltage : Statement (.railUndervoltage) := rfl

theorem flushStopDone : Statement (.flushStopDone) := rfl

theorem vaultWriteDone : Statement (.vaultWriteDone) := rfl

theorem flushSealDone : Statement (.flushSealDone) := rfl

theorem sapRestart : ∀ (modeSel : BitVec 4) (ringPt recForce : Bool), Statement (.sapRestart modeSel ringPt recForce) := fun _ _ _ => rfl

theorem referenceLoss : ∀ (ref : RefIn), Statement (.referenceLoss ref) := fun
  | .eth1 => rfl
  | .eth2 => rfl
  | .ddr => rfl
  | .sys => rfl
  | .pcie _ => (Bool.and_true _).symm

theorem resetAssert : Statement (.resetAssert) := rfl

theorem resetRelease : ∀ (modeSel : BitVec 4) (ringPt recForce : Bool), Statement (.resetRelease modeSel ringPt recForce) := fun _ _ _ => rfl

theorem pllLocked : Statement (.pllLocked) := rfl

theorem selftestDone : ∀ (pass : List Bool) (links : List (BitVec 2)), Statement (.selftestDone pass links) := fun pass links => exactly2 pass.length links.length 5 11

theorem imageChecked : Statement (.imageChecked) := rfl

theorem dramTrained : ∀ (ok : Bool), Statement (.dramTrained ok) := fun _ => rfl

theorem drivesSettled : ∀ (badVault : List Nat) (badIntent : List Nat), Statement (.drivesSettled badVault badIntent) := fun _ _ => rfl

theorem driveWaitExpiry : Statement (.driveWaitExpiry) := rfl

theorem restoreDone : Statement (.restoreDone) := rfl

theorem waitRecordTimeout : Statement (.waitRecordTimeout) := rfl

theorem startDone : Statement (.startDone) := rfl

theorem seedRestart : ∀ (modeSel : BitVec 4) (ringPt recForce : Bool), Statement (.seedRestart modeSel ringPt recForce) := fun _ _ _ => rfl

theorem recoveryErase : Statement (.recoveryErase) := rfl

theorem recoveryProgram : Statement (.recoveryProgram) := rfl

theorem recoveryCheck : Statement (.recoveryCheck) := rfl

theorem recoverySetNext : Statement (.recoverySetNext) := rfl

theorem recoveryProvision : Statement (.recoveryProvision) := rfl

theorem recoveryRestart : ∀ (modeSel : BitVec 4) (ringPt recForce : Bool), Statement (.recoveryRestart modeSel ringPt recForce) := fun _ _ _ => rfl

theorem flashOpDone : ∀ (ok : Bool), Statement (.flashOpDone ok) := fun _ => rfl

theorem flashWriteDone : ∀ (ok : Bool), Statement (.flashWriteDone ok) := fun _ => rfl

theorem dlinkRetrain : ∀ (link : Nat), Statement (.dlinkRetrain link) := fun _ => (Bool.and_true _).symm

theorem dlinkRetrainDone : ∀ (link : Nat) (reduced : Bool), Statement (.dlinkRetrainDone link reduced) := fun _ _ => (Bool.and_true _).symm

theorem dlinkDown : ∀ (link : Nat), Statement (.dlinkDown link) := fun _ => (Bool.and_true _).symm

theorem registerAccessFrame : ∀ (dstMac srcMac : BitVec 48) (vlan : Option (BitVec 16)) (payload : List Byte), Statement (.registerAccessFrame dstMac srcMac vlan payload) := fun _ _ _ _ => rfl

theorem registerFieldWrite : ∀ (path : Path) (addr : W32) (data : W32) (mask : W32), Statement (.registerFieldWrite path addr data mask) := fun _ _ _ _ => rfl

theorem commitApply : ∀ (addr : Nat) (bit : Nat), Statement (.commitApply addr bit) := fun _ _ => (Bool.and_true _).symm

theorem xylemCommitTimer : Statement (.xylemCommitTimer) := rfl

theorem xylemCommitRate : Statement (.xylemCommitRate) := rfl

theorem budCommitFetch : Statement (.budCommitFetch) := rfl

theorem knotCommitLimits : Statement (.knotCommitLimits) := rfl

theorem twigCommitSteal : ∀ (engine : Nat), Statement (.twigCommitSteal engine) := fun _ => (Bool.and_true _).symm

theorem heartwoodCommitWb : Statement (.heartwoodCommitWb) := rfl

theorem cambiumCommitWater : Statement (.cambiumCommitWater) := rfl

theorem groveCommitLag : Statement (.groveCommitLag) := rfl

theorem groveCommitAssy : Statement (.groveCommitAssy) := rfl

theorem sapwoodCommitWater : Statement (.sapwoodCommitWater) := rfl

theorem prunerCommitThresh : Statement (.prunerCommitThresh) := rfl

theorem coppiceCommitLimits : Statement (.coppiceCommitLimits) := rfl

theorem crownCommitBuf : Statement (.crownCommitBuf) := rfl

theorem crownCommitEcn : Statement (.crownCommitEcn) := rfl

theorem fmacCommitGate : ∀ (port : Nat) (sub : Nat), Statement (.fmacCommitGate port sub) := fun _ _ => congrArg (and _) (Bool.and_true _).symm

theorem canopyCommitSch : Statement (.canopyCommitSch) := rfl

theorem canopyCommitPolice : Statement (.canopyCommitPolice) := rfl

theorem rootletCommitIo : ∀ (drive : Nat), Statement (.rootletCommitIo drive) := fun _ => (Bool.and_true _).symm

theorem sapCommitPolicy : Statement (.sapCommitPolicy) := rfl

theorem sapCommitSafety : Statement (.sapCommitSafety) := rfl

theorem tallyCommitFilter : Statement (.tallyCommitFilter) := rfl

theorem tallyCommitSample : Statement (.tallyCommitSample) := rfl

theorem eventPendClear : ∀ (group : Nat) (ones : W64), Statement (.eventPendClear group ones) := fun _ _ => (Bool.and_true _).symm

theorem hostEventGapExpiry : ∀ (sid : Nat) (source : Nat), Statement (.hostEventGapExpiry sid source) := fun _ _ => congrArg (and _) (Bool.and_true _).symm

theorem tallySweep : Statement (.tallySweep) := rfl

theorem engineCounterWrap : ∀ (engine : Nat) (n : Nat), Statement (.engineCounterWrap engine n) := fun _ _ => congrArg (and _) (Bool.and_true _).symm

theorem engineCounterClear : ∀ (n : Nat), Statement (.engineCounterClear n) := fun _ => (Bool.and_true _).symm

theorem ringDataRead : Statement (.ringDataRead) := rfl

theorem latchedPairRead : ∀ (addr : Nat), Statement (.latchedPairRead addr) := fun _ => rfl

theorem dramError : ∀ (uncorrectable : Bool) (channel rank : Nat) (addr : W64) (use : DramUse), Statement (.dramError uncorrectable channel rank addr use) := fun _ _ _ _ _ => rfl

theorem sidebandRead : Statement (.sidebandRead) := rfl

theorem sidebandOffsetWrite : ∀ (bytes : List Byte), Statement (.sidebandOffsetWrite bytes) := fun _ => rfl

theorem sidebandAddressAssign : ∀ (addr : BitVec 7), Statement (.sidebandAddressAssign addr) := fun _ => rfl

theorem rehearsalBeginDelayExpiry : Statement (.rehearsalBeginDelayExpiry) := rfl

theorem linkEqualizationFail : ∀ (drive : Nat), Statement (.linkEqualizationFail drive) := fun _ => (Bool.and_true _).symm

theorem rootletDisableWaitExpiry : ∀ (drive : Nat), Statement (.rootletDisableWaitExpiry drive) := fun _ => (Bool.and_true _).symm

theorem powerStateExitDone : ∀ (res : Res), Statement (.powerStateExitDone res) := fun
  | .engines => rfl
  | .port _ => (Bool.and_true _).symm
  | .drive _ => (Bool.and_true _).symm

theorem pwrfailDeassert : Statement (.pwrfailDeassert) := rfl

theorem carrierSenseDeassert : ∀ (lost : Bool), Statement (.carrierSenseDeassert lost) := fun _ => rfl

theorem phyResetRelease : Statement (.phyResetRelease) := rfl

theorem scrubPassDone : Statement (.scrubPassDone) := rfl

end Sys2Proof.Laws.Range
end

