-- ==== Sys2Proof/Laws/Still.lean ====
section
/-!
SUPPORT. What raising an event, counting, sending a packet and posting a completion can touch: each of these operations
leaves every part named by `Still` as it was.
-/

namespace Sys2Proof.Machine

theorem Still.refl (s : State) : Still s s := by constructor <;> rfl

theorem Still.trans {a b c : State} (h : Still a b) (k : Still b c) : Still a c where
  now := k.now.trans h.now
  regs := k.regs.trans h.regs
  twigs := k.twigs.trans h.twigs
  boughCycles := k.boughCycles.trans h.boughCycles
  heart := k.heart.trans h.heart
  camb := k.camb.trans h.camb
  sapw := k.sapw.trans h.sapw
  groves := k.groves.trans h.groves
  asmNext := k.asmNext.trans h.asmNext
  nextPiece := k.nextPiece.trans h.nextPiece
  drives := k.drives.trans h.drives
  ports := k.ports.trans h.ports
  mmac := k.mmac.trans h.mmac
  time := k.time.trans h.time
  ring := k.ring.trans h.ring
  pith := k.pith.trans h.pith
  sap := k.sap.trans h.sap
  seed := k.seed.trans h.seed
  alertFixed := k.alertFixed.trans h.alertFixed
  dram := k.dram.trans h.dram
  links := k.links.trans h.links
  linkAt := k.linkAt.trans h.linkAt
  bistDone := k.bistDone.trans h.bistDone
  bistPass := k.bistPass.trans h.bistPass
  sideband := k.sideband.trans h.sideband
  media := k.media.trans h.media
  fresh := k.fresh.trans h.fresh
  readData := k.readData.trans h.readData
  out := k.out.trans h.out
  ra := k.ra.trans h.ra
  pending := k.pending.trans h.pending

/-- A fold of such operations is one. -/
theorem Still.foldl {α : Type} (f : State → α → State) (hf : ∀ s a, Still s (f s a)) (l : List α) (s : State) :
    Still s (l.foldl f s) := by
  induction l generalizing s with
  | nil => exact Still.refl s
  | cons a l ih => exact (hf s a).trans (ih (f s a))

/-! ### Updates of the parts that may change -/

theorem still_count (s : State) (b c k : Nat) : Still s (s.count b c k) := by constructor <;> rfl
theorem still_modQp (s : State) (q : Nat) (f : Qp → Qp) : Still s (s.modQp q f) := by constructor <;> rfl
theorem still_setQp (s : State) (q : Nat) (x : Qp) : Still s (s.setQp q x) := by constructor <;> rfl
theorem still_modSess (s : State) (i : Nat) (f : Session → Session) : Still s (s.modSess i f) := by constructor <;> rfl
theorem still_setSess (s : State) (i : Nat) (x : Session) : Still s (s.setSess i x) := by constructor <;> rfl
theorem still_modCmd (s : State) (t : Nat) (f : Cmd → Cmd) : Still s (s.modCmd t f) := by constructor <;> rfl
theorem still_setCmd (s : State) (t : Nat) (c : Cmd) : Still s (s.setCmd t c) := by constructor <;> rfl
theorem still_setDesc (s : State) (r : Nat) (d : Desc) : Still s (s.setDesc r d) := by constructor <;> rfl
theorem still_modDesc (s : State) (r : Nat) (f : Desc → Desc) : Still s (s.modDesc r f) := by constructor <;> rfl
theorem still_stamp (s : State) (t i : Nat) : Still s (s.stamp t i) := still_modCmd s t _

/-! ### Events (R391 to R395) -/

theorem still_tryAer (sid : Nat) (s : State) : Still s (s.tryAer sid) := by
  unfold State.tryAer
  split
  · dsimp only
    split
    · exact Still.refl s
    · constructor <;> rfl
  · exact Still.refl s

theorem still_tell (n cnt time : Nat) (d : W32) (s : State) (sid : Nat) : Still s (State.tell n cnt time d s sid) := by
  unfold State.tell
  dsimp only
  split
  · split
    · constructor <;> rfl
    · exact Still.trans (by constructor <;> rfl) (still_tryAer _ _)
  · exact Still.trans (by constructor <;> rfl) (still_tryAer _ _)

theorem still_deliver (n cnt : Nat) (s : State) : Still s (s.deliver n cnt) := by
  unfold State.deliver
  dsimp only
  split
  · exact Still.trans (b := { s with evt := NMap.set s.evt n { s.src n with told := true } })
      (by constructor <;> rfl) (Still.foldl _ (fun s a => still_tell _ _ _ _ s a) _ _)
  · exact Still.refl s

/-- Raising an event touches the event sources and the hosts' side only. -/
theorem still_raise (n : Nat) (d : W32) (s : State) : Still s (s.raise n d) := by
  unfold State.raise
  exact Still.trans (by constructor <;> rfl) (still_deliver n 1 _)

theorem still_raise0 (g b : Nat) (s : State) : Still s (s.raise0 g b) := still_raise _ _ s

/-! ### Sending (R222 to R226, R263 to R267) -/

theorem still_tagHead (s : State) (p tc : Nat) (e : Bool) : Still s (s.tagHead p tc e) := by
  unfold State.tagHead
  split
  · exact Still.refl s
  · split
    · exact Still.refl s
    · constructor <;> rfl

theorem still_enqueue (s : State) (p tc : Nat) (f : QFrame) : Still s (s.enqueue p tc f) := by
  unfold State.enqueue
  dsimp only
  split
  · exact Still.trans (by constructor <;> rfl) (still_tagHead _ _ _ _)
  · constructor <;> rfl

theorem still_toResidue (s : State) (p : Nat) (f : QFrame) : Still s (s.toResidue p f) := by
  unfold State.toResidue
  dsimp only
  split
  · exact (still_raise0 _ _ _).trans (still_count _ _ _ _)
  · constructor <;> rfl

/-- A choice between two such operations is one. -/
theorem Still.ite {s a b : State} (c : Prop) [Decidable c] (h : Still s a) (k : Still s b) :
    Still s (if c then a else b) := by
  split
  · exact h
  · exact k

theorem still_spendNonce (sid slot : Nat) (s : State) : Still s (s.spendNonce sid slot) := by
  unfold State.spendNonce
  split
  · exact Still.refl s
  · rename_i k _
    extract_lets lim c k' bk u v
    have h1 : Still s u := by constructor <;> rfl
    have h2 : Still s v := h1.trans (Still.ite _ (still_raise _ _ u) (Still.refl u))
    split
    · have h3 := h2.trans (still_raise (evSrc 6 35) (sessDetail sid none) v)
      split
      · refine h3.trans (Still.ite _ (Still.refl _) ?_)
        exact Still.trans (by constructor <;> rfl) (still_raise _ _ _)
      · exact h3
    · exact h2

theorem still_tagPkt (s : State) (sid p : Nat) (q : Pkt) : Still s (s.tagPkt sid p q).2 := by
  unfold State.tagPkt
  dsimp only
  split
  · exact Still.refl s
  · split
    · split <;> exact Still.refl s
    · split
      · exact Still.refl s
      · exact (still_spendNonce _ _ _).trans (still_count _ _ _ _)

/-- Sending a packet touches the switch, Bark's counters, events and Tally only. -/
theorem still_send (s : State) (sid : Nat) (p : Pkt) (tc : Nat) (a : Bool) (r sh via : Option Nat) :
    Still s (s.send sid p tc a r sh via).2 := by
  unfold State.send
  split
  · exact Still.refl s
  · split
    · exact (still_raise0 _ _ _).trans (still_count _ _ _ _)
    · rename_i point e _
      split
      · exact Still.refl s
      · have h := still_tagPkt s sid point p
        split
        · rename_i heq
          rw [heq] at h
          exact h
        · rename_i heq
          rw [heq] at h
          dsimp only
          split
          · exact h.trans (still_toResidue _ _ _)
          · exact h.trans (still_enqueue _ _ _ _)

/-! ### Requests and completions (R39 to R50, R73, R74) -/

theorem still_openDesc (d : Desc) (s : State) : Still s (s.openDesc d) := by
  unfold State.openDesc
  dsimp only
  split
  · exact Still.trans (by constructor <;> rfl) (still_raise0 _ _ _)
  · constructor <;> rfl

theorem still_noteRetx (d : Desc) (s : State) : Still s (s.noteRetx d) := by
  unfold State.noteRetx
  dsimp only
  split <;> split <;> first
    | exact ((still_modSess _ _ _).trans (still_modCmd _ _ _)).trans (still_modQp _ _ _)
    | exact (still_modSess _ _ _).trans (still_modCmd _ _ _)
    | exact (still_modSess _ _ _).trans (still_modQp _ _ _)
    | exact still_modSess _ _ _

theorem still_closePiece (p : Nat) (s : State) : Still s (s.closePiece p) := by
  unfold State.closePiece
  split
  · exact Still.refl s
  · dsimp only
    exact Still.ite _ (by constructor <;> rfl) (Still.refl s)

theorem still_endAttach (p : Nat) (s : State) : Still s (s.endAttach p) := by
  unfold State.endAttach
  exact Still.trans (by constructor <;> rfl) (still_closePiece p _)

theorem still_retainTrim (n : Nat) (s : State) : Still s (s.retainTrim n) := by
  induction n generalizing s with
  | zero => exact Still.refl s
  | succ n ih =>
    unfold State.retainTrim
    split
    · exact Still.refl s
    · split
      · exact Still.refl s
      · refine Still.trans ?_ (ih _)
        exact Still.trans (by constructor <;> rfl) (Still.ite _ (still_endAttach _ _) (Still.refl _))

theorem still_retain (id : Nat) (b : Bool) (n : Nat) (s : State) : Still s (s.retain id b n) := by
  unfold State.retain
  dsimp only
  split
  · exact still_retainTrim _ _
  · exact Still.trans (by constructor <;> rfl) (still_retainTrim _ _)

theorem still_keepPayload (r : Nat) (d : Desc) (s : State) : Still s (s.keepPayload r d) := by
  unfold State.keepPayload
  split
  · exact Still.ite _ (Still.refl s) (still_retain _ _ _ _)
  · exact Still.refl s

/-- Sending a request again or for the first time. -/
theorem still_transmit (r : Nat) (s : State) : Still s (s.transmit r).2 := by
  unfold State.transmit
  split
  · exact Still.refl s
  · rename_i d _
    dsimp only
    have h := still_send s d.sid (s.pktOf r d (decide (d.retries > 0) || d.retxAt.isSome)) d.tc d.kind.reserved (some r)
      (match d.kind with | .dataWrite _ _ x => x | _ => none) d.viaPort
    generalize s.send d.sid (s.pktOf r d (decide (d.retries > 0) || d.retxAt.isSome)) d.tc d.kind.reserved (some r)
      (match d.kind with | .dataWrite _ _ x => x | _ => none) d.viaPort = x at h ⊢
    obtain ⟨res, u⟩ := x
    have last : ∀ (res : SendRes) (dd : Desc), Still u
        ((if decide (d.retries > 0) || d.retxAt.isSome then (u.setDesc r dd).noteRetx d else u.setDesc r dd).keepPayload r d) := by
      intro _ dd
      refine Still.trans ?_ (still_keepPayload r d _)
      split
      · exact (still_setDesc _ _ _).trans (still_noteRetx _ _)
      · exact still_setDesc _ _ _
    cases res <;> first | exact h | exact h.trans (last .sent _)

theorem still_answerRequest (d : Desc) (s : State) : Still s (s.answerRequest d) := by
  unfold State.answerRequest
  dsimp only
  split
  · exact (still_openDesc _ _).trans (still_transmit _ _)
  · exact still_openDesc _ _

theorem still_tryNotify (q : Nat) (s : State) : Still s (s.tryNotify q) := by
  unfold State.tryNotify
  split
  · exact Still.refl s
  · split
    · exact Still.refl s
    · dsimp only
      split
      · exact (still_modQp _ _ _).trans (still_answerRequest _ _)
      · exact Still.refl s

theorem still_noteCredits (s : State) : Still s s.noteCredits := by
  unfold State.noteCredits
  split
  · split
    · exact Still.refl s
    · exact Still.trans (by constructor <;> rfl) (still_raise0 _ _ _)
  · constructor <;> rfl

theorem still_traceDrop (s : State) : Still s s.traceDrop := by
  unfold State.traceDrop
  dsimp only
  split
  · constructor <;> rfl
  · exact Still.trans (by constructor <;> rfl) (still_raise0 _ _ _)

theorem still_traceEnd (t : Nat) (s : State) : Still s (s.traceEnd t) := by
  unfold State.traceEnd
  split
  · exact Still.refl s
  · split
    · exact Still.refl s
    · dsimp only
      exact Still.ite _ (still_traceDrop _) (by constructor <;> rfl)

theorem still_unholdAborts (t : Nat) (s : State) : Still s (s.unholdAborts t) := by constructor <;> rfl

theorem still_freeCmd (t : Nat) (s : State) : Still s (s.freeCmd t) := by
  unfold State.freeCmd
  split
  · exact Still.refl s
  · dsimp only
    split
    · exact (((still_traceEnd t s).trans (by constructor <;> rfl)).trans (still_unholdAborts t _)).trans (still_noteCredits _)
    · exact ((((still_traceEnd t s).trans (by constructor <;> rfl)).trans (still_modSess _ _ _)).trans
        (still_unholdAborts t _)).trans (still_noteCredits _)

/-- Posting a completion (R74). -/
theorem still_post (t : Nat) (s : State) : Still s (s.post t) := by
  unfold State.post
  split
  · exact Still.refl s
  · split
    · dsimp only
      refine Still.trans ?_ (still_answerRequest _ _)
      split
      · exact (((still_setQp _ _ _).trans (still_modCmd _ _ _)).trans (still_unholdAborts t _)).trans (still_stamp _ _ _)
      · exact ((((still_setQp _ _ _).trans (still_modSess _ _ _)).trans (still_modCmd _ _ _)).trans
          (still_unholdAborts t _)).trans (still_stamp _ _ _)
    · exact still_freeCmd t s

theorem still_tryPost (t : Nat) (s : State) : Still s (s.tryPost t) := by
  unfold State.tryPost
  split
  · exact Still.refl s
  · split
    · exact Still.refl s
    · split
      · exact still_freeCmd t s
      · split
        · exact still_post t s
        · exact Still.refl s

theorem still_postAers (s : State) : Still s s.postAers := by
  unfold State.postAers
  exact Still.trans (by constructor <;> rfl) (Still.foldl _ (fun s t => still_tryPost t s) _ _)

/-- Every meaning ends in `settle`, which touches the hosts' side only. -/
theorem still_settle (s : State) : Still s s.settle := (still_postAers s).trans (still_postAers _)

end Sys2Proof.Machine
end

