-- ==== Sys2Proof/Tests/Slice0.lean ====
section
/-!
SUPPORT. The author's own tests: ill-formed operands that WellFormed refuses, small checks of single commands, and for
each statement of Certificates/Slice0/Obligations.lean a state and operands that meet its hypotheses, clause by clause.
-/

namespace Sys2Proof.Tests
open Sys2Proof Sys2Proof.Machine

set_option maxRecDepth 20000
-- One theorem at a time: proofs run side by side would each hold their own memory.
set_option Elab.async false

/-! ### States for the tests -/

/-- Register values of the running station: blocks enabled, fabric port 0 in four parts with one HOSTIO sub-port,
EAST and WEST joined, MGMT open, drives 0 to 7 enabled. -/
def runRegs : NMap W32 := [
  (0x04000000, 1), (0x06000000, 1), (0x07000000, 1), (0x08000000, 1), (0x09000000, 1),
  (0x0A000000, 7), (0x0A040000, 7), (0x0B000000, 1), (0x0C000000, 1), (0x0D000000, 1), (0x0E000000, 1),
  (0x0F000000, 1), (0x0F080000, 1), (0x0F100000, 1), (0x0F180000, 1), (0x0F200000, 1), (0x0F280000, 1),
  (0x0F300000, 1), (0x0F380000, 1),
  (0x10000000, 1), (0x10000018, 9), (0x11000000, 1), (0x12000000, 1), (0x13000000, 1),
  (0x14000000, 1), (0x14000004, 2), (0x14001000, 0x40FAC688), (0x15000000, 1), (0x15001000, 0xC0FAC688),
  (0x15100000, 1), (0x15101000, 0xC0FAC688), (0x15200000, 0x00070001), (0x1520000C, 0xA03),
  (0x16000000, 0x203), (0x17000000, 3),
  (0x104000210, 0x80000001), (0x204000210, 0xC0000001), (0x204000220, 0x80000002)]

def hostA : Session :=
  { hostEp := 5, ports := [some 0, none, none, none], qpBase := 0, qpCount := 8, priv := true, qcbHandle := 1
    qcbGen := 0, qcbOff := 0, kato := 100, st := .opened, ctx := 8 }

def pairA : Qp :=
  { sid := 1, st := .enabled, sqSize := 16, cqSize := 16, poll := 5, notifyEn := true, credits := 10, sched := some (.doorbell 3)
    unnotified := 1, heldSlots := [(2, 0, true)], notifyHold := some 7 }

def sentA : Desc :=
  { kind := .dataWrite 30 0 none, sid := 1, dst := 5, op := 1, region := 0, gen := 0, offset := 0, length := 512
    payload := [1], st := .sent, interval := 50 }

def readA : Cmd := { sid := 1, qpid := 1, cid := 3, opc := 2, admin := false, nsid := 1, nlb := 1, stage := .running, engine := some 0 }

def driveA : Drive :=
  { st := .ready, present := true, gen := 5, width := 4, pwren := true, perstN := true, info := { blocks := 8000000 }, inited := true
    formatted := true, limit := 64 }

def memberA (d : Nat) : Member := { drive := d }

def groveA : Grove :=
  { n := 6, chunk := 0, zoned := false, members := (List.range 6).map memberA, cap := 8000000, reservePct := 7, segCount := 400 }

/-- A station that runs: one session, queue pair 1, one read under way, six drives in grove 0, one namespace. -/
def run : State :=
  { now := 5000000, regs := { val := runRegs }
    xylem := { started := true, nextReq := 9, descs := [(1, { sentA with st := .paced }), (2, sentA), (3, { sentA with retries := 20 })] }
    bud := { sess := [(1, hostA)], qps := [(0, { pairA with sched := none }), (1, pairA)], cmds := [(30, readA)] }
    twigs := [(0, { started := [30] })]
    heart := { ns := [(1, { grove := 0, nsze := 1000, ncap := 1000, flbas := 0, dps := 0, attached := [1] })] }
    groves := [(0, groveA)]
    drives := (List.range 6).map fun d => (d, driveA)
    ports := [(0, { up := true }), (1, { up := true }), (32, { up := true }), (33, { up := true })]
    mmac := { phyRstN := true, full := true, speed := 2 }
    pith := { a := .active, b := .cold }
    seed := { boot := .running }
    dram := { enabled := true, trained := 15 }
    links := [2, 2, 2, 2, 2, 2, 2, 2, 2, 2, 2, 2] }

def booting (b : Boot) : State := { run with seed := { run.seed with boot := b } }
def sealed_ : State := { run with sap := { run.sap with flush := some .sealed } }
def withReg (a : Nat) (v : W32) (s : State) : State := { s with regs := s.regs.put a v }
def recovering (b : Option (Nat × Nat × Nat)) (regs : NMap W32) : State :=
  { run with regs := { val := regs }, seed := { run.seed with boot := .recovery, cause := 2, recBusy := b, checked := [0] } }
def linksAt (b : BitVec 2) : State := { run with links := b :: run.links.tail }
def taking (p : Bool) (ph : TakePhase) : State :=
  { run with pith := { run.pith with take := some { cause := .operator, planned := p, phase := ph, from_ := 5 } } }
def reloading (b ph : Nat) : State := { run with pith := { run.pith with reload := some { tag := 30, bough := b, phase := ph, since := 5 } } }
def saved (v : W32) : State := { run with regs := { run.regs with snaps := [(0x09000FFC * 8, { path := .pith, vals := [(0x09000004, v)] })] } }
def packet (op : BitVec 4) (dst : W32) : Pkt := { op := op, keyIndex := 2, dstEp := dst, srcEp := 5, reqId := 2 }
def framed (q : Pkt) : Frame :=
  { len := 130, ip := some {}, udp := some { dport := 0xE1A0, len := 56 }, body := .ahnath q }
def plain (ty : BitVec 16) : Frame := { len := 64, ethertype := ty, body := .other [] }
def gated : Port := { up := true, gate := some { entries := [(0xFF, 500), (1, 500)], cycle := 1000, base := 0 } }
def halfA : State :=
  { withReg 0x16000000 0x201 run with mmac := { cur := some { frame := plain 0x0800, tc := 7, since := 4999000 }, phyRstN := true } }
def parked : State :=
  { run with bud := {}, twigs := [(0, { deque := List.replicate 8 30 }), (1, { parked := true })], sap := { res := [(0, { sp := 2 })] } }
def flushing (p : FlushPhase) (l : NMap Drive) : State :=
  { run with drives := l, sapw := { vaultSet := NMap.keys l }, sap := { run.sap with flush := some p, pwrfailLow := true } }
def noted (k : Nat) : State := { run with bud := { run.bud with hostLog := [(1, { gaps := [(3, (5, k, 6, 7))] })] } }
def full : State := withReg 0x04000014 1 run
def ringing : State := { run with ring := { east := { live := true, known := true }, byp := some 7 }, seed := { run.seed with straps := 0x10 } }
def sending (p : Nat) : State := { run with crown := { queues := [(8 * p + 3, [{ frame := plain 0x0800, tc := 3, since := 4999000 }])] } }
def known (l : Bool) : State :=
  { withReg 0x13000200 5 run with crown := { fwd := [(5, { learned := l, kind := 0, port := 0, alt := 0xF, sub := 0, altSub := 0, path := 0 })] } }
def heard (q : Pkt) : State := { run with xylem := { run.xylem with inbox := [(10, [{ sub := 34, pkt := q }])] } }
def paced : Desc := { sentA with st := .paced }
def cmdIn (c : Cmd) : State := { run with bud := { run.bud with cmds := [(30, c)] } }
def pairIn (x : Qp) : State := { run with bud := { run.bud with qps := [(1, x)] } }
def sessIn (x : Session) : State := { run with bud := { sess := [(1, x)] }, xylem := { started := true } }
def rung : Doorbell := { qpid := 1, sqv := true, cqv := false, sqTail := 5, cqHead := 0 }
def freeze (s : State) : State := { s with xylem := { s.xylem with started := false } }
def doneA : Cmd := { readA with stage := .finished, status := some { sct := 0, sc := 0 }, retxAt := some 5 }
def placedA : Cmd := { readA with stage := .placed }
def laden : State :=
  { run with bud := { run.bud with cmds := [(30, placedA), (31, placedA), (32, placedA), (33, placedA)] }, twigs := [(0, { deque := [30, 31, 32, 33] })] }
def holding : State :=
  { run with crown := { hold := [(10, [{ sub := 34, frame := framed (packet 6 9), since := 4999999 }])] } }
def closing : Qp := { pairA with st := .disabling, unnotified := 0, notifyHold := none, heldSlots := [] }
def drained : State := { pairIn closing with bud := { (pairIn closing).bud with cmds := [] }, xylem := { started := true } }
def driveIn (v : Drive) : State := { run with drives := [(7, v)] }
def cmdD : DriveCmd := { id := 2, purpose := .chunk 0 5 1, isWrite := true, lba := 4096, nb := 1, slot := 1, cmdMs := 2000, abortMs := 500 }
def adm (opc : Nat) (w10 w11 w12 w13 : W32) : Cmd :=
  { sid := 1, qpid := 0, cid := 3, opc := opc, admin := true, nsid := 1, cdw10 := w10, cdw11 := w11, cdw12 := w12, cdw13 := w13 }
def starting (c : Cmd) : State := { cmdIn c with twigs := [(0, { deque := [30] })] }
def io (opc : Nat) : Cmd := { readA with opc := opc, stage := .placed }
def mapped (l : Loc) : State := { cmdIn { readA with nlb := 1, cdw10 := 0 } with heart := { run.heart with map := [(2 ^ 48, l)] } }
def groveIn (g : Grove) : State := { run with groves := [(0, g)] }
def segA : Seg := { st := 1, stream := .host }
def rebuildA : Rebuild := { slot := 5, spare := 7, failed := 5, bitmap := [3], cursor := 192 }
def sparesIn (g : Grove) (c : Cmd) : State :=
  { cmdIn c with groves := [(0, g)], drives := run.drives ++ [(6, driveA), (7, { driveA with spare := some 0 })] }
def crowded : State :=
  { run with bud := { run.bud with cmds := ([30, 31, 32, 33, 34] : List Nat).map fun i => (i, { adm 12 0 0 0 0 with cid := i, stage := if i == 30 then .accepted else .running }) } }
def moveA : MovePiece := { slba := 0, nlb := 1, fromA := 3, fromB := 4, seg := 6, off := 9 }
def pieceA : Piece := { grove := 0, seg := 3, stripe := 1, d := 0, b0 := 0, nb := 1, shoot := true, recips := [], done := true, doneAt := 8, attachable := true }

/-! ### Ill-formed commands -/

/-- Commands that `Instr.wf` refuses, part 1. -/
def illFormed1 : List Instr :=
  [.frameReceive 36 (plain 0x0800), .pauseFrameReceive 35 1, .barkHoldRelease 11, .doorbellReceive 11,
    .ackReceive 11, .nakReceive 11, .readRespReceive 11, .unsupportedPacketReceive 11, .fetch 16384,
    .shadowPoll 16384, .notifyCoalExpiry 16384, .queuePairDisableDone 16384, .sessionResetSettle 4096,
    .keepaliveExpiry 4096, .namespaceDeleteRecord 0, .namespaceDeleteRecord 4097, .stealAttempt 64,
    .stripeOpen 4 .host, .stripeIdleClose 4 .map, .driveCommandComplete 24 0 .aborted, .prunerVictimSelect 4,
    .segmentFree 4 0, .memberFail 4 0, .rebuildSegmentDone 4]

/-- Commands that `Instr.wf` refuses, part 2. -/
def illFormed2 : List Instr :=
  [.resyncStripe 4 [], .egressSelect 40, .linkUp 34, .linkDown 34 true, .portClassWrite 35 0, .indicationRead 35,
    .gateEntryAdvance 34, .gateListSwap 34, .boughVacated 4, .reloadAbort 4, .reloadRetry 4, .microcodeLoaded 4,
    .drivePresent 24, .debounceExpiry 24, .powerDelayExpiry 24, .linkTrained 24 4 4, .linkTrainTimeout 24,
    .configWaitExpiry 24, .driveInitDone 24 { blocks := 0 }, .driveInitTimeout 24, .surpriseRemoval 24,
    .drivePowerOff 24 true, .rootletDisable 24, .rootletEnable 24]

/-- Commands that `Instr.wf` refuses, part 3. -/
def illFormed3 : List Instr :=
  [.aerCorrectable 24, .aerNonfatal 24 0, .aerFatal 24, .inboundViolation 24 true 0 1, .containmentRelease 24,
    .driveCommandTimeout 24 0, .abortWaitExpiry 24 0, .controllerResetDone 24 true, .sapIdleExpiry (.port 10) 1,
    .sapIdleExpiry .engines 4, .sapStateExit (.drive 24), .droopTrip 6, .droopRelease 6, .thermalSample [[50]],
    .throttleStep 6, .referenceLoss (.pcie 4), .selftestDone [true] (List.replicate 12 2),
    .selftestDone (List.replicate 6 true) [2], .dlinkRetrain 12, .dlinkRetrainDone 12 true, .dlinkDown 12,
    .commitApply 0x09000FFC 32, .twigCommitSteal 64, .fmacCommitGate 10 0]

/-- Commands that `Instr.wf` refuses, part 4. -/
def illFormed4 : List Instr :=
  [.fmacCommitGate 0 4, .rootletCommitIo 24, .eventPendClear 64 1, .hostEventGapExpiry 4096 0,
    .hostEventGapExpiry 0 4096, .engineCounterWrap 64 0, .engineCounterWrap 0 6, .engineCounterClear 6,
    .linkEqualizationFail 24, .rootletDisableWaitExpiry 24, .powerStateExitDone (.port 10)]

/-- For each check of `Instr.wf`, a command it refuses. -/
def illFormed : List Instr :=
  [illFormed1, illFormed2, illFormed3, illFormed4].flatten

theorem test_ill_formed_refused : illFormed.all (fun c => !c.wf) = true := by decide

theorem test_boundaries_accepted :
    ([.frameReceive 35 (plain 0x0800), .doorbellReceive 10, .fetch 16383, .keepaliveExpiry 4095, .namespaceDeleteRecord 1,
      .namespaceDeleteRecord 4096, .stealAttempt 63, .stripeOpen 3 .host, .egressSelect 39, .linkUp 33, .boughVacated 3,
      .drivePresent 23, .droopTrip 5, .dlinkDown 11, .fmacCommitGate 9 3, .eventPendClear 63 0, .engineCounterClear 5,
      .sapIdleExpiry (.port 9) 3] : List Instr).all Instr.wf = true := by decide

/-! ### Worked examples of spec/ -/

/-- The answer that a command leaves, for tests of one field of it. -/
def after (c : Instr) (s : State) : State :=
  match exec c s with
  | .next t => t
  | _ => s

/-- The example under R53: RATE 4,000, 64 answers of which 16 marked. -/
theorem test_rate_falls :
    (({ rate := 4000, portRate := 8000, acked := 64, marked := 16, sent := true } : RateSlot).update 10 50 4 200 8000).rate = 2093
      ∧ (({ rate := 4000, portRate := 8000, acked := 64, marked := 16, sent := true } : RateSlot).update 10 50 4 200 8000).alpha = 976 := by
  decide

theorem test_rate_rises :
    (({ rate := 2093, portRate := 8000, acked := 5, sent := true } : RateSlot).update 10 50 4 200 8000).rate = 2143 := by decide

/-- Ten members with 128 KiB chunks, as in the examples of spec/06. -/
def tenDrives : Grove :=
  { n := 10, chunk := 1, zoned := false, members := (List.range 10).map memberA, cap := 7500000000, reservePct := 7
    segCount := 3659293 }

/-- Rows of Table 6.1: P, Q, and the data chunks in order. -/
theorem test_placement_table :
    ([0, 1, 2, 3, 9].map fun s => (tenDrives.pSlot s, tenDrives.qSlot s, (List.range 8).map (tenDrives.dSlot s))) =
      [(9, 0, [1, 2, 3, 4, 5, 6, 7, 8]), (8, 9, [0, 1, 2, 3, 4, 5, 6, 7]), (7, 8, [9, 0, 1, 2, 3, 4, 5, 6]),
        (6, 7, [8, 9, 0, 1, 2, 3, 4, 5]), (0, 1, [2, 3, 4, 5, 6, 7, 8, 9])] := by decide

/-- The example under R146: SEG 5, OFF 1,000 is block 5,777,512 of the drive in slot 5. -/
theorem test_locate_block :
    tenDrives.place 5 1000 = (323, 7, 8) ∧ tenDrives.dSlot 323 7 = 5 ∧ tenDrives.chunkLba 323 + 8 = 5777512 := by decide

/-- The example under R147: 228,380,993,650,688 bytes. -/
theorem test_usable_capacity : tenDrives.usable * 4096 = 228380993650688 := by decide

/-- The example of spec/19: the default ring holds 3,788 records with ENG_REC set. -/
theorem test_sweep_records : (withReg 0x04000000 2 State.reset).sweepRecs = 3788 := by
  decide +kernel

/-- The example under R387: the largest and the smallest population. -/
theorem test_dram_population :
    State.reset.dramGib = 128 ∧ (withReg 0x18000004 0x20125 State.reset).dramGib = 2048 := by decide +kernel

/-- The example of spec/16: overlays 2, 5 and 15 write CROWN_AGE. -/
theorem test_overlays_merge :
    NMap.get? (mergeSets [{ kind := 1, addr := 0x13000008, mask := 0xFFF, value := 0x64 },
      { kind := 1, addr := 0x13000008, mask := 0x03FF0000, value := 0x320000 },
      { kind := 1, addr := 0x13000008, mask := 0xFFF, value := 0xC8 }]) 0x13000008 = some 0x3200C8 := by decide +kernel

/-- The gate list of the example under R253: two entries of a cycle of 100,000 ns. -/
def gateA : GateList := { entries := [(0x80, 2000), (0xFF, 98000)], cycle := 100000, base := 0 }

/-- Class 0 has 300 ns left at 99,700 ns, none at 100,400 ns, and class 7 is always open. -/
theorem test_gate_example :
    gateA.openFor 0 99700 = some 300 ∧ gateA.openFor 0 100400 = some 0 ∧ gateA.openFor 0 102000 = some 98000
      ∧ gateA.openFor 7 100400 = none := by decide +kernel

/-- The example of spec/18: three operations of one Register Access request. -/
def threeWrites : List Byte :=
  [0x11, 3, 0, 0x31, 0, 0, 0, 0] ++ [2, 0, 0, 0] ++ beBytes 4 0x1000000C ++ beBytes 4 0x0FA00064 ++ beBytes 4 0
    ++ [2, 0, 0, 0] ++ beBytes 4 0x10000FFC ++ beBytes 4 1 ++ beBytes 4 0
    ++ [2, 0, 0, 0] ++ beBytes 4 0x10000008 ++ beBytes 4 0x2710 ++ beBytes 4 0

/-- STATUS and DATA of an operation of the newest response. -/
def answered (s : State) (i : Nat) : Nat × Nat :=
  match s.ra with
  | [] => (0xFF, 0)
  | r :: _ => (be r.payload (8 + 16 * i + 1) 1, be r.payload (8 + 16 * i + 8) 4)

theorem test_register_access_example :
    let s := after (.registerAccessFrame 0x77 1 none threeWrites) (withReg 0x16000104 0x77 run)
    answered s 0 = (0, 0x0FA00064) ∧ answered s 1 = (0, 0) ∧ answered s 2 = (3, 0x1F40) := by decide +kernel

/-! ### Single commands -/

/-- R69, R70: an idle queue pair stays; the doorbell's tail is kept for the next fetch (Table 3.6). -/
theorem test_doorbell_schedules :
    (((after (.doorbellReceive 10) (heard { packet 6 9 with length := 8, payload := [0x80, 1, 0, 7, 0, 0, 0, 0] })).qp? 1).map
      (·.sched)) = some (some (.doorbell 7)) := by decide +kernel

/-- R73: DW2 and DW3 of a completion with SCT 7, SC 0x84, CID 3, phase 1, of queue pair 1. -/
theorem test_completion_bytes :
    le (completionEntry { sct := 7, sc := 0x84 } 5 1 3 true) 8 4 = 0x10005
      ∧ le (completionEntry { sct := 7, sc := 0x84 } 5 1 3 true) 12 4 = 3 + 2 ^ 16 + 2 ^ 17 * 0x84 + 2 ^ 25 * 7 + 2 ^ 30 + 2 ^ 31 := by decide

/-- R346: RESET_N clears the register file and leaves the media. -/
theorem test_reset_keeps_media :
    (after .resetAssert { run with media := { imageKey := some 5 } }).regs = {}
      ∧ (after .resetAssert { run with media := { imageKey := some 5 } }).media.imageKey = some 5 := by decide +kernel

/-- R297: a watchdog expiry fences the active pair and wakes the other. -/
theorem test_watchdog_fences :
    (after (.watchdogExpiry none) run).pith.a = .fenced ∧ (after (.watchdogExpiry none) run).pith.take.isSome = true := by
  decide +kernel

/-- R314: a drive that disappears without POWER_OFF counts a surprise removal and is absent. -/
theorem test_surprise_removal : ((after (.surpriseRemoval 3) run).drive 3).present = false := by decide +kernel

/-- An empty queue: the block's clock advances by one nanosecond (log entry 1). -/
theorem test_idle_step : (match step run with | .next t => t.now | _ => 0) = 5000001 := by decide +kernel

/-! ### Witnesses of the statements' hypotheses -/

theorem witness_StepRunsFrontCommand :
    (∃ (s : State) (c : Instr) (rest : List Instr), s.pending = c :: rest) ∧
    (∃ (s : State), s.pending = []) :=
  ⟨⟨{ run with pending := [.watchdogKick, .crownScrub] }, .watchdogKick, [.crownScrub], by decide +kernel⟩,
    ⟨run, by decide +kernel⟩⟩

theorem witness_StepKeepsRegisterForm :
    ∃ (s t : State), s.Inv ∧ step s = .next t :=
  ⟨run, run.advance 1, by unfold State.Inv; decide +kernel, rfl⟩

theorem witness_OnlyRegisterCommandsWriteRegisters :
    ∃ (c : Instr), c.writesRegs = false :=
  ⟨.crownScrub, by decide +kernel⟩

theorem witness_EndOfACommandTouchesHostSideOnly :
    ∃ (t : State), t.aerDue = [] :=
  ⟨run, by decide +kernel⟩

theorem witness_ResetAssertResetsEveryBlock :
    ∃ (s : State), (s.seed.boot ≠ .reset ∨ s.sap.flush = some .sealed) :=
  ⟨run, by decide +kernel⟩

theorem witness_ReleaseAndRestartsSampleStraps :
    (∃ (s : State), s.seed.boot = .reset ∧ s.sap.flush = none) ∧
    (∃ (s : State), s.alive = true) ∧
    (∃ (s : State), s.mayRestart = true) :=
  ⟨⟨State.reset, by decide +kernel⟩,
    ⟨run, by decide +kernel⟩,
    ⟨sealed_, by decide +kernel⟩⟩

theorem witness_StartUpPhases :
    (∃ (s : State), s.seed.boot = .clocks) ∧
    (∃ (s : State) (pass : List Bool) (links : List (BitVec 2)), s.seed.boot = .selftest ∧ pass.length = 6 ∧
      links.length = 12 ∧ (pass.getD 0 false && pass.getD 5 false) = false) ∧
    (∃ (s : State) (pass : List Bool) (links : List (BitVec 2)), s.seed.boot = .selftest ∧ pass = List.replicate 6 true ∧
      links.length = 12 ∧ (∀ k < 4, ({ s with links := links.map trainedLink } : State).reaches k = true)) ∧
    (∃ (s : State) (pass : List Bool) (links : List (BitVec 2)), s.seed.boot = .selftest ∧ pass.length = 6 ∧
      links.length = 12 ∧ (pass.getD 0 false && pass.getD 5 false) = true ∧ false ∈ pass) ∧
    (∃ (s : State), s.seed.boot = .image ∧ s.sap.pwrfailLow = false ∧ s.media.imageKey = none) ∧
    (∃ (s : State), s.seed.boot = .image ∧ s.sap.pwrfailLow = false ∧ s.media.imageKey ≠ none) ∧
    (∃ (s : State), s.seed.boot = .base ∧ s.popOk = true) ∧
    (∃ (s : State), s.seed.boot = .base) ∧
    (∃ (s : State), s.seed.boot = .drives ∧ (s.allSettled = true ∨ s.seed.waited = true)) ∧
    (∃ (s : State), s.seed.boot = .drives ∧ s.allSettled = false ∧ s.seed.waited = false) ∧
    (∃ (s : State), s.seed.boot = .restore) ∧
    (∃ (s : State), s.seed.boot = .serve ∧ s.seed.seq ≠ []) ∧
    (∃ (s : State), s.seed.boot = .serve ∧ s.goSeq.seed.seq = []) :=
  ⟨⟨booting .clocks, by decide +kernel⟩,
    ⟨booting .selftest, [false, true, true, true, true, true], [2, 2, 2, 2, 2, 2, 2, 2, 2, 2, 2, 2], by decide +kernel⟩,
    ⟨booting .selftest, List.replicate 6 true, [2, 2, 2, 2, 2, 2, 2, 2, 2, 2, 2, 2], by decide +kernel⟩,
    ⟨booting .selftest, [true, false, true, true, true, true], [2, 2, 2, 2, 2, 2, 2, 2, 2, 2, 2, 2], by decide +kernel⟩,
    ⟨booting .image, by decide +kernel⟩,
    ⟨{ booting .image with media := { imageKey := some 5 } }, by decide +kernel⟩,
    ⟨booting .base, by decide +kernel⟩,
    ⟨booting .base, by decide +kernel⟩,
    ⟨booting .drives, by decide +kernel⟩,
    ⟨{ booting .drives with drives := [(0, { driveA with st := .waiting })] }, by decide +kernel⟩,
    ⟨booting .restore, by decide +kernel⟩,
    ⟨{ run with seed := { boot := .serve, seq := [(1, 0, 0, 0)] } }, by decide +kernel⟩,
    ⟨booting .serve, by decide +kernel⟩⟩

theorem witness_RecoveryOperations :
    (∃ (s : State), s.inRecovery = true ∧ s.seed.recBusy = none ∧ 16 ≤ s.recPage) ∧
    (∃ (s : State), s.inRecovery = true ∧ s.seed.recBusy = none) ∧
    (∃ (s : State), s.inRecovery = true ∧ s.seed.recBusy = none ∧ s.seed.checked.contains s.recSlot = true) ∧
    (∃ (s : State), s.inRecovery = true ∧ s.seed.recBusy = none ∧ s.media.imageKey = none) ∧
    (∃ (s : State), s.alive = true ∧ s.inRecovery = false) ∧
    (∃ (s : State) (slot page : Nat), s.seed.recBusy = some (1, slot, page)) ∧
    (∃ (s : State) (slot page : Nat), s.seed.recBusy = some (2, slot, page)) ∧
    (∃ (s : State) (slot page : Nat), s.seed.recBusy = some (3, slot, page)) ∧
    (∃ (s : State) (slot page : Nat), s.seed.recBusy = some (4, slot, page)) ∧
    (∃ (s : State) (slot page : Nat), s.seed.recBusy = some (5, slot, page)) ∧
    (∃ (s : State) (op slot page : Nat), s.seed.recBusy = some (op, slot, page)) :=
  ⟨⟨recovering none [(0x01000020, 0x10000)], by decide +kernel⟩,
    ⟨recovering none [(0x01000020, 0x10000)], by decide +kernel⟩,
    ⟨recovering none [(0x01000020, 0x10000)], by decide +kernel⟩,
    ⟨recovering none [(0x01000020, 0x10000)], by decide +kernel⟩,
    ⟨run, by decide +kernel⟩,
    ⟨recovering (some (1, 0, 16)) [(0x01000020, 0x10000)], 0, 16, by decide +kernel⟩,
    ⟨recovering (some (2, 0, 16)) [(0x01000020, 0x10000)], 0, 16, by decide +kernel⟩,
    ⟨recovering (some (3, 0, 16)) [(0x01000020, 0x10000)], 0, 16, by decide +kernel⟩,
    ⟨recovering (some (4, 0, 16)) [(0x01000020, 0x10000)], 0, 16, by decide +kernel⟩,
    ⟨recovering (some (5, 0, 16)) [(0x01000020, 0x10000)], 0, 16, by decide +kernel⟩,
    ⟨recovering (some (2, 0, 16)) [(0x01000020, 0x10000)], 2, 0, 16, by decide +kernel⟩⟩

theorem witness_DieLinksRetrain :
    (∃ (s : State) (l : Nat), l < 12 ∧ (s.link l = 2#2 ∨ s.link l = 3#2)) ∧
    (∃ (s : State) (l : Nat), l < 12 ∧ s.link l = 1#2 ∧ s.seed.boot ≠ .selftest) ∧
    (∃ (s : State) (k : Nat), k < 4 ∧ (∀ l < 12, s.link l ≠ 0#2)) ∧
    (∃ (s : State) (k : Nat), k < 4 ∧ (∀ l < 12, s.link l = 0#2 ↔ l = 8 + k)) ∧
    (∃ (s : State) (k : Nat), k < 4 ∧ (∀ l < 12, s.link l = 0#2 ↔ l = k)) :=
  ⟨⟨run, 11, by decide +kernel⟩,
    ⟨linksAt 1, 0, by decide +kernel⟩,
    ⟨run, 1, by decide +kernel⟩,
    ⟨{ run with links := (List.range 12).map fun l => if l == 9 then 0 else 2 }, 1, by decide +kernel⟩,
    ⟨{ run with links := (List.range 12).map fun l => if l == 1 then 0 else 2 }, 1, by decide +kernel⟩⟩

theorem witness_Takeovers :
    (∃ (s : State), s.alive = true ∧ s.pith.pair s.pith.activeB = .active) ∧
    (∃ (s : State), s.pith.pair s.pith.standby = .cold) ∧
    (∃ (s : State), s.pith.pair s.pith.standby = .fenced) ∧
    (∃ (s : State) (t : Takeover), s.alive = true ∧ s.pith.take = some t ∧ t.phase = .wake) ∧
    (∃ (s : State) (t : Takeover), s.alive = true ∧ s.pith.take = some t ∧ t.phase = .boot) ∧
    (∃ (s : State) (t : Takeover), s.alive = true ∧ s.pith.take = some t) ∧
    (∃ (s : State) (t : Takeover), s.alive = true ∧ s.pith.take = some t ∧ t.phase = .restore ∧ (t.planned = false ∨
      s.pithHeld = [])) ∧
    (∃ (s : State) (t : Takeover), s.pith.take = some t ∧ t.planned = true) ∧
    (∃ (s : State) (t : Takeover), s.pith.take = some t ∧ t.planned = false ∧ t.cause ≠ .rehearsal) ∧
    (∃ (s : State) (t : Takeover), s.pith.take = some t ∧ t.planned = false ∧ t.cause = .rehearsal) :=
  ⟨⟨run, by decide +kernel⟩,
    ⟨run, by decide +kernel⟩,
    ⟨{ run with pith := { run.pith with b := .fenced } }, by decide +kernel⟩,
    ⟨taking false .wake, { cause := .operator, planned := false, phase := .wake, from_ := 5 }, by decide +kernel⟩,
    ⟨taking false .boot, { cause := .operator, planned := false, phase := .boot, from_ := 5 }, by decide +kernel⟩,
    ⟨taking true .boot, { cause := .operator, planned := true, phase := .boot, from_ := 5 }, by decide +kernel⟩,
    ⟨taking true .restore, { cause := .operator, planned := true, phase := .restore, from_ := 5 }, by decide +kernel⟩,
    ⟨taking true .restore, { cause := .operator, planned := true, phase := .restore, from_ := 5 }, by decide +kernel⟩,
    ⟨taking false .restore, { cause := .operator, planned := false, phase := .restore, from_ := 5 }, by decide +kernel⟩,
    ⟨{ run with pith := { run.pith with take := some { cause := .rehearsal, planned := false, phase := .restore, from_ := 5 } } },
      { cause := .rehearsal, planned := false, phase := .restore, from_ := 5 }, by decide +kernel⟩⟩

theorem witness_RehearsalRearmAndCheckpoint :
    (∃ (s : State) (t : Nat), s.alive = true ∧ s.pairRuns = true ∧ s.pith.rehearseAt = some t) ∧
    (∃ (s : State), s.alive = true ∧ (s.pith.a = .fenced ∨ s.pith.b = .fenced)) ∧
    (∃ (s : State), s.alive = true ∧ s.pairRuns = true) :=
  ⟨⟨{ run with pith := { run.pith with rehearseAt := some 7 } }, 7, by decide +kernel⟩,
    ⟨{ run with pith := { run.pith with b := .fenced } }, by decide +kernel⟩,
    ⟨run, by decide +kernel⟩⟩

theorem witness_BoughSteps :
    (∃ (s : State) (b : Nat), b < 4 ∧ s.stepIn b 0 = true ∧ s.boughEmpty b = true) ∧
    (∃ (s : State) (b : Nat), b < 4 ∧ s.stepIn b 0 = true ∧ s.boughEmpty b = false) ∧
    (∃ (s : State) (b : Nat), b < 4 ∧ s.stepIn b 2 = true) ∧
    (∃ (s : State) (b tag since : Nat), b < 3 ∧ s.pith.reload = some
      { tag := tag, bough := b, phase := 1, since := since }) ∧
    (∃ (s : State) (tag since : Nat), s.pith.reload = some { tag := tag, bough := 3, phase := 1, since := since }) :=
  ⟨⟨reloading 3 0, 3, by decide +kernel⟩,
    ⟨reloading 0 0, 0, by decide +kernel⟩,
    ⟨reloading 3 2, 3, by decide +kernel⟩,
    ⟨reloading 2 1, 2, 30, 5, by decide +kernel⟩,
    ⟨reloading 3 1, 30, 5, by decide +kernel⟩⟩

theorem witness_BlockCountersWrap :
    (∃ (bank c : Nat), c < 16 ∧ ¬(bank = 2 ∧ c = 1) ∧ (¬(bank = 118 ∧ (c = 3 ∨ c = 4)))) ∧
    (∃ (bank c : Nat), c < 16 ∧ ¬(bank = 2 ∧ c = 1) ∧ (¬(bank = 118 ∧ (c = 3 ∨ c = 4)))) :=
  ⟨⟨0, 15, by decide +kernel⟩,
    ⟨118, 2, by decide +kernel⟩⟩

theorem witness_TimebaseAdvances :
    (∃ (s : State), s.tbOn = true ∧ s.time.ns < 1000000000 ∧ s.time.frac < 2 ^ 32 ∧ s.time.sec < 2 ^ 48) ∧
    (∃ (s : State), s.tbOn = false) :=
  ⟨⟨run, by decide +kernel⟩,
    ⟨State.reset, by decide +kernel⟩⟩

theorem witness_RegisterFieldWrites :
    (∃ (s : State) (path : Path) (a : W32), s.pathOpen path = true ∧ s.bridges path a.toNat = true ∧ (a.toNat % 4 ≠ 0 ∨
      inMap a.toNat = false)) ∧
    (∃ (s : State) (path : Path) (a data mask : W32) (r : RegDef), s.pathOpen path = true ∧ s.bridges path a.toNat = true
      ∧ s.inRecovery = false ∧ a.toNat % 4 = 0 ∧ blockOf a.toNat < 26 ∧ regAt a.toNat = some r ∧ s.blockOn a.toNat = true
      ∧ (s.rwWord a.toNat r false ^^^ s.written a.toNat r data mask) &&& r.s &&& ~~~(exempt a.toNat) ≠ 0#32) ∧
    (∃ (s : State) (path : Path), s.pathOpen path = true ∧ s.bridges path 0x24 = true) ∧
    (∃ (s : State) (path : Path), s.pathOpen path = true ∧ s.bridges path 0x24 = true ∧ s.Inv) :=
  ⟨⟨run, .pith, 0x1B000000#32, by decide +kernel⟩,
    ⟨run, .admin, 0x08000008#32, 0xFFFFFFFF#32, 0xFFFFFFFF#32, (regAt 0x08000008).getD (tabChip.getD 0
      ⟨0,0,0,0,0,0,0,0⟩), by decide +kernel⟩,
    ⟨run, .pith, by decide +kernel⟩,
    ⟨run, .pith, by unfold State.Inv; decide +kernel⟩⟩

theorem witness_GateCommits :
    (∃ (s : State) (port sub : Nat), s.Inv ∧ s.alive = true ∧ port < 10 ∧ (if port < 8 then sub < 4 else sub = 0) ∧
      (let p := pointOf port sub; (let a := portBase (pointOf port 0) + 0xFFC; (let vals := s.regs.snapshot a sub;
      s.bridges .pith a = true ∧ s.blockOn a = true ∧ s.groupOk a sub (s.regs.merge vals) = true)))) ∧
    (∃ (s : State) (port sub : Nat), s.Inv ∧ s.alive = true ∧ port < 10 ∧ (if port < 8 then sub < 4 else sub = 0) ∧
      (let a := portBase (pointOf port 0) + 0xFFC; s.bridges .pith a = true ∧ s.blockOn a = true ∧ s.groupOk a sub
      (s.regs.merge (s.regs.snapshot a sub)) = false)) ∧
    (∃ (s : State) (p : Nat) (l : Option GateList) (at_ : Nat), p < 34 ∧ (s.port p).next = some (l, at_) ∧ (s.tbOn = true
      ∨ at_ ≤ s.tbNs)) :=
  ⟨⟨run, 0, 3, by unfold State.Inv; decide +kernel⟩,
    ⟨{ run with regs := { run.regs with shadow := [(0x1510103C, 1)] } }, 9, 0, by unfold State.Inv; decide +kernel⟩,
    ⟨{ run with ports := [(33, { up := true, next := some (none, 7) })] }, 33, none, 7, by decide +kernel⟩⟩

theorem witness_CommitBoundary :
    (∃ (s : State) (a b : Nat) (x : Snap), NMap.get? s.regs.snaps (a * 8 + b) = some x ∧ isGate a b = false ∧ s.Inv ∧
      s.groupOk a b (s.regs.merge x.vals) = true) ∧
    (∃ (s : State) (a b : Nat) (x : Snap), NMap.get? s.regs.snaps (a * 8 + b) = some x ∧ isGate a b = false ∧ s.groupOk a
      b (s.regs.merge x.vals) = false) ∧
    (∃ (h a b : Nat), h ∈ groupRegs a b) :=
  ⟨⟨saved 5, 0x09000FFC, 0, { path := .pith, vals := [(0x09000004, 5)] }, by unfold State.Inv; decide +kernel⟩,
    ⟨saved 0xFF, 0x09000FFC, 0, { path := .pith, vals := [(0x09000004, 0xFF)] }, by decide +kernel⟩,
    ⟨0x09000004, 0x09000FFC, 0, by decide +kernel⟩⟩

theorem witness_PortClassWrites :
    (∃ (s : State) (p : Nat) (c : BitVec 2), s.alive = true ∧ s.Inv ∧ p < 34 ∧ s.bridges .pith (subBase p) = true ∧
      classOk p c.toNat = true) ∧
    (∃ (s : State) (c : BitVec 2), s.alive = true ∧ s.Inv ∧ s.bridges .pith 0x16000000 = true ∧ classOk 34
      c.toNat = true) ∧
    (∃ (s : State) (p : Nat) (c : BitVec 2), s.alive = true ∧ s.Inv ∧ p < 34 ∧ s.bridges .pith (subBase p) = true ∧
      classOk p c.toNat = false) ∧
    (∃ (s : State) (c : BitVec 2), s.alive = true ∧ s.Inv ∧ s.bridges .pith 0x16000000 = true ∧ classOk 34
      c.toNat = false) :=
  ⟨⟨run, 33, 3, by unfold State.Inv; decide +kernel⟩,
    ⟨run, 2, by unfold State.Inv; decide +kernel⟩,
    ⟨run, 31, 3, by unfold State.Inv; decide +kernel⟩,
    ⟨run, 1, by unfold State.Inv; decide +kernel⟩⟩

theorem witness_PithRegisterWrites :
    (∃ (s : State), s.alive = true ∧ s.Inv ∧ s.pithServes = true ∧ s.bridges .pith 0x05000008 = true) ∧
    (∃ (s : State), s.alive = true ∧ s.Inv ∧ s.bridges .pith 0x0500000C = true ∧ s.canPlan = true ∧ s.pith.pair
      s.pith.standby = .cold) ∧
    (∃ (s : State), s.alive = true ∧ s.Inv ∧ s.bridges .pith 0x0500000C = true ∧ s.canPlan = true ∧ s.pith.pair
      s.pith.standby ≠ .cold) ∧
    (∃ (s : State) (path : Path), s.alive = true ∧ s.Inv ∧ s.bridges path 0x0500000C = true ∧ s.inRecovery = false ∧
      s.rehearseRefused path = false) ∧
    (∃ (s : State) (path : Path), s.alive = true ∧ s.Inv ∧ s.bridges path 0x0500000C = true ∧ s.inRecovery = false ∧
      s.rehearseRefused path = true) :=
  ⟨⟨run, by unfold State.Inv; decide +kernel⟩,
    ⟨run, by unfold State.Inv; decide +kernel⟩,
    ⟨{ run with pith := { run.pith with b := .fenced } }, by unfold State.Inv; decide +kernel⟩,
    ⟨{ run with bud := {} }, .frame, by unfold State.Inv; decide +kernel⟩,
    ⟨run, .admin, by unfold State.Inv; decide +kernel⟩⟩

theorem witness_PinDriveAndJoinWrites :
    (∃ (s : State) (r : Res), s.alive = true ∧ s.bridges .pith 0x02000024 = true ∧ s.selRes = some r) ∧
    (∃ (s : State) (d : Nat), s.alive = true ∧ d < 24 ∧ s.bridges .pith (rootBase d) = true ∧ s.rootOn d = false) ∧
    (∃ (s : State) (d : Nat), s.alive = true ∧ d < 24 ∧ s.bridges .pith (rootBase d) = true ∧ s.rootOn d = true) ∧
    (∃ (s : State) (d : Nat) (on : Bool), s.alive = true ∧ d < 24 ∧ s.bridges .pith (rootBase d) = true ∧ s.powerOff
      d = !on ∧ (on = true → s.memberOf d = none)) ∧
    (∃ (s : State) (d : Nat), s.alive = true ∧ d < 24 ∧ s.bridges .pith (rootBase d) = true ∧ s.powerOff d = false ∧
      s.memberOf d ≠ none) ∧
    (∃ (s : State), s.alive = true ∧ s.Inv ∧ s.bridges .pith 0x1520000C = true ∧ s.stationId ≠ 0 ∧ s.stationId ≠ 0xFFFF) :=
  ⟨⟨run, .engines, by decide +kernel⟩,
    ⟨run, 23, by decide +kernel⟩,
    ⟨run, 7, by decide +kernel⟩,
    ⟨run, 7, true, by decide +kernel⟩,
    ⟨run, 0, by decide +kernel⟩,
    ⟨run, by unfold State.Inv; decide +kernel⟩⟩

theorem witness_ClearsAndReadsWithAnEffect :
    (∃ (s : State) (g : Nat), s.alive = true ∧ s.Inv ∧ g < 64 ∧ s.bridges .pith (0x03001000 + 16 * g) = true ∧
      s.aerDue = []) ∧
    (∃ (s : State) (n : Nat), s.alive = true ∧ s.Inv ∧ n < 6 ∧ s.bridges .pith (0x04000210 + 16 * n) = true) ∧
    (∃ (s : State) (p : Nat), s.alive = true ∧ p < 34 ∧ s.bridges .pith (subBase p + 0x20) = true) ∧
    (∃ (s : State), s.alive = true ∧ s.bridges .pith 0x16000120 = true) ∧
    (∃ (s : State), s.alive = true ∧ s.bridges .pith 0x17000040 = true) ∧
    (∃ (s : State), s.alive = true ∧ s.Inv ∧ s.bridges .pith 0x04000024 = true) ∧
    (∃ (s : State) (a : Nat), s.alive = true ∧ s.bridges .pith a = true ∧ s.partners a ≠ []) :=
  ⟨⟨run, 63, by unfold State.Inv; decide +kernel⟩,
    ⟨run, 5, by unfold State.Inv; decide +kernel⟩,
    ⟨run, 33, by decide +kernel⟩,
    ⟨run, by decide +kernel⟩,
    ⟨run, by decide +kernel⟩,
    ⟨run, by unfold State.Inv; decide +kernel⟩,
    ⟨run, 8, by decide +kernel⟩⟩

theorem witness_RegisterAccessIsAnswered :
    (∃ (s : State) (dst own : BitVec 48) (p : List Byte), s.alive = true ∧ s.raPasses p = true ∧ s.portOn 34 = true ∧
      s.portClass 34 = 2 ∧ s.raAddr dst = some own ∧ raMalformed p = true) ∧
    (∃ (s : State) (dst own : BitVec 48) (p : List Byte), s.alive = true ∧ s.raPasses p = true ∧ s.portOn 34 = true ∧
      s.portClass 34 = 2 ∧ s.raAddr dst = some own ∧ raMalformed p = false ∧ be p 1 1 = 1) :=
  ⟨⟨withReg 0x16000104 0x77 run, 0x77, 0x77, [], by decide +kernel⟩,
    ⟨withReg 0x16000104 0x77 run, 0x77, 0x77, [0x11, 1, 0, 7, 0, 0, 0, 0, 1, 0, 0, 0, 0, 0, 0, 0x24, 0, 0, 0, 0, 0, 0, 0,
      0], by decide +kernel⟩⟩

theorem witness_PowerStatesDroopAndHeat :
    (∃ (s : State) (r : Res) (sp : Nat), s.sapRuns = true ∧ r.ok = true ∧ sp < 4 ∧ s.mayDeepen r sp = true) ∧
    (∃ (s : State) (r : Res), s.sapRuns = true ∧ r.ok = true ∧ s.mayExit r = true ∧ s.exitTo r < (s.res r).sp) ∧
    (∃ (s : State), s.sapRuns = true ∧ s.mayExit .engines = true ∧ s.exitTo .engines = (s.res .engines).sp) ∧
    (∃ (s : State) (p t : Nat), s.sapRuns = true ∧ p < 10 ∧ (s.res (.port p)).exiting = some t) ∧
    (∃ (s : State) (d t : Nat), s.sapRuns = true ∧ d < 24 ∧ (s.res (.drive d)).exiting = some t) ∧
    (∃ (s : State) (t : Nat), s.sapRuns = true ∧ (s.res .engines).exiting = some t) ∧
    (∃ (s : State) (die : Nat), s.alive = true ∧ die < 6) ∧
    (∃ (s : State) (die : Nat), s.alive = true ∧ die < 6 ∧ nth s.sap.slowed die false = true) ∧
    (∃ (s : State) (temps : List (List Nat)), s.alive = true ∧ temps.length = 6 ∧ s.sap.therm.length = 6 ∧ (∀ l ∈ temps,
      ∀ x ∈ l, x ≤ s.critC)) ∧
    (∃ (s : State) (temps : List (List Nat)), s.alive = true ∧ temps.length = 6 ∧ (∃ l ∈ temps, ∃ x ∈ l, x > s.critC)) ∧
    (∃ (s : State) (die : Nat), s.alive = true ∧ die < 6 ∧ s.sap.therm.length = 6 ∧ s.thermDue die = true) :=
  ⟨⟨run, .port 3, 1, by decide +kernel⟩,
    ⟨{ run with sap := { res := [(0x103, { sp := 1 })] } } |> withReg (resCfg (.port 3)) 0x80000000, .port 3, by
      decide +kernel⟩,
    ⟨parked, by decide +kernel⟩,
    ⟨{ run with sap := { res := [(0x109, { sp := 1, exiting := some 9 })] } }, 9, 9, by decide +kernel⟩,
    ⟨{ run with sap := { res := [(0x217, { sp := 1, exiting := some 9 })] } }, 23, 9, by decide +kernel⟩,
    ⟨{ run with sap := { res := [(0, { sp := 1, exiting := some 9 })] } }, 9, by decide +kernel⟩,
    ⟨run, 5, by decide +kernel⟩,
    ⟨{ run with sap := { slowed := [false, false, false, false, false, true] } }, 5, by decide +kernel⟩,
    ⟨run, List.replicate 6 [50, 125], by decide +kernel⟩,
    ⟨run, List.replicate 6 [50, 126], by decide +kernel⟩,
    ⟨{ run with sap := { therm := [8, 8, 8, 8, 8, 7] } }, 5, by decide +kernel⟩⟩

theorem witness_PowerFailStarts :
    (∃ (s : State), s.sap.pwrfailLow = false ∧ s.flushable = true ∧ s.sap.flush = none) ∧
    (∃ (s : State), s.sap.pwrfailLow = false ∧ s.flushable = false) ∧
    (∃ (s : State), s.sap.pwrfailLow = true) ∧
    (∃ (s : State), s.flushable = true ∧ s.sap.flush = none) ∧
    (∃ (s : State) (r : RefIn), s.alive = true ∧ r.ok = true ∧ nth s.sap.refLost (refNo r) false = false) :=
  ⟨⟨run, by decide +kernel⟩,
    ⟨booting .image, by decide +kernel⟩,
    ⟨{ run with sap := { pwrfailLow := true } }, by decide +kernel⟩,
    ⟨run, by decide +kernel⟩,
    ⟨run, .pcie 3, by decide +kernel⟩⟩

theorem witness_FlushPhases :
    (∃ (s : State), s.sap.flush = some .stop ∧ s.groves ≠ [] ∧ 2 ≤ s.sapw.vaultSet.length) ∧
    (∃ (s : State), s.sap.flush = some .stop ∧ s.groves ≠ [] ∧ s.sapw.vaultSet.length < 2) ∧
    (∃ (s : State), s.sap.flush = some .stop ∧ s.groves = []) ∧
    (∃ (s : State), s.sap.flush = some .vault ∧ s.vaultOut = false) ∧
    (∃ (s : State), s.sap.flush = some .seal ∧ s.vaultOut = false) :=
  ⟨⟨flushing .stop [(0, driveA), (1, driveA)], by decide +kernel⟩,
    ⟨{ flushing .stop [] with groves := [(0, { groveA with members := [] })] }, by decide +kernel⟩,
    ⟨{ flushing .stop [] with groves := [] }, by decide +kernel⟩,
    ⟨flushing .vault [(0, driveA), (1, driveA)], by decide +kernel⟩,
    ⟨flushing .seal [(0, driveA), (1, driveA)], by decide +kernel⟩⟩

theorem witness_HostEventsAndSweeps :
    (∃ (s : State) (sid n last t : Nat) (d : W32) (log : HostLog), s.hostOk = true ∧ NMap.get? s.bud.hostLog sid = some
      log ∧ NMap.get? log.gaps n = some (last, 0, t, d)) ∧
    (∃ (s : State) (sid n last k t : Nat) (d : W32) (log : HostLog), s.hostOk = true ∧ NMap.get? s.bud.hostLog sid = some
      log ∧ NMap.get? log.gaps n = some (last, k + 1, t, d)) ∧
    (∃ (s : State), s.alive = true ∧ s.on 0x04000000 = true ∧ s.sap.flush = none ∧ s.ringFull = false) ∧
    (∃ (s : State), s.alive = true ∧ s.on 0x04000000 = true ∧ s.sap.flush = none ∧ s.ringFull = true ∧ (s.flag 0x04000008
      31 = true ∨ s.sweepRecs = 0)) ∧
    (∃ (s : State), s.alive = true ∧ s.on 0x04000000 = true ∧ s.sap.flush = none ∧ s.ringFull = true ∧ s.flag 0x04000008
      31 = false ∧ s.sweepRecs ≠ 0) ∧
    (∃ (s : State) (e n : Nat), s.alive = true ∧ e < 64 ∧ n < 6 ∧ s.cycleCounter e n = true ∧ (n = 5 ∨ s.flag (engCfg e
      n) 30 = false)) ∧
    (∃ (s : State) (e n : Nat), s.alive = true ∧ e < 64 ∧ n < 5 ∧ s.cycleCounter e n = true ∧ s.flag (engCfg e n)
      30 = true ∧ s.flag (engCfg e (n + 1)) 31 = true ∧ NMap.getD s.tally.eng (e * 8 + n + 1) 0 + 1 < 2 ^ 48) :=
  ⟨⟨noted 0, 1, 3, 5, 6, 7, { gaps := [(3, (5, 0, 6, 7))] }, by decide +kernel⟩,
    ⟨noted 1, 1, 3, 5, 0, 6, 7, { gaps := [(3, (5, 1, 6, 7))] }, by decide +kernel⟩,
    ⟨run, by decide +kernel⟩,
    ⟨withReg 0x04000008 0x80000040 full, by decide +kernel⟩,
    ⟨full, by decide +kernel⟩,
    ⟨run, 0, 0, by decide +kernel⟩,
    ⟨run, 1, 0, by decide +kernel⟩⟩

theorem witness_DramAndSideband :
    (∃ (s : State), s.dram.enabled = true) ∧
    (∃ (s : State), s.dram.enabled = true ∧ s.flag 0x18000010 0 = true) :=
  ⟨⟨run, by decide +kernel⟩,
    ⟨withReg 0x18000010 0x1801 run, by decide +kernel⟩⟩

theorem witness_FramesAreClassified :
    (∃ (s : State) (p : Nat) (f : Frame), p < 35 ∧ s.canArrive p = true ∧ lengthKinds f ≠ []) ∧
    (∃ (s : State) (p : Nat) (f : Frame), p < 34 ∧ s.canArrive p = true ∧ lengthKinds f = [] ∧ f.ethertype ≠ 0x8808#16 ∧
      s.macAccepts p f = true ∧ headerKinds f = [] ∧ s.portClass p = 0) ∧
    (∃ (s : State) (p : Nat) (f : Frame), p < 35 ∧ s.canArrive p = true ∧ lengthKinds f = [] ∧ f.ethertype ≠ 0x8808#16 ∧
      s.macAccepts p f = false) ∧
    (∃ (s : State) (p : Nat) (f : Frame) (q : Pkt), Admitted s p f ∧ s.isAhnath f = true ∧ f.body = .ahnath q ∧
      q.dstEp = s.stationEp ∧ ((p = 32 ∨ p = 33) → q.op ≠ 8#4 ∧ (s.flag 0x1300000C 31 = false ∨ q.srcEp ≠ s.stationEp))) ∧
    (∃ (s : State) (p : Nat) (f : Frame) (q : Pkt), Admitted s p f ∧ s.isAhnath f = true ∧ f.body = .ahnath q ∧
      q.dstEp ≠ s.stationEp ∧ p ≠ 34 ∧ ((p = 32 ∨ p = 33) → q.op ≠ 8#4 ∧ (s.flag 0x1300000C 31 = false ∨
      q.srcEp ≠ s.stationEp))) ∧
    (∃ (s : State) (p : Nat) (f : Frame) (q : Pkt), Admitted s p f ∧ s.isAhnath f = true ∧ f.body = .ahnath q ∧ (p = 32 ∨
      p = 33) ∧ q.op ≠ 8#4 ∧ s.flag 0x1300000C 31 = true ∧ q.srcEp = s.stationEp) ∧
    (∃ (s : State) (f : Frame) (q : Pkt), Admitted s 34 f ∧ s.isAhnath f = true ∧ f.body = .ahnath q ∧
      q.dstEp ≠ s.stationEp) ∧
    (∃ (s : State) (f : Frame), Admitted s 34 f ∧ s.isAhnath f = false ∧ f.ethertype = 0x88B5#16) ∧
    (∃ (s : State) (p : Nat) (f : Frame), Admitted s p f ∧ s.isAhnath f = false ∧ f.ethertype = 0x88F7#16) ∧
    (∃ (s : State) (p : Nat) (f : Frame) (b : List Byte), Admitted s p f ∧ f.udp = none ∧ f.body = .other b ∧
      f.ethertype ≠ 0x88F7#16 ∧ f.ethertype ≠ 0x88B5#16) ∧
    (∃ (s : State) (f : Frame) (out : Nat) (stamp : Bool), s.on 0x13000000 = true ∧ s.isAhnath f = false ∧ f.pith = some
      (out, stamp) ∧ out < 35) :=
  ⟨⟨run, 0, { plain 0x0800 with len := 63 }, by decide +kernel⟩,
    ⟨run, 1, plain 0x0800, by decide +kernel⟩,
    ⟨run, 0, { plain 0x0800 with dstMac := 1 }, by decide +kernel⟩,
    ⟨run, 34, framed (packet 6 9), packet 6 9, ⟨by decide +kernel, by decide +kernel, by decide +kernel, by
      decide +kernel, by decide +kernel, by decide +kernel, by decide +kernel, by decide +kernel⟩, by decide +kernel⟩,
    ⟨run, 0, framed (packet 6 8), packet 6 8, ⟨by decide +kernel, by decide +kernel, by decide +kernel, by
      decide +kernel, by decide +kernel, by decide +kernel, by decide +kernel, by decide +kernel⟩, by decide +kernel⟩,
    ⟨withReg 0x1300000C 0x80000000 run, 32, framed { packet 6 8 with srcEp := 9 }, { packet 6 8 with srcEp := 9 }, ⟨by
      decide +kernel, by decide +kernel, by decide +kernel, by decide +kernel, by decide +kernel, by decide +kernel, by
      decide +kernel, by decide +kernel⟩, by decide +kernel⟩,
    ⟨run, framed (packet 6 8), packet 6 8, ⟨by decide +kernel, by decide +kernel, by decide +kernel, by decide +kernel,
      by decide +kernel, by decide +kernel, by decide +kernel, by decide +kernel⟩, by decide +kernel⟩,
    ⟨run, plain 0x88B5, ⟨by decide +kernel, by decide +kernel, by decide +kernel, by decide +kernel, by decide +kernel,
      by decide +kernel, by decide +kernel, by decide +kernel⟩, by decide +kernel⟩,
    ⟨run, 32, plain 0x88F7, ⟨by decide +kernel, by decide +kernel, by decide +kernel, by decide +kernel, by
      decide +kernel, by decide +kernel, by decide +kernel, by decide +kernel⟩, by decide +kernel⟩,
    ⟨run, 0, plain 0x0800, [], ⟨by decide +kernel, by decide +kernel, by decide +kernel, by decide +kernel, by
      decide +kernel, by decide +kernel, by decide +kernel, by decide +kernel⟩, by decide +kernel⟩,
    ⟨run, { plain 0x0800 with pith := some (34, true) }, 34, true, by decide +kernel⟩⟩

theorem witness_RingAndPauseFrames :
    (∃ (s : State) (p : Nat), p < 34 ∧ s.canArrive p = true) ∧
    (∃ (s : State), s.canArrive 34 = true) ∧
    (∃ (s : State) (west : Bool), (s.ringMode = 1 ∨ s.ringMode = 2) ∧ s.canArrive (32 + b2n west) = true) ∧
    (∃ (s : State), s.canHeartbeat = true) ∧
    (∃ (s : State) (west : Bool), (s.ringMode = 1 ∨ s.ringMode = 2) ∧ (s.ring.nbr west).live = true) ∧
    (∃ (s : State) (at_ : Nat), s.ring.byp = some at_ ∧ s.ring.held = false) ∧
    (∃ (s : State), s.ringPt = true ∧ s.ring.held = true ∧ s.ring.passing = false) :=
  ⟨⟨run, 33, by decide +kernel⟩,
    ⟨run, by decide +kernel⟩,
    ⟨run, true, by decide +kernel⟩,
    ⟨run, by decide +kernel⟩,
    ⟨ringing, false, by decide +kernel⟩,
    ⟨ringing, 7, by decide +kernel⟩,
    ⟨{ ringing with ring := { held := true } }, by decide +kernel⟩⟩

theorem witness_EgressSelectionAndScrub :
    (∃ (s : State) (p tc : Nat) (f : QFrame), p < 35 ∧ s.pointReady p = true ∧ s.chooseTc p = some tc ∧ headOf (s.queue
      (8 * p + tc)) = some f ∧ s.tooOld f.since = false) ∧
    (∃ (s : State) (tc : Nat) (f : QFrame), s.pointReady 35 = true ∧ s.chooseTc 35 = some tc ∧ headOf (s.queue
      (280 + tc)) = some f ∧ s.tooOld f.since = false) ∧
    (∃ (s : State) (p tc : Nat) (f : QFrame), 36 ≤ p ∧ p < 40 ∧ s.pointReady p = true ∧ s.chooseTc p = some tc ∧ headOf
      (s.queue (8 * p + tc)) = some f ∧ s.tooOld f.since = false ∧ (∀ h, f.frame.ip = some h → h.ecn ≠ .ect0 ∧
      h.ecn ≠ .ect1)) ∧
    (∃ (s : State), s.on 0x13000000 = true) ∧
    (∃ (s : State), s.crown.residue = []) :=
  ⟨⟨sending 34, 34, 3, { frame := plain 0x0800, tc := 3, since := 4999000 }, by decide +kernel⟩,
    ⟨sending 35, 3, { frame := plain 0x0800, tc := 3, since := 4999000 }, by decide +kernel⟩,
    ⟨sending 39, 39, 3, { frame := plain 0x0800, tc := 3, since := 4999000 }, by decide +kernel⟩,
    ⟨run, by decide +kernel⟩,
    ⟨run, by decide +kernel⟩⟩

theorem witness_ForwardingAndShaperWindows :
    (∃ (s : State) (e : Fwd), NMap.get? s.crown.fwd (s.reg 0x13000200).toNat = some e) ∧
    (∃ (s : State), NMap.get? s.crown.fwd (s.reg 0x13000200).toNat = none) ∧
    (∃ (s : State), (let e := fwdOf (s.reg 0x13000204); e.ok = true ∧ s.flag 0x13000204 31 = true ∧ NMap.get? s.crown.fwd
      (s.reg 0x13000200).toNat = none ∧ (s.setOf (s.reg 0x13000200)).length < 8)) ∧
    (∃ (s : State), (fwdOf (s.reg 0x13000204)).ok = false) ∧
    (∃ (s : State) (e : Fwd), NMap.get? s.crown.fwd (s.reg 0x13000200).toNat = some e) ∧
    (∃ (s : State) (ep : W32) (e : Fwd), NMap.get? s.crown.fwd ep.toNat = some e ∧ e.learned = true) ∧
    (∃ (s : State), s.shaperSel = true) ∧
    (∃ (s : State), s.flag 0x12000020 31 = false) ∧
    (∃ (s : State), s.flag 0x12000020 31 = true ∧ s.fld 0x12000020 13 0 < 4096) ∧
    (∃ (s : State) (rate : Nat), s.fld 0x12000008 15 0 ≤ s.fld 0x12000008 31 16 ∧ s.fld 0x1200000C 15 0 ≤ s.fld
      0x1200000C 31 16 ∧ rate = 0) ∧
    (∃ (s : State) (rate : Nat), s.fld 0x12000008 15 0 ≤ s.fld 0x12000008 31 16 ∧ s.fld 0x1200000C 15 0 ≤ s.fld
      0x1200000C 31 16 ∧ rate ≠ 0) ∧
    (∃ (s : State), s.fld 0x12000008 15 0 ≤ s.fld 0x12000008 31 16 ∧ s.fld 0x1200000C 15 0 ≤ s.fld 0x1200000C 31 16) :=
  ⟨⟨known false, { learned := false, kind := 0, port := 0, alt := 0xF, sub := 0, altSub := 0, path := 0 }, by
      decide +kernel⟩,
    ⟨run, by decide +kernel⟩,
    ⟨withReg 0x13000204 0x80F00000 run, by decide +kernel⟩,
    ⟨withReg 0x13000204 0xB0F00000 run, by decide +kernel⟩,
    ⟨known true, { learned := true, kind := 0, port := 0, alt := 0xF, sub := 0, altSub := 0, path := 0 }, by
      decide +kernel⟩,
    ⟨known true, 5, { learned := true, kind := 0, port := 0, alt := 0xF, sub := 0, altSub := 0, path := 0 }, by
      decide +kernel⟩,
    ⟨run, by decide +kernel⟩,
    ⟨run, by decide +kernel⟩,
    ⟨withReg 0x12000020 0x80000FFF run, by decide +kernel⟩,
    ⟨run, 0, by decide +kernel⟩,
    ⟨run, 1, by decide +kernel⟩,
    ⟨run, by decide +kernel⟩⟩

theorem witness_LinksAndTimebase :
    (∃ (s : State) (p : Nat), s.canLink p = true) ∧
    (∃ (s : State) (p : Nat), p < 34 ∧ (s.port p).up = true) ∧
    (∃ (s : State), s.seed.boot ≠ .reset ∧ s.seed.boot ≠ .heldDead) ∧
    (∃ (s : State), s.tbOn = true ∧ s.flag 0x17000000 1 = true ∧ s.fld 0x17000030 29 0 < 1000000000) ∧
    (∃ (s : State) (p : Nat) (g : GateList), p < 34 ∧ s.tbOn = true ∧ (s.port p).gate = some g ∧ 0 < g.cycle) :=
  ⟨⟨run, 2, by decide +kernel⟩,
    ⟨run, 33, by decide +kernel⟩,
    ⟨run, by decide +kernel⟩,
    ⟨run, by decide +kernel⟩,
    ⟨{ run with ports := [(33, gated)] }, 33, { entries := [(0xFF, 500), (1, 500)], cycle := 1000, base := 0 }, by
      decide +kernel⟩⟩

theorem witness_ManagementPort :
    (∃ (s : State), s.portOn 34 = true ∧ s.mmac.mdioBusy = false) ∧
    (∃ (s : State), s.mmac.mdioBusy = true) ∧
    (∃ (s : State) (r1 r4 r5 r9 r10 : BitVec 16) (sp : Nat) (full : Bool), s.portOn 34 = true ∧ (s.flag 0x16000000
      1 = true ∨ s.seed.boot = .recovery) ∧ resolvePhy r1 r4 r5 r9 r10 = some (sp, full)) ∧
    (∃ (s : State) (n : Nat), s.attempting = true ∧ n ≤ 512 ∧ s.mmac.collisions < 15) ∧
    (∃ (s : State) (n : Nat), s.attempting = true ∧ n ≤ 512 ∧ 15 ≤ s.mmac.collisions) ∧
    (∃ (s : State) (f : QFrame) (t : Nat), s.mmac.backoff = some t ∧ s.mmac.cur = some f ∧ s.mmac.carrier = false ∧
      (let u := s.until t; u.tooOld f.since = false)) ∧
    (∃ (s : State) (f : QFrame) (t : Nat), s.mmac.backoff = some t ∧ s.mmac.cur = some f ∧ (let u := s.until t; u.tooOld
      f.since = true)) ∧
    (∃ (s : State), s.halfDuplex = true ∧ s.mmac.carrier = true ∧ s.attempting = false) ∧
    (∃ (s : State) (f : QFrame), s.halfDuplex = true ∧ s.mmac.carrier = true ∧ s.mmac.cur = some f ∧
      s.mmac.backoff = none) ∧
    (∃ (s : State), s.attempting = true ∧ s.mmac.carrier = true) ∧
    (∃ (s : State), s.mmac.phyRstN = false ∧ s.seed.boot ≠ .reset) :=
  ⟨⟨run, by decide +kernel⟩,
    ⟨{ run with mmac := { mdioBusy := true } }, by decide +kernel⟩,
    ⟨run, 0x24, 0x1E0, 0x1E0, 0, 0, 1, true, by decide +kernel⟩,
    ⟨halfA, 512, by decide +kernel⟩,
    ⟨{ halfA with mmac := { halfA.mmac with collisions := 15 } }, 0, by decide +kernel⟩,
    ⟨{ halfA with mmac := { halfA.mmac with backoff := some 7 } }, { frame := plain 0x0800, tc := 7, since := 4999000 },
      7, by decide +kernel⟩,
    ⟨{ halfA with now := 2 ^ 40, mmac := { halfA.mmac with backoff := some 7 } },
      { frame := plain 0x0800, tc := 7, since := 4999000 }, 7, by decide +kernel⟩,
    ⟨{ halfA with mmac := { halfA.mmac with carrier := true, cur := none } }, by decide +kernel⟩,
    ⟨{ halfA with mmac := { halfA.mmac with carrier := true } }, { frame := plain 0x0800, tc := 7, since := 4999000 }, by
      decide +kernel⟩,
    ⟨{ halfA with mmac := { halfA.mmac with carrier := true } }, by decide +kernel⟩,
    ⟨{ run with mmac := { phyHold := 7 } }, by decide +kernel⟩⟩

theorem witness_BarkAndHoldBuffers :
    (∃ (s : State), s.on 0x11000000 = false) ∧
    (∃ (s : State) (q : Pkt), s.on 0x11000000 = true ∧ q.int = true) ∧
    (∃ (s : State) (q : Pkt), s.on 0x11000000 = true ∧ q.int = false) ∧
    (∃ (s : State) (p : Nat) (q : Pkt), (s.barkCheck p q).1 = false) ∧
    (∃ (s : State) (p : Nat) (q : Pkt), s.on 0x11000000 = true ∧ q.int = false ∧ q.keyIndex.getLsbD 0 = false ∧
      s.barkMode p = 2) ∧
    (∃ (s : State) (port : Nat) (h : Held) (rest : List Held) (q : Pkt) (u : Udp), crownIndex port = true ∧ NMap.getD
      s.crown.hold port [] = h :: rest ∧ h.frame.body = .ahnath q ∧ h.frame.udp = some u) ∧
    (∃ (s : State) (h : Held) (u : Udp), s.on 0x10000000 = true ∧ u.csum ≠ .wrong ∧ (h.frame.ip.any (fun i => i.mf ||
      i.fragOff != 0) = true)) ∧
    (∃ (s : State) (h : Held) (u : Udp) (q : Pkt), malformed u q = true ∧ s.on 0x10000000 = true ∧ u.csum ≠ .wrong ∧
      (h.frame.ip.any (fun i => i.mf || i.fragOff != 0) = false)) ∧
    (∃ (s : State) (h : Held) (u : Udp) (q : Pkt) (x : Session), malformed u q = false ∧ s.on 0x10000000 = true ∧
      u.csum ≠ .wrong ∧ (h.frame.ip.any (fun i => i.mf || i.fragOff != 0) = false) ∧ s.sess? q.sid = some x ∧
      q.srcEp ≠ x.hostEp) ∧
    (∃ (s : State) (h : Held) (u : Udp) (q : Pkt) (x : Session), malformed u q = false ∧ s.on 0x10000000 = true ∧
      u.csum ≠ .wrong ∧ (h.frame.ip.any (fun i => i.mf || i.fragOff != 0) = false) ∧ s.sess? q.sid = some x ∧
      q.srcEp = x.hostEp ∧ q.dstEp = s.stationEp ∧ (q.int = true ∨ q.keyIndex.getLsbD 0 = false) ∧ q.op ≠ 8#4) :=
  ⟨⟨State.reset, by decide +kernel⟩,
    ⟨run, { packet 6 9 with flags := 0x80 }, by decide +kernel⟩,
    ⟨run, packet 6 9, by decide +kernel⟩,
    ⟨run, 0, { packet 6 9 with flags := 0x80 }, by decide +kernel⟩,
    ⟨withReg 0x11000004 2 run, 0, packet 6 9, by decide +kernel⟩,
    ⟨holding, 10, { sub := 34, frame := framed (packet 6 9), since := 4999999 }, [], packet 6 9,
      { dport := 0xE1A0, len := 56 }, by decide +kernel⟩,
    ⟨run, { sub := 0, frame := { framed (packet 6 9) with ip := some { mf := true } }, since := 5 },
      { dport := 0xE1A0, len := 56 }, by decide +kernel⟩,
    ⟨run, { sub := 0, frame := { framed (packet 0 9) with ip := some {} }, since := 5 }, { dport := 0xE1A0, len := 56 },
      packet 0 9, by decide +kernel⟩,
    ⟨run, { sub := 0, frame := { framed (packet 6 9) with ip := some {} }, since := 5 }, { dport := 0xE1A0, len := 56 },
      { packet 6 9 with srcEp := 6 }, hostA, by decide +kernel⟩,
    ⟨run, { sub := 0, frame := { framed (packet 6 9) with ip := some {} }, since := 5 }, { dport := 0xE1A0, len := 56 },
      packet 6 9, hostA, by decide +kernel⟩⟩

theorem witness_DoorbellsAreTaken :
    (∃ (s : State) (port : Nat) (x : InPkt), crownIndex port = true ∧ s.inboxHead port = some x ∧ x.pkt.op = 6#4) ∧
    (∃ (s : State) (q : Pkt) (x : Session), s.sess? q.sid = some x) ∧
    (∃ (s : State) (port : Nat) (x : InPkt), crownIndex port = true ∧ s.inboxHead port = some x ∧ (x.pkt.op = 1#4 ∨
      x.pkt.op = 2#4 ∨ x.pkt.op = 7#4)) ∧
    (∃ (s : State) (sid : Nat) (b : Doorbell) (y : Session) (x : Qp), s.sess? sid = some y ∧ s.on 0x09000000 = true ∧
      y.qpBase ≤ b.qpid ∧ b.qpid < y.qpBase + y.qpCount ∧ s.qp? b.qpid = some x ∧ x.st = .enabled ∧ b.sqv = true ∧
      b.cqv = false) ∧
    (∃ (s : State) (sid : Nat) (b : Doorbell) (y : Session), s.sess? sid = some y ∧ s.on 0x09000000 = true ∧
      (b.qpid < y.qpBase ∨ y.qpBase + y.qpCount ≤ b.qpid)) :=
  ⟨⟨heard (packet 6 9), 10, { sub := 34, pkt := packet 6 9 }, by decide +kernel⟩,
    ⟨run, packet 6 9, hostA, by decide +kernel⟩,
    ⟨heard (packet 7 9), 10, { sub := 34, pkt := packet 7 9 }, by decide +kernel⟩,
    ⟨run, 1, rung, hostA, pairA, by decide +kernel⟩,
    ⟨run, 1, { rung with qpid := 8 }, hostA, by decide +kernel⟩⟩

theorem witness_AnswersMeetTheirRequests :
    (∃ (s : State) (port : Nat) (x : InPkt), crownIndex port = true ∧ s.inboxHead port = some x ∧ x.pkt.op = 4#4) ∧
    (∃ (s : State) (port : Nat) (x : InPkt), crownIndex port = true ∧ s.inboxHead port = some x ∧ x.pkt.op = 5#4 ∧
      (((s.dropInbox port).desc? x.pkt.reqId.toNat).any (fun d => d.fits x.pkt) = false)) ∧
    (∃ (s : State) (port : Nat) (x : InPkt) (d : Desc), crownIndex port = true ∧ s.inboxHead port = some x ∧
      x.pkt.op = 5#4 ∧ s.desc? x.pkt.reqId.toNat = some d ∧ d.fits x.pkt = true) ∧
    (∃ (s : State) (port : Nat) (x : InPkt), crownIndex port = true ∧ s.inboxHead port = some x ∧ x.pkt.op = 3#4) ∧
    (∃ (s : State) (r code : Nat) (d : Desc), s.desc? r = some d ∧ code = 8 ∧ d.st = .sent ∧ d.retries < s.retryLimit) ∧
    (∃ (s : State) (r : Nat) (d : Desc), s.desc? r = some d) :=
  ⟨⟨heard (packet 4 9), 10, { sub := 34, pkt := packet 4 9 }, by decide +kernel⟩,
    ⟨heard ({ packet 5 9 with reqId := 77 }), 10, { sub := 34, pkt := { packet 5 9 with reqId := 77 } }, by
      decide +kernel⟩,
    ⟨heard (packet 5 9), 10, { sub := 34, pkt := packet 5 9 }, sentA, by decide +kernel⟩,
    ⟨heard (packet 3 9), 10, { sub := 34, pkt := packet 3 9 }, by decide +kernel⟩,
    ⟨run, 2, 8, sentA, by decide +kernel⟩,
    ⟨run, 2, sentA, by decide +kernel⟩⟩

theorem witness_RequestTimersAndRates :
    (∃ (s : State) (r : Nat) (d : Desc), s.desc? r = some d ∧ d.st = .sent ∧ d.retries < s.retryLimit) ∧
    (∃ (s : State) (r : Nat) (d : Desc), s.desc? r = some d ∧ d.kind.reserved = false ∧ d.dropped = false) ∧
    (∃ (s : State) (r : Nat) (d : Desc), s.desc? r = some d ∧ d.st = .sent ∧ s.retryLimit ≤ d.retries) ∧
    (∃ (s : State) (n : Nat) (a : AckGather), NMap.get? s.xylem.acks n = some a) ∧
    (∃ (s : State), s.on 0x10000000 = true ∧ s.xylem.started = false) ∧
    (∃ (s : State) (r : Nat) (d : Desc), s.desc? r = some d ∧ s.releasable r d = true) ∧
    (∃ (s : State), s.on 0x10000000 = true) ∧
    (∃ (r : RateSlot) (lo : Nat), r.sent = true ∧ 0 < r.marked ∧ r.rate ≤ r.portRate ∧ lo ≤ r.rate) ∧
    (∃ (r : RateSlot), r.sent = true ∧ r.marked = 0 ∧ 0 < r.acked) ∧
    (∃ (r : RateSlot) (idle : Nat), r.sent = false ∧ r.idle + 1 = idle) :=
  ⟨⟨run, 2, sentA, by decide +kernel⟩,
    ⟨run, 2, sentA, by decide +kernel⟩,
    ⟨run, 3, { sentA with retries := 20 }, by decide +kernel⟩,
    ⟨{ run with xylem := { run.xylem with acks := [(4, { sid := 1, dst := 5, slotBit := false, ids := [1], ce := 0, since := 7 })] } },
      4, { sid := 1, dst := 5, slotBit := false, ids := [1], ce := 0, since := 7 }, by decide +kernel⟩,
    ⟨freeze run, by decide +kernel⟩,
    ⟨run, 1, paced, by decide +kernel⟩,
    ⟨run, by decide +kernel⟩,
    ⟨{ rate := 1000, portRate := 1000, marked := 3, acked := 4, sent := true }, 10, by decide +kernel⟩,
    ⟨{ rate := 1000, portRate := 1000, acked := 4, sent := true }, by decide +kernel⟩,
    ⟨{ rate := 10, portRate := 1000, idle := 3 }, 4, by decide +kernel⟩⟩

theorem witness_RateSlotIndex :
    ∃ (s : State) (ep other : W32), s.slotOf ep = s.slotOf other :=
  ⟨run, 5, 5, by decide +kernel⟩

theorem witness_QuietRuleEnds :
    (∃ (s : State) (tag : Nat) (c : Cmd) (st : Status) (t : Nat), s.cmd? tag = some c ∧ c.status = some st ∧
      c.posted = false ∧ s.owes tag = false ∧ c.retxAt = some t) ∧
    (∃ (s : State) (qpid slot : Nat) (x : Qp) (h : Nat × Nat × Bool), s.qp? qpid = some x ∧ (x.heldSlots.find? (fun h =>
      h.1 == slot) = some h) ∧ h.2.2 = true) ∧
    (∃ (s : State) (qpid t : Nat) (x : Qp), s.qp? qpid = some x ∧ x.notifyHold = some t) ∧
    (∃ (s : State) (qpid : Nat) (x : Qp), s.qp? qpid = some x ∧ x.notifyEn = true ∧ x.st ≠ .disabled ∧ 0 < x.unnotified) ∧
    (∃ (s : State) (q : Nat) (x : Qp), s.qp? q = some x) :=
  ⟨⟨cmdIn doneA |> fun s => { s with xylem := { started := true } }, 30, doneA, { sct := 0, sc := 0 }, 5, by
      decide +kernel⟩,
    ⟨run, 1, 2, pairA, (2, 0, true), by decide +kernel⟩,
    ⟨run, 1, 7, pairA, by decide +kernel⟩,
    ⟨run, 1, pairA, by decide +kernel⟩,
    ⟨run, 1, pairA, by decide +kernel⟩⟩

theorem witness_FetchTurnsAndPolls :
    (∃ (s : State) (q : Nat), qpIndex q = true ∧ s.canFetch q = true) ∧
    (∃ (s : State) (q : Nat), s.canFetch q = true) ∧
    (∃ (s : State) (q p left : Nat), s.bud.turn = some (p, left) ∧ left = 0 ∧ p ∈ s.workers ∧ s.nextTurn = some q) ∧
    (∃ (s : State) (q : Nat) (x : Qp), s.qp? q = some x ∧ x.firstFetch = true ∧ x.sched.isSome = true) ∧
    (∃ (s : State) (q tail : Nat) (x : Qp), tail < x.sqSize ∧ x.sqHead < x.sqSize ∧ (∃ p ∈ s.workers, p ≠ q)) ∧
    (∃ (tail : Nat) (x : Qp), tail < x.sqSize ∧ x.sqHead < x.sqSize) ∧
    (∃ (s : State) (q : Nat) (x : Qp), qpIndex q = true ∧ s.canPoll q = true ∧ s.qp? q = some x) :=
  ⟨⟨run, 1, by decide +kernel⟩,
    ⟨run, 1, by decide +kernel⟩,
    ⟨{ run with bud := { run.bud with qps := [(1, pairA), (2, pairA)], turn := some (2, 0) } }, 1, 2, 0, by
      decide +kernel⟩,
    ⟨run, 1, pairA, by decide +kernel⟩,
    ⟨{ run with bud := { run.bud with qps := [(1, pairA), (2, pairA)], turn := some (2, 0) } }, 1, 3, pairA, by
      decide +kernel⟩,
    ⟨3, pairA, by decide +kernel⟩,
    ⟨run, 1, pairA, by decide +kernel⟩⟩

theorem witness_CompletionsArePosted :
    ∃ (s : State) (tag : Nat) (c : Cmd) (q : Qp) (x : Session), s.cmd? tag = some c ∧ s.qp? c.qpid = some q ∧ s.sess?
      c.sid = some x ∧ s.xylem.started = false :=
  ⟨freeze (cmdIn doneA), 30, doneA, pairA, hostA, by decide +kernel⟩

theorem witness_CompletionEntryFormat :
    (∃ (st : Status) (sqHead q cid : Nat), sqHead < 65536 ∧ q < 65536 ∧ cid < 65536 ∧ st.sc < 256 ∧ st.sct < 8) ∧
    (∃ (s : State) (tag : Nat) (c : Cmd) (q : Qp) (x : Session), s.cmd? tag = some c ∧ s.qp? c.qpid = some q ∧ s.sess?
      c.sid = some x ∧ s.xylem.started = false) :=
  ⟨⟨{ sct := 7, sc := 0x84 }, 65535, 65535, 65535, by decide +kernel⟩,
    ⟨freeze (cmdIn doneA), 30, doneA, pairA, hostA, by decide +kernel⟩⟩

theorem witness_SessionsDrainAndReset :
    (∃ (s : State) (q : Nat), qpIndex q = true ∧ s.disableReady q = true) ∧
    (∃ (s : State) (q : Nat) (x : Qp) (y : Session), s.qp? q = some x ∧ s.sess? x.sid = some y ∧ x.heldControl = false) ∧
    (∃ (s : State) (i : Nat) (x : Session), sessionIndex i = true ∧ s.resetReady i = true ∧ s.sess? i = some x) ∧
    (∃ (s : State) (i : Nat) (x : Session), s.sess? i = some x ∧ s.bud.qps = [] ∧ x.closing = none) ∧
    (∃ (s : State) (i : Nat) (x : Session), sessionIndex i = true ∧ s.sess? i = some x ∧ x.st = .opened ∧ 0 < x.kato) :=
  ⟨⟨drained, 1, by decide +kernel⟩,
    ⟨drained, 1, closing, hostA, by decide +kernel⟩,
    ⟨sessIn { hostA with st := .resetting }, 1, { hostA with st := .resetting }, by decide +kernel⟩,
    ⟨sessIn { hostA with st := .resetting }, 1, { hostA with st := .resetting }, by decide +kernel⟩,
    ⟨run, 1, hostA, by decide +kernel⟩⟩

theorem witness_SessionWindow :
    (∃ (s : State) (k : Nat), s.openCause s.selSession s.stagedSession = some k) ∧
    (∃ (s : State), s.openCause s.selSession s.stagedSession = none) ∧
    (∃ (s : State) (i : Nat) (x : Session), s.openCause i x = none) ∧
    (∃ (s : State) (x : Session), s.sess? s.selSession = some x ∧ x.st = .opened) ∧
    (∃ (s : State) (i : Nat) (x : Session), s.sess? i = some x ∧ x.st = .opened ∧ s.bud.cmds = [] ∧ s.bud.qps = [] ∧
      s.xylem.descs = []) :=
  ⟨⟨run, 3, by decide +kernel⟩,
    ⟨withReg 0x0900010C 0x00010100 run, by decide +kernel⟩,
    ⟨run, 2, { hostA with qpBase := 8, qpCount := 256 }, by decide +kernel⟩,
    ⟨withReg 0x09000100 1 run, hostA, by decide +kernel⟩,
    ⟨sessIn hostA, 1, hostA, by decide +kernel⟩⟩

theorem witness_PlacementAndStealing :
    (∃ (s : State) (tag e : Nat) (c : Cmd), s.cmd? tag = some c ∧ c.stage = .ready ∧ c.status = none ∧ s.placeOn
      c.qpid = some e ∧ s.flows 5 (e / 16 + 1) = true) ∧
    (∃ (s : State) (q : Nat), 0 < s.ctxFree (s.home q)) ∧
    (∃ (s : State) (q e : Nat), s.placeOn q = some e) ∧
    (∃ (s : State) (tag : Nat) (c : Cmd), s.cmd? tag = some c) ∧
    (∃ (s : State) (e : Nat), engineIndex e = true ∧ s.canSteal e = true) ∧
    (∃ (s : State) (e v : Nat), s.victim e = some v) ∧
    (∃ (s : State) (e : Nat), s.victim e = none) :=
  ⟨⟨cmdIn { readA with stage := .ready }, 30, 1, { readA with stage := .ready }, by decide +kernel⟩,
    ⟨run, 1, by decide +kernel⟩,
    ⟨run, 1, 1, by decide +kernel⟩,
    ⟨cmdIn { readA with stage := .ready }, 30, { readA with stage := .ready }, by decide +kernel⟩,
    ⟨laden, 1, by decide +kernel⟩,
    ⟨laden, 1, 0, by decide +kernel⟩,
    ⟨run, 1, by decide +kernel⟩⟩

theorem witness_DrivesComeUp :
    (∃ (s : State) (d : Nat), d < 24 ∧ (s.drive d).present = false ∧ (s.drive d).st = .absent ∧ s.rootOn d = true ∧
      s.powerOff d = false) ∧
    (∃ (s : State) (d : Nat), d < 24 ∧ (s.drive d).st = .debouncing) ∧
    (∃ (s : State) (d : Nat), d < 24 ∧ (s.drive d).st = .powering) ∧
    (∃ (s : State) (d gen width : Nat), d < 24 ∧ s.canTrain d gen width = true) ∧
    (∃ (s : State) (d g : Nat), d < 24 ∧ (s.drive d).st = .training g) ∧
    (∃ (s : State) (d : Nat), d < 24 ∧ (s.drive d).st = .waiting) ∧
    (∃ (s : State) (d : Nat), d < 24 ∧ (s.drive d).st = .initialising) ∧
    (∃ (i : DriveInfo), i.fatal = true) ∧
    (∃ (i : DriveInfo), i.fatal = false) :=
  ⟨⟨driveIn {}, 7, by decide +kernel⟩,
    ⟨driveIn { driveA with st := .debouncing }, 7, by decide +kernel⟩,
    ⟨driveIn { driveA with st := .powering }, 7, by decide +kernel⟩,
    ⟨driveIn { driveA with st := .training 5 }, 7, 4, 1, by decide +kernel⟩,
    ⟨driveIn { driveA with st := .training 4 }, 7, 4, by decide +kernel⟩,
    ⟨driveIn { driveA with st := .waiting }, 7, by decide +kernel⟩,
    ⟨driveIn { driveA with st := .initialising }, 7, by decide +kernel⟩,
    ⟨{ blocks := 8, fatal := true }, by decide +kernel⟩,
    ⟨{ blocks := 8, ver := 0 }, by decide +kernel⟩⟩

theorem witness_DrivesLeaveService :
    (∃ (s : State) (d : Nat), d < 24 ∧ (s.drive d).present = true) ∧
    (∃ (s : State) (d : Nat), s.rootOn d = false) ∧
    (∃ (s : State) (d : Nat), d < 24 ∧ (s.drive d).linked = true) ∧
    (∃ (s : State) (d k : Nat) (c : DriveCmd), d < 24 ∧ s.cmdAt d k = some c) ∧
    (∃ (s : State) (d : Nat) (w : Bool) (a : W64) (n : Nat), d < 24 ∧ (s.drive d).linked = true ∧ (s.drive d).inboundOk w
      a.toNat n = false) ∧
    (∃ (v : Drive) (a n : Nat), v.atDrive = [] ∧ 0x10000000000 ≤ a ∧ 0 < n) ∧
    (∃ (s : State) (d : Nat), d < 24 ∧ (s.drive d).st = .contained) ∧
    (∃ (s : State) (d : Nat), (s.drive d).present = true ∧ s.rootOn d = true) ∧
    (∃ (s : State) (d k : Nat) (c : DriveCmd), d < 24 ∧ s.cmdAt d k = some c ∧ c.abortAt = none ∧ (s.drive
      d).resetting = false) ∧
    (∃ (s : State) (d k t : Nat) (c : DriveCmd), d < 24 ∧ s.cmdAt d k = some c ∧ c.abortAt = some t ∧ (s.drive
      d).resetting = false) ∧
    (∃ (s : State) (d : Nat), d < 24 ∧ (s.drive d).resetting = true) ∧
    (∃ (s : State) (d : Nat), d < 24 ∧ (s.drive d).disabling = true) :=
  ⟨⟨run, 5, by decide +kernel⟩,
    ⟨run, 8, by decide +kernel⟩,
    ⟨run, 5, by decide +kernel⟩,
    ⟨driveIn { driveA with atDrive := [cmdD] }, 7, 2, cmdD, by decide +kernel⟩,
    ⟨driveIn driveA, 7, true, 0xF000400000, 16, by decide +kernel⟩,
    ⟨driveA, 0x10000000000, 1, by decide +kernel⟩,
    ⟨driveIn { driveA with st := .contained }, 7, by decide +kernel⟩,
    ⟨driveIn { driveA with st := .contained }, 7, by decide +kernel⟩,
    ⟨driveIn { driveA with atDrive := [cmdD] }, 7, 2, cmdD, by decide +kernel⟩,
    ⟨driveIn { driveA with atDrive := [{ cmdD with abortAt := some 9 }] }, 7, 2, 9, { cmdD with abortAt := some 9 }, by
      decide +kernel⟩,
    ⟨driveIn { driveA with resetting := true }, 7, by decide +kernel⟩,
    ⟨driveIn { driveA with disabling := true }, 7, by decide +kernel⟩⟩

theorem witness_AdminReadsAndFeatures :
    (∃ (s : State) (tag : Nat) (c : Cmd) (x : Session), s.adminAt tag 0x06 = some c ∧ s.sess? c.sid = some x) ∧
    (∃ (s : State) (tag : Nat) (c : Cmd) (x : Session), s.adminAt tag 0x02 = some c ∧ s.sess? c.sid = some x ∧ s.logPage
      (bits c.cdw10 7 0) c.sid x = none) ∧
    (∃ (s u : State) (tag : Nat) (c : Cmd) (x : Session) (page : List Byte), s.adminAt tag 0x02 = some c ∧ s.sess?
      c.sid = some x ∧ s.logPage (bits c.cdw10 7 0) c.sid x = some (page, u) ∧
      (let off := c.cdw12.toNat + c.cdw13.toNat * 2 ^ 32; off ≤ page.length ∧ c.adminLen ≤ 16777216)) ∧
    (∃ (s : State) (tag : Nat) (c : Cmd) (x : Session), s.adminAt tag 0x0A = some c ∧ s.sess? c.sid = some x ∧ bits
      c.cdw10 10 8 < 2) ∧
    (∃ (s : State) (tag : Nat) (c : Cmd), s.adminAt tag 0x09 = some c ∧ bits c.cdw10 7 0 = 0x0F) ∧
    (∃ (s : State) (tag : Nat) (c : Cmd), s.adminAt tag 0x08 = some c) ∧
    (∃ (s : State) (tag : Nat) (c : Cmd), s.adminAt tag 0x0C = some c ∧ 4 ≤ (s.aers c.sid).length) ∧
    (∃ (s : State) (tag : Nat) (c : Cmd), s.adminAt tag 0x0C = some c ∧ (s.aers c.sid).length < 4) ∧
    (∃ (s : State) (tag : Nat) (c : Cmd), s.adminAt tag 0xC4 = some c ∧ c.regsOk = false) ∧
    (∃ (s : State) (tag : Nat) (c : Cmd), s.adminAt tag 0xC4 = some c ∧ c.regsOk = true ∧ (∀ i < bits c.cdw11 8 0,
      s.bridges .admin (c.cdw10.toNat + 4 * i) = true)) ∧
    (∃ (s : State) (tag : Nat) (c : Cmd), s.adminAt tag 0xC5 = some c ∧ (c.regsOk = true → ∀ i < bits c.cdw11 8 0,
      s.bridges .admin (c.cdw10.toNat + 4 * i) = true)) ∧
    (∃ (s : State) (c : Cmd), c.regsOk = true ∧ bit c.cdw11 31 = true ∧ s.wrStatus .admin c.cdw10.toNat c.cdw12 (w32
      c.cdw13.toNat) = 3) :=
  ⟨⟨cmdIn (adm 6 0 0 0 0), 30, adm 6 0 0 0 0, hostA, by decide +kernel⟩,
    ⟨cmdIn (adm 2 0x00FF00C4 0 0 0), 30, adm 2 0x00FF00C4 0 0 0, hostA, by decide +kernel⟩,
    ⟨cmdIn (adm 2 0x007F0004 0 0 0), cmdIn (adm 2 0x007F0004 0 0 0), 30, adm 2 0x007F0004 0 0 0, hostA,
      hostA.changedPage, by decide +kernel⟩,
    ⟨cmdIn (adm 10 7 0 0 0), 30, adm 10 7 0 0 0, hostA, by decide +kernel⟩,
    ⟨cmdIn (adm 9 0x0F 100 0 0), 30, adm 9 0x0F 100 0 0, by decide +kernel⟩,
    ⟨cmdIn (adm 8 1 0 0 0), 30, adm 8 1 0 0 0, by decide +kernel⟩,
    ⟨crowded, 30, { adm 12 0 0 0 0 with cid := 30 }, by decide +kernel⟩,
    ⟨cmdIn (adm 12 0 0 0 0), 30, adm 12 0 0 0 0, by decide +kernel⟩,
    ⟨cmdIn (adm 0xC4 2 1 0 0), 30, adm 0xC4 2 1 0 0, by decide +kernel⟩,
    ⟨cmdIn (adm 0xC4 0x09000104 256 0 0), 30, adm 0xC4 0x09000104 256 0 0, by decide +kernel⟩,
    ⟨cmdIn (adm 0xC5 0x09000104 0x80000001 7 0xFF), 30, adm 0xC5 0x09000104 0x80000001 7 0xFF, by decide +kernel⟩,
    ⟨run, adm 0xC5 0x08000008 0x80000001 0xFFFFFFFF 0xFFFFFFFF, by decide +kernel⟩⟩

theorem witness_SessionAndKeyCommands :
    (∃ (s : State) (tag : Nat) (c : Cmd), s.adminAt tag 0xC0 = some c) ∧
    (∃ (s : State) (tag : Nat) (c : Cmd), s.adminAt tag 0xC1 = some c) ∧
    (∃ (s : State) (tag : Nat) (c : Cmd) (x : Session), s.adminAt tag 0xC2 = some c ∧ s.sess? c.target = some x ∧
      x.st = .opened) ∧
    (∃ (s : State) (tag : Nat) (c : Cmd), s.adminAt tag 0xC3 = some c) ∧
    (∃ (s : State) (tag : Nat) (c : Cmd), s.adminAt tag 0x18 = some c) ∧
    (∃ (s : State) (tag k : Nat) (c : Cmd), s.adminAt tag 0xC8 = some c ∧ s.keyCause c c.hostData = some k ∧ c.keyOp = 0) ∧
    (∃ (s : State) (tag k : Nat) (c : Cmd), s.adminAt tag 0xC8 = some c ∧ s.keyCause c c.hostData = some k ∧ c.keyOp = 1) ∧
    (∃ (s : State) (tag : Nat) (c : Cmd) (k : BitVec 256 × BitVec 32), s.adminAt tag 0xC8 = some c ∧ s.keyCause c
      c.hostData = none ∧ s.keyData c c.hostData = some k ∧ c.keyOp = 0) ∧
    (∃ (s : State) (tag : Nat) (c : Cmd) (k : BitVec 256 × BitVec 32), s.adminAt tag 0xC8 = some c ∧ s.keyCause c
      c.hostData = none ∧ s.keyData c c.hostData = some k ∧ c.keyOp = 1) ∧
    (∃ (s : State) (tag : Nat) (c : Cmd), s.adminAt tag 0xC8 = some c ∧ c.keyOp = 2 ∧ s.keyCause c [] = none) ∧
    (∃ (s : State) (tag : Nat) (c : Cmd), s.adminAt tag 0xC8 = some c ∧ c.keyOp = 3 ∧ s.keyCause c [] = none) :=
  ⟨⟨cmdIn (adm 0xC0 2 0 0 0), 30, adm 0xC0 2 0 0 0, by decide +kernel⟩,
    ⟨cmdIn (adm 0xC1 1 0 0 0), 30, adm 0xC1 1 0 0 0, by decide +kernel⟩,
    ⟨cmdIn (adm 0xC2 1 0 0 0), 30, adm 0xC2 1 0 0 0, hostA, by decide +kernel⟩,
    ⟨cmdIn (adm 0xC3 1 0 0 0), 30, adm 0xC3 1 0 0 0, by decide +kernel⟩,
    ⟨cmdIn (adm 24 0 0 0 0), 30, adm 24 0 0 0 0, by decide +kernel⟩,
    ⟨cmdIn (adm 0xC8 2 0 0 0), 30, 1, adm 0xC8 2 0 0 0, by decide +kernel⟩,
    ⟨cmdIn (adm 0xC8 0x20002 0 0 0), 30, 1, adm 0xC8 0x20002 0 0 0, by decide +kernel⟩,
    ⟨cmdIn (adm 0xC8 1 0 0 0), 30, adm 0xC8 1 0 0 0, (0, 0), by decide +kernel⟩,
    ⟨cmdIn (adm 0xC8 0x20001 62 0 0), 30, adm 0xC8 0x20001 62 0 0, (0, 0), by decide +kernel⟩,
    ⟨{ cmdIn (adm 0xC8 0x40001 0 0 0) with bark := { keys := [(2, { key := 1, salt := 1, limitLog2 := 48 })], tx := [(1, 1)] } },
      30, adm 0xC8 0x40001 0 0 0, by decide +kernel⟩,
    ⟨{ cmdIn (adm 0xC8 0x60001 0 0 0) with bark := { keys := [(2, { key := 1, salt := 1, limitLog2 := 48 })], tx := [(1, 1)] } },
      30, adm 0xC8 0x60001 0 0 0, by decide +kernel⟩⟩

theorem witness_NamespaceCommands :
    (∃ (s : State) (tag : Nat) (c : Cmd), s.adminAt tag 0x0D = some c ∧ bits c.cdw10 3 0 = 0 ∧ (nsOf
      c.hostData).ok = false) ∧
    (∃ (s : State) (tag : Nat) (c : Cmd) (g : Grove), s.adminAt tag 0x0D = some c ∧ bits c.cdw10 3 0 = 0 ∧ (nsOf
      c.hostData).ok = true ∧ s.grove? (nsOf c.hostData).grove = some g ∧ s.groveNcap (nsOf c.hostData).grove + (nsOf
      c.hostData).ncap ≤ g.usable ∧ s.freeNsids ≠ []) ∧
    (∃ (s : State) (tag : Nat) (c : Cmd) (n : Namespace), s.adminAt tag 0x0D = some c ∧ bits c.cdw10 3 0 = 1 ∧ NMap.get?
      s.heart.ns c.nsid = some n ∧ n.deleting = false) ∧
    (∃ (s : State) (nsid : Nat) (n : Namespace), NMap.get? s.heart.ns nsid = some n ∧ n.deleting = true ∧ s.bud.cmds = []
      ∧ s.nsRecords = []) ∧
    (∃ (s : State) (nsid : Nat) (n : Namespace), NMap.get? s.heart.ns nsid = some n ∧ s.deleteDue nsid = true) ∧
    (∃ (s : State) (tag : Nat) (c : Cmd) (n : Namespace) (ids : List Nat), s.adminAt tag 0x15 = some c ∧ ((NMap.get?
      s.heart.ns c.nsid).any (fun n => !n.deleting) = true) ∧ s.nsNewest c.nsid = some n ∧ cntlIds c.hostData = some ids
      ∧ bits c.cdw10 3 0 = 0 ∧ (∀ i ∈ ids, i ∉ n.attached)) ∧
    (∃ (s : State) (tag : Nat) (c : Cmd) (n : Namespace) (ids : List Nat), s.adminAt tag 0x15 = some c ∧ ((NMap.get?
      s.heart.ns c.nsid).any (fun n => !n.deleting) = true) ∧ s.nsNewest c.nsid = some n ∧ cntlIds c.hostData = some ids
      ∧ bits c.cdw10 3 0 = 0 ∧ (∃ i ∈ ids, i ∈ n.attached)) ∧
    (∃ (s : State) (tag : Nat) (c : Cmd) (n : Namespace) (ids : List Nat), s.adminAt tag 0x15 = some c ∧ ((NMap.get?
      s.heart.ns c.nsid).any (fun n => !n.deleting) = true) ∧ s.nsNewest c.nsid = some n ∧ cntlIds c.hostData = some ids
      ∧ bits c.cdw10 3 0 = 1 ∧ (∀ i ∈ ids, i ∈ n.attached)) ∧
    (∃ (s : State) (tag : Nat) (c : Cmd) (n : Namespace) (ids : List Nat), s.adminAt tag 0x15 = some c ∧ ((NMap.get?
      s.heart.ns c.nsid).any (fun n => !n.deleting) = true) ∧ s.nsNewest c.nsid = some n ∧ cntlIds c.hostData = some ids
      ∧ bits c.cdw10 3 0 = 1 ∧ (∃ i ∈ ids, i ∉ n.attached)) :=
  ⟨⟨cmdIn { adm 13 0 0 0 0 with pulled := [(0, leBytes 8 4 ++ leBytes 8 5)] }, 30,
      { adm 13 0 0 0 0 with pulled := [(0, leBytes 8 4 ++ leBytes 8 5)] }, by decide +kernel⟩,
    ⟨cmdIn { adm 13 0 0 0 0 with pulled := [(0, leBytes 8 5 ++ leBytes 8 5)] }, 30,
      { adm 13 0 0 0 0 with pulled := [(0, leBytes 8 5 ++ leBytes 8 5)] }, groveA, by decide +kernel⟩,
    ⟨cmdIn (adm 13 1 0 0 0), 30, adm 13 1 0 0 0,
      { grove := 0, nsze := 1000, ncap := 1000, flbas := 0, dps := 0, attached := [1] }, by decide +kernel⟩,
    ⟨{ run with bud := {}, heart := { ns := [(1, { grove := 0, nsze := 1000, ncap := 1000, flbas := 0, dps := 0, deleting := true })] } },
      1, { grove := 0, nsze := 1000, ncap := 1000, flbas := 0, dps := 0, deleting := true }, by decide +kernel⟩,
    ⟨{ run with bud := {}, heart := { ns := [(1, { grove := 0, nsze := 1000, ncap := 1000, flbas := 0, dps := 0, deleting := true })] } },
      1, { grove := 0, nsze := 1000, ncap := 1000, flbas := 0, dps := 0, deleting := true }, by decide +kernel⟩,
    ⟨cmdIn { adm 21 0 0 0 0 with pulled := [(0, [1, 0, 6, 0])] }, 30,
      { adm 21 0 0 0 0 with pulled := [(0, [1, 0, 6, 0])] },
      { grove := 0, nsze := 1000, ncap := 1000, flbas := 0, dps := 0, attached := [1] }, [5], by decide +kernel⟩,
    ⟨cmdIn { adm 21 0 0 0 0 with pulled := [(0, [1, 0, 2, 0])] }, 30,
      { adm 21 0 0 0 0 with pulled := [(0, [1, 0, 2, 0])] },
      { grove := 0, nsze := 1000, ncap := 1000, flbas := 0, dps := 0, attached := [1] }, [1], by decide +kernel⟩,
    ⟨cmdIn { adm 21 1 0 0 0 with pulled := [(0, [1, 0, 2, 0])] }, 30,
      { adm 21 1 0 0 0 with pulled := [(0, [1, 0, 2, 0])] },
      { grove := 0, nsze := 1000, ncap := 1000, flbas := 0, dps := 0, attached := [1] }, [1], by decide +kernel⟩,
    ⟨cmdIn { adm 21 1 0 0 0 with pulled := [(0, [1, 0, 6, 0])] }, 30,
      { adm 21 1 0 0 0 with pulled := [(0, [1, 0, 6, 0])] },
      { grove := 0, nsze := 1000, ncap := 1000, flbas := 0, dps := 0, attached := [1] }, [5], by decide +kernel⟩⟩

theorem witness_FirmwareCommands :
    (∃ (s : State) (tag : Nat) (c : Cmd), s.adminAt tag 0x11 = some c) ∧
    (∃ (s : State) (tag : Nat) (c : Cmd), s.adminAt tag 0x10 = some c ∧ s.seed.write = none ∧ (c.fs = 1 ∨ c.fs = 2) ∧
      c.fs - 1 ≠ s.seed.slot ∧ c.ca = 0) ∧
    (∃ (s : State) (tag : Nat) (c : Cmd), s.adminAt tag 0x10 = some c ∧ s.seed.write = none ∧ (c.fs = 1 ∨ c.fs = 2) ∧
      c.fs - 1 ≠ s.seed.slot ∧ c.ca = 1) ∧
    (∃ (s : State) (tag : Nat) (c : Cmd), s.adminAt tag 0x10 = some c ∧ s.seed.write = none ∧ (c.fs = 1 ∨ c.fs = 2) ∧
      c.fs - 1 ≠ s.seed.slot ∧ c.ca = 2) ∧
    (∃ (s : State) (tag : Nat) (c : Cmd), s.adminAt tag 0x10 = some c ∧ s.seed.write = none ∧ (c.fs = 1 ∨ c.fs = 2) ∧
      c.fs - 1 ≠ s.seed.slot ∧ c.ca = 3) ∧
    (∃ (s : State) (tag : Nat) (c : Cmd), s.adminAt tag 0x10 = some c ∧ s.seed.write = none ∧ c.ca = 0 ∧ c.fs -
      1 = s.seed.slot) ∧
    (∃ (s : State) (tag : Nat) (c : Cmd), s.adminAt tag 0x10 = some c ∧ s.seed.write = none ∧ 3 < c.ca) ∧
    (∃ (s : State) (tag : Nat) (c : Cmd), s.adminAt tag 0xC6 = some c ∧ s.seed.write = none ∧ s.seed.dirtySlot = true) ∧
    (∃ (s : State) (tag : Nat) (c : Cmd), s.adminAt tag 0xC6 = some c ∧ s.seed.write = none ∧ s.seed.dirtySlot = false) ∧
    (∃ (s : State) (tag slot ca : Nat), s.seed.write = some (tag, slot, ca) ∧ ca ≠ 3) :=
  ⟨⟨cmdIn { adm 17 0 0 0 0 with pulled := [(0, [1, 2, 3, 4])] }, 30,
      { adm 17 0 0 0 0 with pulled := [(0, [1, 2, 3, 4])] }, by decide +kernel⟩,
    ⟨cmdIn (adm 16 2 0 0 0), 30, adm 16 2 0 0 0, by decide +kernel⟩,
    ⟨cmdIn (adm 16 10 0 0 0), 30, adm 16 10 0 0 0, by decide +kernel⟩,
    ⟨cmdIn (adm 16 18 0 0 0), 30, adm 16 18 0 0 0, by decide +kernel⟩,
    ⟨cmdIn (adm 16 26 0 0 0), 30, adm 16 26 0 0 0, by decide +kernel⟩,
    ⟨cmdIn (adm 16 1 0 0 0), 30, adm 16 1 0 0 0, by decide +kernel⟩,
    ⟨cmdIn (adm 16 58 0 0 0), 30, adm 16 58 0 0 0, by decide +kernel⟩,
    ⟨{ cmdIn (adm 0xC6 0 0 0 0) with seed := { boot := .running, dirtySlot := true } }, 30, adm 0xC6 0 0 0 0, by
      decide +kernel⟩,
    ⟨cmdIn (adm 0xC6 0 0 0 0), 30, adm 0xC6 0 0 0 0, by decide +kernel⟩,
    ⟨{ cmdIn (adm 0xC6 0 0 0 0) with seed := { boot := .running, write := some (30, 1, 0) } }, 30, 1, 0, by
      decide +kernel⟩⟩

theorem witness_GroveManagement :
    (∃ (s : State) (tag k : Nat) (c : Cmd), s.adminAt tag 0xC7 = some c ∧ c.gmAction = 0 ∧ s.createCause c = some k) ∧
    (∃ (s : State) (tag : Nat) (c : Cmd), s.adminAt tag 0xC7 = some c ∧ c.gmAction = 0 ∧ s.createCause c = none) ∧
    (∃ (s : State) (tag k : Nat) (c : Cmd), s.adminAt tag 0xC7 = some c ∧ c.gmAction = 2 ∧ s.spareCause c = some k) ∧
    (∃ (s : State) (tag : Nat) (c : Cmd), s.adminAt tag 0xC7 = some c ∧ c.gmAction = 2 ∧ s.spareCause c = none) ∧
    (∃ (s : State) (tag : Nat) (c : Cmd), s.adminAt tag 0xC7 = some c ∧ c.gmAction = 1 ∧ s.grove? c.gmGrove = none) ∧
    (∃ (s : State) (tag : Nat) (c : Cmd), s.adminAt tag 0xC7 = some c ∧ c.gmAction = 3 ∧ (∀ d ∈ c.gmDrives, (s.drive
      d).spare = none)) ∧
    (∃ (s : State) (tag : Nat) (c : Cmd), s.adminAt tag 0xC7 = some c ∧ c.gmAction = 9 ∧ s.grove? c.gmGrove = none) ∧
    (∃ (s : State) (tag : Nat) (c : Cmd), s.adminAt tag 0xC7 = some c ∧ c.gmAction = 10 ∧ s.grove? c.gmGrove = none) ∧
    (∃ (s : State) (tag : Nat) (c : Cmd) (g : Grove), s.adminAt tag 0xC7 = some c ∧ s.grove? c.gmGrove = some g ∧
      c.gmAction = 1) ∧
    (∃ (s : State) (tag : Nat) (c : Cmd) (g : Grove), s.adminAt tag 0xC7 = some c ∧ s.grove? c.gmGrove = some g ∧
      c.gmAction = 4) ∧
    (∃ (s : State) (tag : Nat) (c : Cmd) (g : Grove), s.adminAt tag 0xC7 = some c ∧ s.grove? c.gmGrove = some g ∧
      c.gmAction = 9 ∧ (g.running.1.isSome = true ∨ g.running.2.isSome = true)) ∧
    (∃ (s : State) (tag : Nat) (c : Cmd) (g : Grove), s.adminAt tag 0xC7 = some c ∧ s.grove? c.gmGrove = some g ∧
      c.gmAction = 9 ∧ g.running = (none, none)) ∧
    (∃ (s : State) (tag : Nat) (c : Cmd) (g : Grove), s.adminAt tag 0xC7 = some c ∧ s.grove? c.gmGrove = some g ∧
      c.gmAction = 10 ∧ g.paused = true) ∧
    (∃ (s : State) (tag : Nat) (c : Cmd) (g : Grove), s.adminAt tag 0xC7 = some c ∧ s.grove? c.gmGrove = some g ∧
      c.gmAction = 10 ∧ g.paused = false) ∧
    (∃ (s : State) (tag : Nat) (c : Cmd) (g : Grove), s.adminAt tag 0xC7 = some c ∧ s.grove? c.gmGrove = some g ∧
      c.gmAction = 12 ∧ g.offline = true) ∧
    (∃ (s : State) (tag : Nat) (c : Cmd) (g : Grove), s.adminAt tag 0xC7 = some c ∧ s.grove? c.gmGrove = some g ∧
      c.gmAction = 12 ∧ g.offline = false ∧ g.resync.isSome = true) ∧
    (∃ (s : State) (tag : Nat) (c : Cmd) (g : Grove), s.adminAt tag 0xC7 = some c ∧ s.grove? c.gmGrove = some g ∧
      c.gmAction = 12 ∧ g.offline = false ∧ g.resync = none) ∧
    (∃ (s : State) (tag : Nat) (c : Cmd) (g : Grove) (m : Member), s.adminAt tag 0xC7 = some c ∧ s.grove?
      c.gmGrove = some g ∧ c.gmSlot < g.n ∧ g.members[c.gmSlot]? = some m ∧ g.offline = false ∧ c.gmAction = 8 ∧
      m.st = .failed ∧ s.spares.contains c.gmDrive = true ∧ s.serves c.gmDrive c.gmGrove g = true) ∧
    (∃ (s : State) (tag : Nat) (c : Cmd) (g : Grove) (m : Member), s.adminAt tag 0xC7 = some c ∧ s.grove?
      c.gmGrove = some g ∧ c.gmSlot < g.n ∧ g.members[c.gmSlot]? = some m ∧ g.offline = false ∧ c.gmAction = 8 ∧
      m.st = .working) ∧
    (∃ (s : State) (tag : Nat) (c : Cmd) (g : Grove) (m : Member), s.adminAt tag 0xC7 = some c ∧ s.grove?
      c.gmGrove = some g ∧ c.gmSlot < g.n ∧ g.members[c.gmSlot]? = some m ∧ g.offline = false ∧ c.gmAction = 8 ∧
      m.st = .rebuilding) ∧
    (∃ (s : State) (tag : Nat) (c : Cmd) (g : Grove) (m : Member), s.adminAt tag 0xC7 = some c ∧ s.grove?
      c.gmGrove = some g ∧ c.gmSlot < g.n ∧ g.members[c.gmSlot]? = some m ∧ g.offline = false ∧ c.gmAction = 11 ∧
      m.st = .failed) ∧
    (∃ (s : State) (tag : Nat) (c : Cmd) (g : Grove) (m : Member), s.adminAt tag 0xC7 = some c ∧ s.grove?
      c.gmGrove = some g ∧ c.gmSlot < g.n ∧ g.members[c.gmSlot]? = some m ∧ g.offline = false ∧ c.gmAction = 11 ∧
      m.st = .working ∧ 2 ≤ g.down) ∧
    (∃ (s : State) (tag : Nat) (c : Cmd) (g : Grove) (m : Member), s.adminAt tag 0xC7 = some c ∧ s.grove?
      c.gmGrove = some g ∧ c.gmSlot < g.n ∧ g.members[c.gmSlot]? = some m ∧ g.offline = false ∧ c.gmAction = 11 ∧
      m.st = .working ∧ g.down < 2) :=
  ⟨⟨cmdIn (adm 0xC7 0x0 0x0 0 0x0), 30, 1, adm 0xC7 0x0 0x0 0 0x0, by decide +kernel⟩,
    ⟨{ cmdIn (adm 0xC7 0x100 0xfc0 0 0x0) with drives := (List.range 12).map fun d => (d, driveA) }, 30, adm 0xC7 0x100
      0xfc0 0 0x0, by decide +kernel⟩,
    ⟨cmdIn (adm 0xC7 0x2 0x80 0 0x0), 30, 1, adm 0xC7 0x2 0x80 0 0x0, by decide +kernel⟩,
    ⟨{ cmdIn (adm 0xC7 0x2 0x80 0 0x0) with drives := [(7, driveA)] }, 30, adm 0xC7 0x2 0x80 0 0x0, by decide +kernel⟩,
    ⟨cmdIn (adm 0xC7 0x101 0x0 0 0x0), 30, adm 0xC7 0x101 0x0 0 0x0, by decide +kernel⟩,
    ⟨cmdIn (adm 0xC7 0x3 0x80 0 0x0), 30, adm 0xC7 0x3 0x80 0 0x0, by decide +kernel⟩,
    ⟨cmdIn (adm 0xC7 0x109 0x0 0 0x0), 30, adm 0xC7 0x109 0x0 0 0x0, by decide +kernel⟩,
    ⟨cmdIn (adm 0xC7 0x10a 0x0 0 0x0), 30, adm 0xC7 0x10a 0x0 0 0x0, by decide +kernel⟩,
    ⟨sparesIn (groveA) (adm 0xC7 0x1 0x0 0 0x0), 30, adm 0xC7 0x1 0x0 0 0x0, groveA, by decide +kernel⟩,
    ⟨sparesIn (groveA) (adm 0xC7 0x4 0x0 0 0x0), 30, adm 0xC7 0x4 0x0 0 0x0, groveA, by decide +kernel⟩,
    ⟨sparesIn ({ groveA with rbA := some rebuildA }) (adm 0xC7 0x9 0x0 0 0x0), 30, adm 0xC7 0x9 0x0 0 0x0,
      { groveA with rbA := some rebuildA }, by decide +kernel⟩,
    ⟨sparesIn (groveA) (adm 0xC7 0x9 0x0 0 0x0), 30, adm 0xC7 0x9 0x0 0 0x0, groveA, by decide +kernel⟩,
    ⟨sparesIn ({ groveA with paused := true }) (adm 0xC7 0xa 0x0 0 0x0), 30, adm 0xC7 0xa 0x0 0 0x0,
      { groveA with paused := true }, by decide +kernel⟩,
    ⟨sparesIn (groveA) (adm 0xC7 0xa 0x0 0 0x0), 30, adm 0xC7 0xa 0x0 0 0x0, groveA, by decide +kernel⟩,
    ⟨sparesIn ({ groveA with offline := true }) (adm 0xC7 0xc 0x0 0 0x0), 30, adm 0xC7 0xc 0x0 0 0x0,
      { groveA with offline := true }, by decide +kernel⟩,
    ⟨sparesIn ({ groveA with resync := some { mode := 2, reason := 1, todo := [3] } }) (adm 0xC7 0xc 0x0 0 0x0), 30, adm
      0xC7 0xc 0x0 0 0x0, { groveA with resync := some { mode := 2, reason := 1, todo := [3] } }, by decide +kernel⟩,
    ⟨sparesIn (groveA) (adm 0xC7 0xc 0x0 0 0x0), 30, adm 0xC7 0xc 0x0 0 0x0, groveA, by decide +kernel⟩,
    ⟨sparesIn ({ groveA with members := groveA.members.set 5 { drive := 5, st := .failed } }) (adm 0xC7 0x8 0x0 0 0x705),
      30, adm 0xC7 0x8 0x0 0 0x705, { groveA with members := groveA.members.set 5 { drive := 5, st := .failed } },
      { drive := 5, st := .failed }, by decide +kernel⟩,
    ⟨sparesIn ({ groveA with members := groveA.members.set 5 { drive := 5, st := .working } }) (adm 0xC7 0x8 0x0 0
      0x705), 30, adm 0xC7 0x8 0x0 0 0x705,
      { groveA with members := groveA.members.set 5 { drive := 5, st := .working } }, { drive := 5, st := .working }, by
      decide +kernel⟩,
    ⟨sparesIn ({ groveA with members := groveA.members.set 5 { drive := 5, st := .rebuilding } }) (adm 0xC7 0x8 0x0 0
      0x705), 30, adm 0xC7 0x8 0x0 0 0x705,
      { groveA with members := groveA.members.set 5 { drive := 5, st := .rebuilding } },
      { drive := 5, st := .rebuilding }, by decide +kernel⟩,
    ⟨sparesIn ({ groveA with members := groveA.members.set 5 { drive := 5, st := .failed } }) (adm 0xC7 0xb 0x0 0 0x5),
      30, adm 0xC7 0xb 0x0 0 0x5, { groveA with members := groveA.members.set 5 { drive := 5, st := .failed } },
      { drive := 5, st := .failed }, by decide +kernel⟩,
    ⟨sparesIn
      ({ groveA with members := (groveA.members.set 0 { drive := 0, st := .failed }).set 1 { drive := 1, st := .rebuilding } })
      (adm 0xC7 0xb 0x0 0 0x5), 30, adm 0xC7 0xb 0x0 0 0x5,
      { groveA with members := (groveA.members.set 0 { drive := 0, st := .failed }).set 1 { drive := 1, st := .rebuilding } },
      { drive := 5 }, by decide +kernel⟩,
    ⟨sparesIn (groveA) (adm 0xC7 0xb 0x0 0 0x5), 30, adm 0xC7 0xb 0x0 0 0x5, groveA, { drive := 5 }, by decide +kernel⟩⟩

theorem witness_IoCommandsRun :
    (∃ (s : State) (tag : Nat), s.startable tag 0 = true) ∧
    (∃ (s : State) (tag : Nat), s.startable tag 1 = true) ∧
    (∃ (s : State) (tag : Nat) (c : Cmd), s.startable tag 1 = false ∧ s.cmd? tag = some c ∧ c.stalled = true ∧
      c.status = none) ∧
    (∃ (s : State) (tag : Nat), s.startable tag 2 = true) ∧
    (∃ (s : State) (tag : Nat) (c : Cmd), s.startable tag 5 = true ∧ (s.start tag).cmd? tag = some c) ∧
    (∃ (s : State) (tag : Nat) (c : Cmd), s.startable tag 8 = true ∧ (s.start tag).cmd? tag = some c ∧ (s.start
      tag).nsOffline c.nsid = false) ∧
    (∃ (s : State) (tag : Nat) (c : Cmd), s.startable tag 9 = true ∧ (s.start tag).cmd? tag = some c ∧ (s.start
      tag).nsOffline c.nsid = false) ∧
    (∃ (s : State) (tag opc : Nat) (c : Cmd), s.startable tag opc = true ∧ s.cmd? tag = some c) ∧
    (∃ (s : State) (tag k : Nat) (c : Cmd), s.cmd? tag = some c ∧ c.translating = true ∧ s.on 0x07000000 = true ∧ (∀ e,
      c.engine = some e → s.flows (engineDie e) 5 = true) ∧ (s.pagesMissing c).head? = some k) ∧
    (∃ (s : State) (tag : Nat) (c : Cmd), s.cmd? tag = some c ∧ c.translating = true ∧ s.on 0x07000000 = true ∧ (∀ e,
      c.engine = some e → s.flows (engineDie e) 5 = true) ∧ s.pagesMissing c = []) ∧
    (∃ (s : State) (lba : Nat) (c : Cmd), c.nlb = 1 ∧ c.slba = lba ∧ (s.lookups c).loc c.nsid lba = .lost) ∧
    (∃ (s : State) (tag : Nat) (c : Cmd), s.cmd? tag = some c ∧ s.nsOffline c.nsid = true) ∧
    (∃ (s : State) (n : Nat) (x : Piece), s.piece? n = some x ∧ x.shoot = true ∧ x.attachable = true ∧ x.done = true) :=
  ⟨⟨starting (io 0), 30, by decide +kernel⟩,
    ⟨starting (io 1), 30, by decide +kernel⟩,
    ⟨cmdIn { readA with opc := 1, stalled := true }, 30, { readA with opc := 1, stalled := true }, by decide +kernel⟩,
    ⟨starting (io 2), 30, by decide +kernel⟩,
    ⟨starting (io 5), 30, { io 5 with stage := .running }, by decide +kernel⟩,
    ⟨starting (io 8), 30, { io 8 with stage := .running }, by decide +kernel⟩,
    ⟨starting (io 9), 30, { io 9 with stage := .running }, by decide +kernel⟩,
    ⟨starting (io 2), 30, 2, io 2, by decide +kernel⟩,
    ⟨{ run with heart := { run.heart with pageLoc := [(dirKey 1 0, (3, 4))] } }, 30, dirKey 1 0, readA, by
      decide +kernel⟩,
    ⟨run, 30, readA, by decide +kernel⟩,
    ⟨mapped .lost, 0, readA, by decide +kernel⟩,
    ⟨{ run with groves := [(0, { groveA with offline := true })] }, 30, readA, by decide +kernel⟩,
    ⟨{ run with pieces := [(3, pieceA)] }, 3, pieceA, by decide +kernel⟩⟩

theorem witness_JournalAndMap :
    (∃ (s : State) (r : Rec), s.nextRecord = some r ∧ s.changeMissing r.nsid r.body.runs = [] ∧ s.changeFits r.nsid
      r.body.runs = true) ∧
    (∃ (s : State) (r : Rec) (k : Nat), s.nextRecord = some r ∧ (s.changeMissing r.nsid r.body.runs).head? = some k) ∧
    (∃ (s : State) (nsid : Nat) (m : MovePiece), m.nlb = 1 ∧ s.loc nsid m.slba = .staged m.fromA m.fromB) ∧
    (∃ (s : State) (nsid : Nat) (m : MovePiece), m.nlb = 1 ∧ s.loc nsid m.slba ≠ .staged m.fromA m.fromB) ∧
    (∃ (nsid k : Nat) (m : MovePiece), m.nlb = 1 ∧ k ≠ mapKey nsid m.slba) ∧
    (∃ (s : State) (nsid : Nat) (m : MovePiece), m.nlb = 1 ∧ s.loc nsid m.slba = .data m.fromA m.fromB) ∧
    (∃ (s : State), s.camb.compacting = true ∧ s.on 0x06000000 = true) ∧
    (∃ (s : State) (page : Nat), (s.writeBackDue = true ∨ (s.camb.compacting = true ∧ s.on 0x06000000 = true)) ∧
      s.canWriteBack page = true) :=
  ⟨⟨{ run with camb := { ring := [{ seq := 1, units := 2, body := .pad }] } }, { seq := 1, units := 2, body := .pad },
      by decide +kernel⟩,
    ⟨{ run with camb := { ring := [{ seq := 1, nsid := 1, units := 2, body := .zero 0 0 1 false }] }, heart := { run.heart with pageLoc := [(dirKey 1 0, (3, 4))] } },
      { seq := 1, nsid := 1, units := 2, body := .zero 0 0 1 false }, dirKey 1 0, by decide +kernel⟩,
    ⟨mapped (.staged 3 4), 1, moveA, by decide +kernel⟩,
    ⟨run, 1, moveA, by decide +kernel⟩,
    ⟨1, 5, moveA, by decide +kernel⟩,
    ⟨mapped (.data 3 4), 1, moveA, by decide +kernel⟩,
    ⟨{ run with camb := { compacting := true } }, by decide +kernel⟩,
    ⟨{ run with camb := { compacting := true }, heart := { run.heart with pages := [(leafKey 1 0, { dirty := some 1 })] } },
      leafKey 1 0, by decide +kernel⟩⟩

theorem witness_StripePlacement :
    (∃ (g : Grove), 4 ≤ g.n) ∧
    (∃ (g : Grove), g.zoned = false) ∧
    (∃ (g : Grove) (off : Nat), 4 ≤ g.n ∧ off < 64 * ((g.n - 2) * g.c)) :=
  ⟨⟨groveA, by decide +kernel⟩,
    ⟨groveA, by decide +kernel⟩,
    ⟨groveA, 4095, by decide +kernel⟩⟩

theorem witness_StripesSegmentsAndMembers :
    (∃ (l : List (Nat × List Byte)) (b : List Byte), b.length = blockLen ∧ (∀ p ∈ l, p.2.length = blockLen)) ∧
    (∃ (s : State) (g : Nat) (k : Stream), g < 4 ∧ s.canOpen g k = true) ∧
    (∃ (s : State) (g : Nat) (k : Stream) (x : Stripe), g < 4 ∧ s.idleStripe g k = some x) ∧
    (∃ (s : State) (d id : Nat) (c : DriveCmd) (r : DriveResult), d < 24 ∧ s.cmdAt d id = some c ∧ (s.drive
      d).resetting = false ∧ s.flows (driveDie d) (s.endDie c) = true ∧ (r = .aborted → c.abortAt.isSome = true)) ∧
    (∃ (s : State) (d id : Nat) (c : DriveCmd), d < 24 ∧ s.cmdAt d id = some c ∧ (s.drive d).resetting = false ∧ s.flows
      (driveDie d) (s.endDie c) = true ∧ c.abortAt = none) ∧
    (∃ (s : State) (gi u : Nat) (g : Grove), gi < 4 ∧ s.grove? gi = some g ∧ g.offline = false ∧ s.pruneVictim gi
      g = some u) ∧
    (∃ (s : State) (gi u : Nat) (g : Grove), s.pruneVictim gi g = some u) ∧
    (∃ (s : State) (g a : Nat), g < 4 ∧ s.canFree g a = true) ∧
    (∃ (s : State) (g a : Nat), s.canFree g a = true) ∧
    (∃ (s : State) (gi slot : Nat) (g : Grove) (m : Member), gi < 4 ∧ s.grove? gi = some g ∧ g.members[slot]? = some m ∧
      m.st ≠ .failed) ∧
    (∃ (s : State) (gi a : Nat) (g : Grove), gi < 4 ∧ s.grove? gi = some g ∧ g.rbSeg = some a ∧ g.rbJob = none ∧
      64 ≤ g.rbNext ∧ g.paused = false ∧ g.offline = false) ∧
    (∃ (s : State) (gi n : Nat), gi < 4 ∧ s.resyncAt gi = some n) ∧
    (∃ (s : State) (gi n : Nat) (g : Grove) (r : Resync), s.seed.boot = .running ∧ s.grove? gi = some g ∧
      g.offline = false ∧ g.resync = some r ∧ r.todo.head? = some n ∧ (∀ x ∈ g.rebuilds, x.bitmap.contains (n /
      64) = false)) :=
  ⟨⟨[(1, List.replicate blockLen 3)], List.replicate blockLen 7, by decide +kernel⟩,
    ⟨groveIn { groveA with host := { queue := [(1, 0)] } }, 0, .host, by decide +kernel⟩,
    ⟨groveIn { groveA with host := { cur := some 5 }, stripes := [(5, { stream := .host, lastAdd := 9 })] }, 0, .host,
      { stream := .host, lastAdd := 9 }, by decide +kernel⟩,
    ⟨driveIn { driveA with atDrive := [cmdD] }, 7, 2, cmdD, .success [], by decide +kernel⟩,
    ⟨driveIn { driveA with atDrive := [cmdD] }, 7, 2, cmdD, by decide +kernel⟩,
    ⟨groveIn { groveA with segs := [(3, segA)] }, 0, 3, { groveA with segs := [(3, segA)] }, by decide +kernel⟩,
    ⟨groveIn { groveA with segs := [(3, segA)] }, 0, 3, { groveA with segs := [(3, segA)] }, by decide +kernel⟩,
    ⟨groveIn { groveA with segs := [(3, segA)] }, 0, 3, by decide +kernel⟩,
    ⟨groveIn { groveA with segs := [(3, segA)] }, 0, 3, by decide +kernel⟩,
    ⟨run, 0, 5, groveA, { drive := 5 }, by decide +kernel⟩,
    ⟨groveIn { groveA with rbA := some rebuildA, rbSeg := some 3, rbNext := 64 }, 0, 3,
      { groveA with rbA := some rebuildA, rbSeg := some 3, rbNext := 64 }, by decide +kernel⟩,
    ⟨groveIn { groveA with resync := some { mode := 2, reason := 1, todo := [3] } }, 0, 3, by decide +kernel⟩,
    ⟨groveIn { groveA with resync := some { mode := 2, reason := 1, todo := [3] } }, 0, 3,
      { groveA with resync := some { mode := 2, reason := 1, todo := [3] } }, { mode := 2, reason := 1, todo := [3] }, by
      decide +kernel⟩⟩

end Sys2Proof.Tests
end

section
/-!
PROOFS. The rate table (R51 to R53): which slot an endpoint has, what a slot reads after another endpoint's write of it, and
that a paced request waits for the slot of its destination.
-/

namespace Sys2Proof.Machine

open Sys2Proof

/-- The rate of the egress port that traffic to an endpoint uses, in units of 100 Mb/s (R52), and 8,000 where the forwarding
table has no port for it (log entry 37). -/
def State.egressRate (s : State) (ep : W32) : Nat :=
  match s.route? none ep none with
  | some (p, _) => s.portRate p
  | none => 8000

/-- The hash keeps the top 12 of 32 bits, so the table has 4,096 slots (R51). -/
theorem State.slotOf_lt (s : State) (ep : W32) : s.slotOf ep < 4096 := by
  have hmod : ((ep ^^^ s.reg 0x10000024).toNat * 0x9E3779B1) % 2 ^ 32 < 2 ^ 20 * 4096 := Nat.mod_lt _ (by decide)
  exact Nat.div_lt_of_lt_mul hmod

/-- Whether the slot is listed or fresh, its port rate is the egress rate of the endpoint asked for (log entry 37). -/
theorem State.rateSlot_portRate (s : State) (ep : W32) : (s.rateSlot ep).portRate = s.egressRate ep := by
  unfold State.rateSlot
  cases NMap.get? s.xylem.rates (s.slotOf ep) <;> rfl

/-- A listed slot is read as it stands in the table, but for the port rate. -/
theorem State.rateSlot_of_listed {s : State} {ep : W32} {r : RateSlot}
    (h : NMap.get? s.xylem.rates (s.slotOf ep) = some r) : s.rateSlot ep = { r with portRate := s.egressRate ep } := by
  unfold State.rateSlot
  rw [h]
  rfl

@[simp] theorem State.setRate_rates (s : State) (ep : W32) (r : RateSlot) :
    (s.setRate ep r).xylem.rates = NMap.set s.xylem.rates (s.slotOf ep) r := rfl

/-- A write of the rate table leaves XYLEM_RATE_HASH_SEED, and with it every slot index, as it was. -/
@[simp] theorem State.setRate_slotOf (s : State) (ep other : W32) (r : RateSlot) :
    (s.setRate ep r).slotOf other = s.slotOf other := rfl

/-- A write of the rate table touches neither the forwarding table nor the ports. -/
@[simp] theorem State.setRate_egressRate (s : State) (ep other : W32) (r : RateSlot) :
    (s.setRate ep r).egressRate other = s.egressRate other := rfl

/-- Endpoints whose indices agree read the one slot that either of them wrote (R51). -/
theorem State.rateSlot_setRate_of_slotOf_eq (s : State) {ep other : W32} (r : RateSlot)
    (h : s.slotOf ep = s.slotOf other) :
    (s.setRate ep r).rateSlot other = { r with portRate := s.egressRate other } := by
  have hget : NMap.get? (s.setRate ep r).xylem.rates ((s.setRate ep r).slotOf other) = some r := by
    rw [State.setRate_rates, State.setRate_slotOf, ← h]
    exact NMap.get?_set_same _ _ _
  rw [State.rateSlot_of_listed hget, State.setRate_egressRate]

/-- The hypothesis is met by two different endpoints: after reset the endpoints 2 and 2,586 share slot 966. -/
theorem State.rateSlot_setRate_of_reset (r : RateSlot) :
    (State.reset.setRate 2 r).rateSlot 2586 = { r with portRate := State.reset.egressRate 2586 } :=
  State.rateSlot_setRate_of_slotOf_eq State.reset r (by decide : State.reset.slotOf 2 = State.reset.slotOf 2586)

/-- A paced request waits at least until the slot of its destination releases it, whatever its shapers say (R53). -/
theorem State.releaseAt_le_pacedUntil (s : State) (d : Desc) :
    ceilDiv (s.rateSlot d.dst).releaseAt 1000 ≤ s.pacedUntil d :=
  Nat.le_max_left _ _

/-- Settles O42: the index is R51's hash cut to 12 bits, a slot written for one endpoint is what every endpoint with its index
reads, and a request is held by the slot of its destination. -/
theorem rateSlotIndex : Obligations.RateSlotIndex := by
  refine ⟨fun s ep => ⟨rfl, s.slotOf_lt ep⟩, fun s ep other r h => ?_, State.releaseAt_le_pacedUntil⟩
  rw [State.rateSlot_portRate]
  exact s.rateSlot_setRate_of_slotOf_eq r h

end Sys2Proof.Machine
end

section
/-!
PROOFS. The completion entry (R73, R74): what a field of little-endian bytes reads, the entry as a row of such fields, and what
posting leaves in the record of the command's session.
-/

namespace Sys2Proof.Machine

open Sys2Proof

/-! ### Little-endian fields -/

@[simp] theorem length_leBytes (k n : Nat) : (leBytes k n).length = k := by
  induction k generalizing n with
  | zero => rfl
  | succ k ih => simp [leBytes, ih]

theorem leNat_leBytes (k n : Nat) : leNat (leBytes k n) = n % 256 ^ k := by
  induction k generalizing n with
  | zero => simp [leBytes, leNat, Nat.mod_one]
  | succ k ih => simp [leBytes, leNat, ih, Nat.pow_succ', Nat.mod_mul]

/-- A number's bytes are its low bytes followed by the bytes of what stands above them. -/
theorem leBytes_add (j k n : Nat) : leBytes (j + k) n = leBytes j n ++ leBytes k (n / 256 ^ j) := by
  induction j generalizing n with
  | zero => simp [leBytes]
  | succ j ih => simp [Nat.succ_add, leBytes, ih, Nat.pow_succ', Nat.div_div_eq_div_mul]

theorem leBytes_mod (k n : Nat) : leBytes k (n % 256 ^ k) = leBytes k n := by
  induction k generalizing n with
  | zero => rfl
  | succ k ih =>
    have hlow : BitVec.ofNat 8 (n % (256 * 256 ^ k)) = BitVec.ofNat 8 n :=
      BitVec.eq_of_toNat_eq (Nat.mod_mul_right_mod n 256 (256 ^ k))
    have hhigh : n % (256 * 256 ^ k) / 256 = n / 256 % 256 ^ k := Nat.mod_mul_right_div_self n 256 (256 ^ k)
    rw [Nat.pow_succ']
    simp only [leBytes, hlow, hhigh, ih]

/-- The bytes of a number put together from a low part that fits its bytes and a high part. -/
theorem leBytes_add_mul (j k a b : Nat) (ha : a < 256 ^ j) :
    leBytes (j + k) (a + b * 256 ^ j) = leBytes j a ++ leBytes k b := by
  have hlow : (a + b * 256 ^ j) % 256 ^ j = a := by rw [Nat.add_mul_mod_self_right, Nat.mod_eq_of_lt ha]
  have hhigh : (a + b * 256 ^ j) / 256 ^ j = b := by
    rw [Nat.add_mul_div_right _ _ (Nat.pow_pos (by decide)), Nat.div_eq_of_lt ha, Nat.zero_add]
  rw [leBytes_add, hhigh, ← leBytes_mod, hlow]

/-- The first field of a structure reads as its number. -/
theorem le_leBytes_append (k n : Nat) (r : List Byte) : le (leBytes k n ++ r) 0 k = n % 256 ^ k := by
  have htake : (leBytes k n ++ r).take k = leBytes k n := List.take_left' (length_leBytes k n)
  simp [le, slice, htake, leNat_leBytes]

/-- A later field is read in what follows the first one. -/
theorem le_leBytes_append_of_le {j i : Nat} (h : j ≤ i) (n k : Nat) (r : List Byte) :
    le (leBytes j n ++ r) i k = le r (i - j) k := by
  have hdrop : (leBytes j n ++ r).drop i = r.drop (i - j) := by
    rw [List.drop_append, length_leBytes, List.drop_of_length_le (by simpa using h), List.nil_append]
  simp [le, slice, hdrop]

/-! ### The entry (R73) -/

theorem b2n_le_one (b : Bool) : b2n b ≤ 1 := by cases b <;> decide

/-- The upper half of DW3: P, SC, SCT, two bits 0, M and DNR (R73). -/
def completionFlags (st : Status) (phase : Bool) : Nat :=
  b2n phase + 2 * st.sc + 2 ^ 9 * st.sct + 2 ^ 14 * b2n (!st.ok) + 2 ^ 15 * b2n (!st.retry)

/-- DW3 holds the CID below these flags. -/
theorem completionEntry_dw3 (st : Status) (cid : Nat) (phase : Bool) (hsc : st.sc < 256) (hsct : st.sct < 8) :
    cid + place (b2n phase) 16 1 + place st.sc 17 8 + place st.sct 25 3 + place (b2n !st.ok) 30 1
      + place (b2n !st.retry) 31 1 = cid + completionFlags st phase * 256 ^ 2 := by
  have hp := b2n_le_one phase
  have hm := b2n_le_one !st.ok
  have hd := b2n_le_one !st.retry
  unfold place completionFlags
  omega

/-- The entry is a row of six little-endian fields: DW0, DW1, SQ head, QPID, CID and the flags. The empty tail
lets one rule read the last field as it reads the others. -/
theorem completionEntry_fields (st : Status) (sqHead q cid : Nat) (phase : Bool) (hh : sqHead < 65536) (hc : cid < 65536)
    (hsc : st.sc < 256) (hsct : st.sct < 8) :
    completionEntry st sqHead q cid phase = leBytes 4 st.dw0.toNat ++ (leBytes 4 st.dw1.toNat ++ (leBytes 2 sqHead
      ++ (leBytes 2 q ++ (leBytes 2 cid ++ (leBytes 2 (completionFlags st phase) ++ []))))) := by
  have hdw2 := leBytes_add_mul 2 2 sqHead q hh
  have hdw3 := leBytes_add_mul 2 2 cid (completionFlags st phase) hc
  unfold completionEntry
  simp only [completionEntry_dw3 st cid phase hsc hsct]
  rw [show sqHead + q * 65536 = sqHead + q * 256 ^ 2 from rfl, hdw2, hdw3]
  simp only [List.append_assoc, List.append_nil]

/-- The flags fill the 16 bits, each in its place (R73). -/
theorem completionFlags_bits (st : Status) (phase : Bool) (hsc : st.sc < 256) (hsct : st.sct < 8) :
    completionFlags st phase < 65536 ∧ completionFlags st phase % 2 = b2n phase
      ∧ completionFlags st phase / 2 % 256 = st.sc ∧ completionFlags st phase / 2 ^ 9 % 8 = st.sct
      ∧ completionFlags st phase / 2 ^ 12 % 4 = 0 ∧ completionFlags st phase / 2 ^ 14 % 2 = b2n (!st.ok)
      ∧ completionFlags st phase / 2 ^ 15 = b2n (!st.retry) := by
  have hp := b2n_le_one phase
  have hm := b2n_le_one !st.ok
  have hd := b2n_le_one !st.retry
  unfold completionFlags
  omega

/-- What each of the six fields reads. -/
theorem le_completionEntry (st : Status) (sqHead q cid : Nat) (phase : Bool) (hh : sqHead < 65536) (hq : q < 65536)
    (hc : cid < 65536) (hsc : st.sc < 256) (hsct : st.sct < 8) :
    let e := completionEntry st sqHead q cid phase
    e.length = 16 ∧ le e 0 4 = st.dw0.toNat ∧ le e 4 4 = st.dw1.toNat ∧ le e 8 2 = sqHead ∧ le e 10 2 = q ∧ le e 12 2 = cid
      ∧ le e 14 2 = completionFlags st phase := by
  have hf := (completionFlags_bits st phase hsc hsct).1
  have h0 := st.dw0.isLt
  have h1 := st.dw1.isLt
  simp only [completionEntry_fields st sqHead q cid phase hh hc hsc hsct, le_leBytes_append, le_leBytes_append_of_le,
    Nat.reduceLeDiff, Nat.reduceSub, List.length_append, length_leBytes, List.length_nil, Nat.reducePow,
    true_and]
  omega

/-- DNR is 0 with success, 0/22 and 7/86 (R73). -/
theorem Status.retry_iff (st : Status) :
    st.retry = true ↔ (st.sct = 0 ∧ st.sc = 0) ∨ (st.sct = 0 ∧ st.sc = 0x22) ∨ (st.sct = 7 ∧ st.sc = 0x86) := by
  simp [Status.retry, or_assoc]

/-! ### Posting and the session's record -/

/-- The record of a session in which a command is posted: an error is one more entry of its Error Information log, newest first,
of which 64 stay (log entry 8). -/
def Session.afterPost (x : Session) (c : Cmd) (st : Status) : Session :=
  if st.ok then x
  else { x with errors := ((c.cid, c.qpid, st.sct, st.sc) :: x.errors).take 64, errTotal := x.errTotal + 1 }

theorem Session.afterPost_errors (x : Session) (c : Cmd) (st : Status) : (x.afterPost c st).errors
    = if st.ok then x.errors else ((c.cid, c.qpid, st.sct, st.sc) :: x.errors).take 64 := by
  unfold Session.afterPost
  split <;> rfl

@[simp] theorem State.sess?_setQp (s : State) (q i : Nat) (v : Qp) : (s.setQp q v).sess? i = s.sess? i := rfl

@[simp] theorem State.sess?_modCmd (s : State) (t i : Nat) (f : Cmd → Cmd) : (s.modCmd t f).sess? i = s.sess? i := rfl

@[simp] theorem State.sess?_unholdAborts (s : State) (t i : Nat) : (s.unholdAborts t).sess? i = s.sess? i := rfl

@[simp] theorem State.sess?_stamp (s : State) (t k i : Nat) : (s.stamp t k).sess? i = s.sess? i := rfl

/-- Before the start wait ends a request of the answer reserve takes its descriptor and is not sent (R40), so every session's
record stays as it was. -/
theorem State.sess?_answerRequest {s : State} {d : Desc} (hr : d.kind.reserved = true) (hs : s.xylem.started = false)
    (i : Nat) : (s.answerRequest d).sess? i = s.sess? i := by
  simp [State.answerRequest, State.openDesc, hr, hs, State.sess?]

/-- Posting changes the record of the command's session by the log entry of an error alone. -/
theorem State.sess?_post {s : State} {tag : Nat} {c : Cmd} {q : Qp} {x : Session} (hc : s.cmd? tag = some c)
    (hq : s.qp? c.qpid = some q) (hx : s.sess? c.sid = some x) (hs : s.xylem.started = false) :
    (s.post tag).sess? c.sid = some (x.afterPost c (c.status.getD { sct := 0, sc := 0 })) := by
  simp only [State.post, hc, hq, hx, Session.afterPost]
  rw [State.sess?_answerRequest]
  · cases (c.status.getD { sct := 0, sc := 0 }).ok <;> simp [State.sess?_modSess, hx]
  · rfl
  · cases (c.status.getD { sct := 0, sc := 0 }).ok <;> exact hs

/-- Settles O46: the entry is a row of six little-endian fields, the last of which holds P, SC, SCT, M and DNR, and M is 1 with
the statuses that posting logs. -/
theorem completionEntryFormat : Obligations.CompletionEntryFormat := by
  refine ⟨fun st sqHead q cid phase hh hq hc hsc hsct => ?_, Status.retry_iff, fun s tag c q x hc hq hx hs =>
    ⟨_, State.sess?_post hc hq hx hs, Session.afterPost_errors _ _ _⟩⟩
  obtain ⟨hlen, hdw0, hdw1, hhead, hqpid, hcid, hflags⟩ := le_completionEntry st sqHead q cid phase hh hq hc hsc hsct
  intro e
  refine ⟨hlen, hdw0, hdw1, hhead, hqpid, hcid, ?_⟩
  rw [hflags]
  exact (completionFlags_bits st phase hsc hsct).2

end Sys2Proof.Machine
end

section
/-!
PROOFS. Placement in a stripe (R144, R146): the slots of P, Q and the data chunks as the slots met on one turn round the grove
from the slot of P, and a block offset as stripe, chunk and block.
-/

namespace Sys2Proof.Machine

open Sys2Proof

/-! ### Slots (R144) -/

/-- The slot `i` places after that of P, round the `n` slots of the grove. P is at place 0, Q at 1 and data chunk `d` at
`d + 2`, so each chunk of a stripe has a place of its own below `n`. -/
def Grove.slotAfterP (g : Grove) (s i : Nat) : Nat := (g.pSlot s + i) % g.n

theorem Grove.slotAfterP_lt {g : Grove} (hn : 0 < g.n) (s i : Nat) : g.slotAfterP s i < g.n := Nat.mod_lt _ hn

/-- Two places that share a slot lie a multiple of `n` apart, so a place below `n` is not past the other. -/
theorem Grove.place_le_of_slotAfterP_eq {g : Grove} {s i j : Nat} (hi : i < g.n)
    (h : g.slotAfterP s i = g.slotAfterP s j) : i ≤ j := by
  have hmod : (g.pSlot s + i - (g.pSlot s + j)) % g.n = 0 := Nat.sub_mod_eq_zero_of_mod_eq h
  have hsub : i - j = 0 := by
    rwa [Nat.add_sub_add_left, Nat.mod_eq_of_lt (Nat.lt_of_le_of_lt (Nat.sub_le i j) hi)] at hmod
  exact Nat.le_of_sub_eq_zero hsub

/-- One turn meets no slot twice. -/
theorem Grove.slotAfterP_inj {g : Grove} {s i j : Nat} (hi : i < g.n) (hj : j < g.n)
    (h : g.slotAfterP s i = g.slotAfterP s j) : i = j :=
  Nat.le_antisymm (Grove.place_le_of_slotAfterP_eq hi h) (Grove.place_le_of_slotAfterP_eq hj h.symm)

theorem Grove.pSlot_eq_slotAfterP {g : Grove} (hn : 0 < g.n) (s : Nat) : g.pSlot s = g.slotAfterP s 0 := by
  have hlt : g.pSlot s < g.n := by unfold Grove.pSlot; omega
  exact (Nat.mod_eq_of_lt hlt).symm

theorem Grove.qSlot_eq_slotAfterP (g : Grove) (s : Nat) : g.qSlot s = g.slotAfterP s 1 := rfl

theorem Grove.dSlot_eq_slotAfterP (g : Grove) (s d : Nat) : g.dSlot s d = g.slotAfterP s (d + 2) := by
  calc ((g.pSlot s + 1) % g.n + 1 + d) % g.n
    _ = ((g.pSlot s + 1) % g.n + (1 + d)) % g.n := by rw [Nat.add_assoc]
    _ = (g.pSlot s + 1 + (1 + d)) % g.n := Nat.mod_add_mod _ _ _
    _ = (g.pSlot s + (d + 2)) % g.n := by congr 1; omega

/-- P, Q and the data chunks of a stripe lie on slots of the grove, no two of them on one. -/
theorem Grove.slots_distinct {g : Grove} (hn : 2 ≤ g.n) (s : Nat) :
    g.pSlot s < g.n ∧ g.qSlot s < g.n ∧ g.pSlot s ≠ g.qSlot s
      ∧ ∀ d < g.n - 2, g.dSlot s d < g.n ∧ g.dSlot s d ≠ g.pSlot s ∧ g.dSlot s d ≠ g.qSlot s
        ∧ ∀ e < d, g.dSlot s e ≠ g.dSlot s d := by
  have hpos : 0 < g.n := by omega
  have hne {i j : Nat} (hi : i < g.n) (hj : j < g.n) (hij : i ≠ j) : g.slotAfterP s i ≠ g.slotAfterP s j :=
    mt (Grove.slotAfterP_inj hi hj) hij
  simp only [Grove.pSlot_eq_slotAfterP hpos, Grove.qSlot_eq_slotAfterP, Grove.dSlot_eq_slotAfterP]
  refine ⟨Grove.slotAfterP_lt hpos s 0, Grove.slotAfterP_lt hpos s 1, hne hpos hn (by decide), fun d hd => ?_⟩
  have hplace : d + 2 < g.n := by omega
  exact ⟨Grove.slotAfterP_lt hpos s _, hne hplace hpos (by omega), hne hplace hn (by omega),
    fun e he => hne (by omega) hplace (by omega)⟩

theorem Grove.chunkLba_of_conventional {g : Grove} (h : g.zoned = false) (s : Nat) : g.chunkLba s = segBase + s * g.c := by
  simp [Grove.chunkLba, h]

/-! ### Block offsets (R146) -/

theorem Grove.c_pos (g : Grove) : 0 < g.c := Nat.mul_pos (by decide) (Nat.pow_pos (by decide))

/-- A chunk's blocks divide the data blocks of a stripe, so the block within the chunk can be read from OFF itself. -/
theorem Grove.mod_w_mod_c (g : Grove) (off : Nat) : off % g.w % g.c = off % g.c :=
  Nat.mod_mod_of_dvd off (Nat.dvd_mul_left g.c (g.n - 2))

/-- The data of a stripe ends with its last chunk. -/
theorem Grove.place_chunk_lt {g : Grove} (hw : 0 < g.w) (seg off : Nat) : (g.place seg off).2.1 < g.n - 2 :=
  Nat.div_lt_of_lt_mul (Nat.mul_comm (g.n - 2) g.c ▸ Nat.mod_lt off hw)

/-- The offset is got back from its place, because a segment starts at a multiple of 64 stripes. -/
theorem Grove.offOf_place {g : Grove} {off : Nat} (hstripe : off / g.w < 64) (seg : Nat) :
    g.offOf (g.place seg off).1 (g.place seg off).2.1 (g.place seg off).2.2 = off := by
  have hseg : (64 * seg + off / g.w) % 64 = off / g.w := by
    rw [Nat.mul_add_mod, Nat.mod_eq_of_lt hstripe]
  calc (64 * seg + off / g.w) % 64 * g.w + off % g.w / g.c * g.c + off % g.c
    _ = off / g.w * g.w + (off % g.w / g.c * g.c + off % g.w % g.c) := by rw [hseg, Grove.mod_w_mod_c, Nat.add_assoc]
    _ = off / g.w * g.w + off % g.w := by rw [Nat.div_add_mod']
    _ = off := Nat.div_add_mod' off g.w

/-- Settles O59: the slots are those of one turn from P, and an offset within a segment is got back from the stripe, chunk and
block that its division by W and C gives. -/
theorem stripePlacement : Obligations.StripePlacement := by
  refine ⟨fun g s _ => ⟨rfl, rfl, fun d _ => rfl⟩, fun g s hn => Grove.slots_distinct (by omega) s,
    fun g s h => Grove.chunkLba_of_conventional h s, fun g seg off _ hoff => ?_⟩
  have hw : 0 < g.w := Nat.pos_of_mul_pos_left (Nat.zero_lt_of_lt hoff)
  have hstripe : off / g.w < 64 := Nat.div_lt_of_lt_mul (Nat.mul_comm 64 g.w ▸ hoff)
  exact ⟨rfl, Nat.le_add_right _ _, Nat.add_le_add_left (Nat.le_of_lt_succ hstripe) _, Grove.place_chunk_lt hw seg off,
    Nat.mod_lt off g.c_pos, Grove.offOf_place hstripe seg⟩

end Sys2Proof.Machine
end

section
/-!
PROOFS. What every command leaves (log entries 4 and 21): a next state with the queue as it was, its register file either that
of the state before or one of the files below, each of which keeps the canonical form.
-/

namespace Sys2Proof.Machine

open Sys2Proof

/-! ### The register files that commands leave -/

/-- A fold keeps the form where each of its steps does. -/
theorem Regs.foldl_wf {α : Type} (f : Regs → α → Regs) (hf : ∀ r a, r.wf = true → (f r a).wf = true) (l : List α)
    (r : Regs) (h : r.wf = true) : (l.foldl f r).wf = true := by
  induction l generalizing r with
  | nil => exact h
  | cons a l ih => exact ih _ (hf r a h)

/-- The same for the register file of a state. -/
theorem State.foldl_inv {α : Type} (f : State → α → State) (hf : ∀ s a, s.Inv → (f s a).Inv) (l : List α) (s : State)
    (h : s.Inv) : (l.foldl f s).Inv := by
  induction l generalizing s with
  | nil => exact h
  | cons a l ih => exact ih _ (hf s a h)

/-- What leaves the register file alone keeps its form. -/
theorem State.Inv.of_regs {s t : State} (h : s.Inv) (e : t.regs = s.regs) : t.Inv := by
  unfold State.Inv at *
  rwa [e]

theorem Still.inv {s t : State} (k : Still s t) (h : s.Inv) : t.Inv := h.of_regs k.regs

theorem State.Inv.until {s : State} (h : s.Inv) (t : Nat) : (s.until t).Inv := by
  rcases s.until_eq t with e | e <;> rw [e]
  · exact h
  · exact h.of_regs (by rfl)

theorem NMap.sorted_filter {α : Type} {m : NMap α} (h : NMap.sorted m = true) (f : Nat × α → Bool) :
    NMap.sorted (m.filter f) = true := by
  induction m with
  | nil => rfl
  | cons p t ih =>
    obtain ⟨ht, hlt⟩ := NMap.sorted_tail h
    cases hp : f p with
    | false => rw [List.filter_cons_of_neg (by simp [hp])]; exact ih ht
    | true =>
      rw [List.filter_cons_of_pos hp]
      exact NMap.sorted_cons (ih ht) fun q hq => hlt q (List.mem_filter.1 hq).1

/-- The registers of Sap alone (R340). -/
theorem Regs.sapOnly_wf {r : Regs} (h : r.wf = true) : r.sapOnly.wf = true := by
  obtain ⟨hv, hvd, hs, hsd⟩ := (Regs.wf_iff r).1 h
  exact (Regs.wf_iff _).2 ⟨NMap.sorted_filter hv _, fun p hp => hvd p (List.mem_filter.1 hp).1, NMap.sorted_filter hs _,
    fun p hp => hsd p (List.mem_filter.1 hp).1⟩

/-- A path record shown in its window (R235). -/
theorem Regs.loadPath_wf {r : Regs} (h : r.wf = true) (x : PathRec) : (r.loadPath x).wf = true :=
  Regs.foldl_wf _ (fun r _ h => Regs.put_wf r h _ _) _ _ (Regs.put_wf _ (Regs.put_wf r h _ _) _ _)

/-- The gate lists of a disabled port (N5 of Table 17.3). -/
theorem Regs.emptyGates_wf {r : Regs} (h : r.wf = true) (a : Nat) : (r.emptyGates a).wf = true := by
  refine Regs.foldl_wf _ (fun r p h => ?_) _ _ h
  dsimp only
  split
  · exact h
  · exact Regs.put_wf _ h _ _

/-! ### Writes and reads (R374, R379 to R381) -/

section
variable {s : State} (h : s.Inv)
include h

theorem State.applyRegs_wf (a b : Nat) (path : Path) (vals : NMap W32) : (s.applyRegs a b path vals).wf = true := by
  unfold State.applyRegs
  dsimp only
  split
  · exact Regs.applyVals_wf { s.regs with snaps := NMap.erase s.regs.snaps (a * 8 + b) } h vals
  · exact h

theorem State.commitRegs_wf (path : Path) (a b : Nat) : (s.commitRegs path a b).wf = true := by
  unfold State.commitRegs
  dsimp only
  split
  · exact State.applyRegs_wf h _ _ _ _
  · split
    · exact State.applyRegs_wf h _ _ _ _
    · exact h

theorem State.commits_inv (path : Path) (a : Nat) (ones : W32) : (s.commits path a ones).Inv := by
  refine State.foldl_inv _ (fun s b h => ?_) _ _ h
  split
  · exact State.commitRegs_wf h path a b
  · exact h

theorem State.plainRegs_wf (a : Nat) (data mask : W32) : (s.plainRegs a data mask).wf = true := by
  unfold State.plainRegs
  split
  · dsimp only
    split
    · exact Regs.put_wf _ h _ _
    · exact Regs.putShadow_wf _ (Regs.put_wf _ h _ _) _ _
  · exact h

theorem State.opRegs_wf (path : Path) (a : Nat) (wo : W32) : (s.opRegs path a wo).wf = true := by
  unfold State.opRegs
  split
  · split
    · exact Regs.empty_wf
    · exact h
  · split
    · exact Regs.empty_wf
    · exact h
  · split
    · exact Regs.put_wf _ h _ _
    · exact h
  · split
    · split
      · exact Regs.put_wf _ h _ _
      · exact h
    · exact h
  · exact Regs.loadPath_wf h _
  · exact State.commits_inv h path a wo
  · exact h

/-- Whatever a write is answered, the register file that it leaves is in canonical form. -/
theorem State.newRegs_wf (path : Path) (a : Nat) (data mask : W32) : (s.newRegs path a data mask).wf = true := by
  unfold State.newRegs
  split
  · dsimp only
    have hq := State.opRegs_wf (s := { s with regs := s.plainRegs a data mask }) (State.plainRegs_wf h a data mask) path a
      (data &&& mask &&& (regAt a).elim 0#32 (·.wo))
    split
    · exact Regs.emptyGates_wf hq a
    · exact hq
  · exact h
  · exact h
  · exact h

theorem State.write1_inv (path : Path) (a : Nat) (data mask : W32) : (s.write1 path a data mask).Inv :=
  State.newRegs_wf h path a data mask

theorem State.readRegs_wf (a : Nat) : (s.readRegs a).wf = true := by
  unfold State.readRegs
  dsimp only
  split
  · exact Regs.put_wf _ h _ _
  · exact h

theorem State.read1_inv (a : Nat) : (s.read1 a).Inv := State.readRegs_wf h a

/-! ### Sequences of writes and reads -/

theorem State.readSeq_inv (a n : Nat) : (State.readSeq a n s).2.Inv := by
  induction n generalizing a s with
  | zero => exact h
  | succ n ih => exact ih (State.read1_inv h a) (a + 4)

theorem State.regReads_inv (c : Cmd) : (s.regReads c).2.Inv := by
  unfold State.regReads
  split
  · exact State.readSeq_inv h _ _
  · exact h

theorem State.writeSeq_inv (a mask i : Nat) (l : List W32) : (State.writeSeq a mask i l s).1.Inv := by
  induction l generalizing i s with
  | nil => exact h
  | cons v l ih =>
    have hw := State.write1_inv h .admin (a + 4 * i) v (w32 mask)
    simp only [State.writeSeq]
    split
    · exact hw
    · split
      · exact hw
      · exact ih hw (i + 1)

theorem State.regWrites_inv (data : List Byte) (c : Cmd) : (s.regWrites data c).1.Inv := by
  unfold State.regWrites
  split
  · exact h
  · split <;> exact State.writeSeq_inv h _ _ _ _

theorem State.writeFrom_inv (a i : Nat) (l : List W32) : (s.writeFrom a i l).Inv :=
  State.foldl_inv _ (fun _ _ h => State.write1_inv h _ _ _ _) _ _ h

/-- The writes that a Register Write had made when its pair was fenced (R378). -/
theorem State.cutWrite_inv (cut : Option (Nat × Nat)) : (s.cutWrite cut).Inv := by
  unfold State.cutWrite
  split
  · exact h
  · split
    · exact h
    · dsimp only
      split
      · exact (State.writeFrom_inv h _ _ _).of_regs (by rfl)
      · exact h

/-- The writes that the new pair makes (R378), and its STATE. -/
theorem State.resumed_inv (t : Takeover) : (s.resumed t).Inv := by
  have hc : s.finishCut.Inv := by
    unfold State.finishCut
    split
    · exact h
    · exact (State.writeFrom_inv h _ _ _).of_regs (by rfl)
  have hk (u : State) : (s.finishCut.keepRegs u).Inv := hc.of_regs (by rfl)
  unfold State.resumed
  dsimp only
  split
  · exact State.write1_inv (hk _) _ _ _ _
  · split
    · exact hk _
    · exact State.write1_inv (hk _) _ _ _ _

theorem State.ucodeMark_inv (b : Nat) : (s.ucodeMark b).Inv := by
  unfold State.ucodeMark
  split
  · exact h
  · exact State.write1_inv (h.of_regs (by rfl)) _ _ _ _

theorem State.featRegs_wf (c : Cmd) : (s.featRegs c).wf = true := by
  unfold State.featRegs
  split
  · exact State.applyRegs_wf (State.write1_inv h _ _ _ _) _ _ _ _
  · exact h

theorem State.raOp_inv (op a : Nat) (data mask : W32) : (s.raOp op a data mask).1.Inv := by
  unfold State.raOp
  split
  · dsimp only
    split
    · exact State.read1_inv h a
    · exact h
  · exact State.write1_inv h _ _ _ _
  · exact State.write1_inv h _ _ _ _
  · exact h

theorem State.raOps_inv (p : List Byte) (stop : Bool) (k i : Nat) (failed : Bool) : (State.raOps p stop k i failed s).1.Inv := by
  induction k generalizing i failed s with
  | zero => exact h
  | succ k ih =>
    simp only [State.raOps]
    split
    · exact ih h _ _
    · exact ih (State.raOp_inv h _ _ _ _) _ _

theorem State.raFrame_inv (own src : BitVec 48) (vlan : Option (BitVec 16)) (p : List Byte) :
    (s.raFrame own src vlan p).Inv := by
  unfold State.raFrame
  split
  · exact ((still_raise0 0 1 s).trans (still_count _ 0 0 1)).inv h
  · exact (State.raOps_inv h p _ _ _ _).of_regs (by rfl)

theorem State.sweepRegs_wf : s.sweepRegs.wf = true := by
  unfold State.sweepRegs
  split
  · exact Regs.put_wf _ h _ _
  · exact h

/-! ### Start-up (R347 to R356) -/

theorem State.raise0_inv (g b : Nat) : (s.raise0 g b).Inv := (still_raise0 g b s).inv h

theorem State.recover_inv (cause : Nat) : (s.recover cause).Inv := by
  unfold State.recover
  exact State.raise0_inv (h.of_regs (by rfl)) 0 12

theorem State.skipRecords_inv (n : Nat) : (s.skipRecords n).Inv := by
  unfold State.skipRecords
  exact State.foldl_inv _ (fun _ _ h => State.raise0_inv (h.of_regs (by rfl)) 0 11) _ _ h

theorem State.seedWrite_inv (a : Nat) (v : W32) : (s.seedWrite a v).Inv := State.write1_inv h _ _ _ _

theorem State.applyBase_inv (img : List Byte) : (s.applyBase img).Inv := by
  unfold State.applyBase
  refine State.foldl_inv _ (fun _ _ h => State.seedWrite_inv h _ _) _ _ ?_
  refine State.foldl_inv _ (fun _ _ h => State.seedWrite_inv h _ _) _ _ ?_
  exact State.skipRecords_inv (h.of_regs (by rfl)) _

theorem State.startFrom_inv (slot : Nat) (fallback : Bool) (img : List Byte) : (s.startFrom slot fallback img).Inv := by
  unfold State.startFrom
  refine State.applyBase_inv ?_ img
  split
  · exact State.raise0_inv (h.of_regs (by rfl)) 0 10
  · exact h.of_regs (by rfl)

/-- The definition is unfolded as a function and the state after the wait named before anything is simplified: to compare the two
as they stand, the kernel would evaluate the wait of a million nanoseconds. -/
theorem State.checkImage_inv : s.checkImage.Inv := by
  suffices ∀ f, f = State.checkImage → (f s).Inv from this _ rfl
  intro f hf
  delta State.checkImage at hf
  subst hf
  dsimp -zeta only
  obtain ⟨u, hu⟩ : ∃ u, u = s.until (s.sap.pwrfailHighAt + 1000000) := ⟨_, rfl⟩
  rw [← hu]
  replace hu : u.Inv := hu ▸ h.until _
  dsimp only
  split
  · exact State.recover_inv hu 4
  · split
    · exact State.recover_inv hu 1
    · split
      · exact State.startFrom_inv hu _ _ _
      · exact State.startFrom_inv hu _ _ _
      · exact State.recover_inv hu 1

theorem State.enableBlocks_inv (l : List Nat) : (s.enableBlocks l).Inv := by
  have hf := State.foldl_inv (fun (s : State) (b : Nat) =>
    (s.seed.held.filter fun p => blockOf p.1 == b).foldl (fun s p => s.seedWrite p.1 p.2) s)
    (fun _ _ h => State.foldl_inv _ (fun _ _ h => State.seedWrite_inv h _ _) _ _ h) l s h
  exact hf.of_regs (by rfl)

theorem State.runSeq_inv (n : Nat) : (s.runSeq n).Inv := by
  induction n generalizing s with
  | zero => exact h
  | succ n ih =>
    unfold State.runSeq
    split
    · exact h
    · dsimp only
      split
      · exact ih ((State.write1_inv h _ _ _ _).of_regs (by rfl))
      · split
        · exact ih ((State.read1_inv h _).of_regs (by rfl))
        · exact State.read1_inv h _

theorem State.goSeq_inv : s.goSeq.Inv := State.runSeq_inv h _

theorem State.startServe_inv : s.startServe.Inv := by
  unfold State.startServe
  exact State.goSeq_inv (State.enableBlocks_inv (h.of_regs (by rfl)) _)

theorem State.restoreStart_inv : s.restoreStart.Inv := by
  unfold State.restoreStart
  exact State.enableBlocks_inv (h.of_regs (by rfl)) _

theorem State.trained_inv : s.trained.Inv := by
  unfold State.trained
  exact State.enableBlocks_inv (h.of_regs (by rfl)) _

/-- Unfolded as `checkImage` is. -/
theorem State.skipWait_inv : s.skipWait.Inv := by
  suffices ∀ f, f = State.skipWait → (f s).Inv from this _ rfl
  intro f hf
  delta State.skipWait at hf
  subst hf
  dsimp -zeta only
  obtain ⟨u, hu⟩ : ∃ u, u = (s.until (s.seed.waitSince + 100000000)).goSeq := ⟨_, rfl⟩
  rw [← hu]
  have hg : u.Inv := hu ▸ State.goSeq_inv (h.until _)
  dsimp only
  split
  · exact hg
  · split
    · exact hg
    · exact State.goSeq_inv (State.skipRecords_inv (hg.of_regs (by rfl)) 1)

theorem State.startDone_inv : s.startDone.Inv := by
  unfold State.startDone
  extract_lets u v
  have hu : u.Inv := State.goSeq_inv h
  clear_value u
  have hv : v.Inv := by
    unfold v
    split
    · exact hu.until _
    · exact hu
  clear_value v
  split
  · exact hu
  · exact State.raise0_inv (hv.of_regs (by rfl)) 0 8

end

/-! ### The shape of every command -/

/-- An answer that ends the command without a write of a register. -/
def Quiet (s : State) (o : Host.Outcome State Fault Refusal) : Prop := ∃ ok t, o = act ok t s

/-- An answer that ends the command with a register file that keeps the canonical form. -/
def Ends (s : State) (o : Host.Outcome State Fault Refusal) : Prop :=
  ∃ ok r t, o = actR ok r t s ∧ (s.Inv → r.wf = true)

theorem Quiet.act (ok : Bool) (t s : State) : Quiet s (act ok t s) := ⟨ok, t, rfl⟩

theorem Ends.actR {s : State} {r : Regs} (h : s.Inv → r.wf = true) (ok : Bool) (t : State) : Ends s (actR ok r t s) :=
  ⟨ok, r, t, rfl, h⟩

theorem Quiet.ends {s : State} {o : Host.Outcome State Fault Refusal} (h : Quiet s o) : Ends s o := by
  obtain ⟨ok, t, rfl⟩ := h
  exact ⟨ok, s.regs, t, rfl, id⟩

theorem Quiet.runs {s : State} {c : Instr} (h : Quiet s (exec c s)) : Runs c s fun t => t.regs = s.regs := by
  obtain ⟨ok, t, e⟩ := h
  refine ⟨_, e, ?_⟩
  cases ok <;> rfl

theorem Ends.runs {s : State} {c : Instr} (h : Ends s (exec c s)) :
    Runs c s fun t => t.pending = s.pending ∧ (s.Inv → t.Inv) := by
  obtain ⟨ok, r, t, e, hr⟩ := h
  refine ⟨_, e, ?_⟩
  cases ok
  · exact ⟨rfl, id⟩
  · exact ⟨rfl, hr⟩

theorem State.serveAdmin_quiet (s : State) (tag opc : Nat) (sub : Cmd → Bool) (f : Cmd → State → State) :
    Quiet s (s.serveAdmin tag opc sub f) := by
  unfold State.serveAdmin
  split <;> exact Quiet.act _ _ _

theorem State.serveAdminR_ends {s : State} {r : Cmd → Regs} (h : s.Inv → ∀ c, (r c).wf = true) (tag opc : Nat)
    (way : Cmd → Bool) (f : Cmd → State → State) : Ends s (s.serveAdminR tag opc way r f) := by
  unfold State.serveAdminR
  split
  · exact (Quiet.act _ _ _).ends
  · exact Ends.actR (fun hs => h hs _) _ _

theorem State.doWrite_ends (s : State) (ok : Bool) (path : Path) (a : Nat) (data mask : W32) :
    Ends s (s.doWrite ok path a data mask) := Ends.actR (fun h => State.newRegs_wf h path a data mask) _ _

theorem State.doRead_ends (s : State) (ok : Bool) (a : Nat) : Ends s (s.doRead ok a) :=
  Ends.actR (fun h => State.readRegs_wf h a) _ _

theorem State.doRec_ends (s : State) (op : Nat) (straps : BitVec 6) : Ends s (s.doRec op straps) := by
  refine Ends.actR (fun h => ?_) _ _
  split
  · exact Regs.empty_wf
  · exact h

/-! ### The two families of commands -/

/-- A command outside `writesRegs` ends without a write of a register. -/
theorem exec_quiet {c : Instr} (s : State) (h : c.writesRegs = false) : Quiet s (exec c s) := by
  cases c
  case frameReceive | pauseFrameReceive | heartbeatReceive | fetch | shadowPoll | rateUpdate | queuePairDisableDone |
      sessionResetSettle | keepaliveExpiry | sessionOpOpen | sessionOpClose | sessionOpReset | namespaceDeleteRecord | flush |
      read | compare | writeZeroes | datasetManagement | stealAttempt | cambiumCompact | pageWriteback | stripeOpen |
      prunerVictimSelect | segmentFree | memberFail | egressSelect | crownScrub | fwdEntryWrite | fwdEntryDelete |
      pathRecordWrite | linkUp | linkDown | timebaseSet | timebaseStep | ppsInCapture | ppsOutPulse | gateEntryAdvance |
      mdioStart | phyAutoPoll | mgmtCollision | mgmtBackoffExpiry | shaperWrite | heartbeatSend | neighbourLost |
      passThroughLock | pithCheckpoint | rearm | standbyWakeDone | standbyBootDone | takeoverTimeout | boughVacated |
      reloadAbort | reloadRetry | drivePresent | debounceExpiry | powerDelayExpiry | linkTrained | linkTrainTimeout |
      configWaitExpiry | driveInitDone | driveInitTimeout | surpriseRemoval | aerCorrectable | aerFatal | inboundViolation |
      containmentRelease | controllerResetDone | sapIdleExpiry | sapStateExit | droopTrip | droopRelease | thermalSample |
      throttleStep | pwrfailAssert | railUndervoltage | vaultWriteDone | referenceLoss | resetRelease | pllLocked |
      selftestDone | driveWaitExpiry | dlinkRetrain | dlinkRetrainDone | dlinkDown | engineCounterWrap | dramError |
      sidebandRead | sidebandAddressAssign | rehearsalBeginDelayExpiry | linkEqualizationFail | rootletDisableWaitExpiry |
      powerStateExitDone | pwrfailDeassert | carrierSenseDeassert | phyResetRelease | scrubPassDone | xylemStartWaitEnd =>
    exact Quiet.act _ _ _
  case getLogPage | identify | abort | getFeatures | asynchronousEventRequest | namespaceCreate | namespaceDelete |
      namespaceAttach | namespaceDetach | firmwareImageDownload | firmwareCommitWrite | firmwareCommitWriteMark |
      firmwareCommitMark | firmwareActivate | keepAlive | sessionOpen | sessionClose | sessionReset |
      saveConfiguration | groveCreate | groveDelete | addSpares | removeSpares | releaseNamespaces | rebuildNow |
      pauseRebuild | resumeRebuild | failMember | verify | keyLoad | keyLoadAndSelect | keySelect | keyClear =>
    exact State.serveAdmin_quiet _ _ _ _ _
  case sessionQuery =>
    dsimp only [exec]
    unfold execSessionQuery
    exact State.serveAdmin_quiet _ _ _ _ _
  case barkHoldRelease | doorbellReceive | ackReceive | nakReceive | readRespReceive | unsupportedPacketReceive |
      retransmitTimeout | requestRetryExhausted | ackDelayExpiry | pacedRelease | notifyCoalExpiry | write | stripeIdleClose |
      driveCommandComplete | rebuildSegmentDone | resyncStripe | shootLingerExpiry | learnedEntryAgeOut | bypassSettled |
      aerNonfatal | driveCommandTimeout | abortWaitExpiry | flashOpDone | flashWriteDone | hostEventGapExpiry |
      sidebandOffsetWrite =>
    dsimp only [exec]
    delta execBarkHoldRelease execDoorbellReceive execAckReceive execNakReceive execReadRespReceive execUnsupportedPacketReceive
      execRetransmitTimeout execRequestRetryExhausted execAckDelayExpiry execPacedRelease execNotifyCoalExpiry execWrite
      execStripeIdleClose execDriveCommandComplete execRebuildSegmentDone execResyncStripe execShootLingerExpiry
      execLearnedEntryAgeOut execBypassSettled execAerNonfatal execDriveCommandTimeout execAbortWaitExpiry execFlashOpDone
      execFlashWriteDone execHostEventGapExpiry execSidebandOffsetWrite
    split <;> exact Quiet.act _ _ _
  case commandPlace | translationDone | journalRecordDurable =>
    dsimp only [exec]
    delta execCommandPlace execTranslationDone execJournalRecordDurable
    split
    · exact Quiet.act _ _ _
    · split <;> exact Quiet.act _ _ _
  case quietExpiry q =>
    cases q <;> dsimp only [exec, execQuietExpiry] <;> split <;> exact Quiet.act _ _ _
  all_goals cases h

/-- A command of `writesRegs` ends with a register file in canonical form. -/
theorem exec_ends_of_writesRegs {c : Instr} (s : State) (h : c.writesRegs = true) : Ends s (exec c s) := by
  cases c
  case ringJoinWrite | watchdogKick | takeover | rehearse | drivePowerOff | rootletDisable | rootletEnable | resourcePin |
      registerFieldWrite | engineCounterClear | xylemCommitTimer | xylemCommitRate | budCommitFetch | knotCommitLimits |
      twigCommitSteal | heartwoodCommitWb | cambiumCommitWater | groveCommitLag | groveCommitAssy | sapwoodCommitWater |
      prunerCommitThresh | coppiceCommitLimits | crownCommitBuf | crownCommitEcn | fmacCommitGate | canopyCommitSch |
      canopyCommitPolice | rootletCommitIo | sapCommitPolicy | sapCommitSafety | tallyCommitFilter | tallyCommitSample |
      portClassWrite =>
    exact State.doWrite_ends _ _ _ _ _ _
  case indicationRead | txtsRead | ringDataRead | latchedPairRead =>
    exact State.doRead_ends _ _ _
  case recoveryErase | recoveryProgram | recoveryCheck | recoverySetNext | recoveryProvision | recoveryRestart =>
    exact State.doRec_ends _ _ _
  case setFeatures => exact State.serveAdminR_ends (fun h c => State.featRegs_wf h c) _ _ _ _
  case registerRead => exact State.serveAdminR_ends (fun h c => State.regReads_inv h c) _ _ _ _
  case registerWrite => exact State.serveAdminR_ends (fun h c => State.regWrites_inv h _ c) _ _ _ _
  case resetAssert | sapRestart | seedRestart => exact Ends.actR (fun _ => Regs.empty_wf) _ _
  case imageChecked => exact Ends.actR State.checkImage_inv _ _
  case drivesSettled => exact Ends.actR State.restoreStart_inv _ _
  case restoreDone => exact Ends.actR State.startServe_inv _ _
  case waitRecordTimeout => exact Ends.actR State.skipWait_inv _ _
  case startDone => exact Ends.actR State.startDone_inv _ _
  case flushSealDone => exact Ends.actR Regs.sapOnly_wf _ _
  case tallySweep => exact Ends.actR State.sweepRegs_wf _ _
  case watchdogExpiry cut => exact Ends.actR (fun h => State.cutWrite_inv h cut) _ _
  case microcodeLoaded b => exact Ends.actR (fun h => State.ucodeMark_inv h b) _ _
  case shaperRead => exact Ends.actR (fun h => Regs.put_wf _ h _ _) _ _
  case eventPendClear => exact Ends.actR (fun h => State.write1_inv (State.write1_inv h _ _ _ _) _ _ _ _) _ _
  case mdioDone =>
    refine Ends.actR (fun h => ?_) _ _
    split
    · exact h
    · exact Regs.put_wf _ h _ _
  case flushStopDone =>
    refine Ends.actR (fun h => ?_) _ _
    split
    · exact Regs.sapOnly_wf h
    · exact h
  case dramTrained =>
    refine Ends.actR (fun h => ?_) _ _
    split
    · exact State.trained_inv h
    · exact State.recover_inv h 5
  case lockstepMismatch =>
    refine Ends.actR (fun h => ?_) _ _
    split
    · exact State.cutWrite_inv h _
    · exact h
  case fwdEntryRead =>
    dsimp only [exec]
    unfold execFwdEntryRead
    split
    · exact (Quiet.act _ _ _).ends
    · exact Ends.actR (fun h => Regs.put_wf _ h _ _) _ _
  case standbyRestoreDone =>
    dsimp only [exec]
    unfold execStandbyRestoreDone
    split
    · exact (Quiet.act _ _ _).ends
    · exact Ends.actR (fun h => State.resumed_inv h _) _ _
  case registerAccessFrame =>
    dsimp only [exec]
    unfold execRegisterAccessFrame
    split
    · exact (Quiet.act _ _ _).ends
    · exact Ends.actR (fun h => State.raFrame_inv h _ _ _ _) _ _
  case commitApply =>
    dsimp only [exec]
    unfold execCommitApply
    split
    · exact (Quiet.act _ _ _).ends
    · exact Ends.actR (fun h => State.applyRegs_wf h _ _ _ _) _ _
  case gateListSwap =>
    dsimp only [exec]
    unfold execGateListSwap
    split
    · exact (Quiet.act _ _ _).ends
    · refine Ends.actR (fun h => ?_) _ _
      split
      · exact Regs.applyVals_wf _ (by exact h) _
      · exact h
  all_goals cases h

/-- Every command ends, and its register file keeps the canonical form. -/
theorem exec_ends (c : Instr) (s : State) : Ends s (exec c s) := by
  cases h : c.writesRegs with
  | false => exact (exec_quiet s h).ends
  | true => exact exec_ends_of_writesRegs s h

/-! ### What the statements say -/

/-- Settles O2: every command is `act` or `actR`, which answer a next state with the queue of the state before. -/
theorem everyCommandCompletesAndKeepsQueue : Obligations.EveryCommandCompletesAndKeepsQueue := by
  intro c s
  obtain ⟨t, e, hp, _⟩ := (exec_ends c s).runs
  exact ⟨t, e, hp⟩

/-- Settles O3: with a command in the queue its register file is one of those above; with none only time passes. -/
theorem stepKeepsRegisterForm : Obligations.StepKeepsRegisterForm := by
  intro s t h ht
  unfold step at ht
  split at ht
  · cases ht
    exact h.of_regs (s.advance_frame 1).1
  · obtain ⟨u, e, _, hu⟩ := (exec_ends _ _).runs
    cases e.symm.trans ht
    exact hu (h.of_regs rfl)

/-- Settles O5: a command outside `writesRegs` is `act`, whose register file is that of the state before. -/
theorem onlyRegisterCommandsWriteRegisters : Obligations.OnlyRegisterCommandsWriteRegisters :=
  fun _ s h => (exec_quiet s h).runs

/-- Settles O4: a fresh register file lists nothing. -/
theorem resetMeetsInvariant : Obligations.ResetMeetsInvariant := Regs.empty_wf

/-- Settles O1: the two branches of `step`. -/
theorem stepRunsFrontCommand : Obligations.StepRunsFrontCommand := by
  refine ⟨fun s c rest h => ?_, fun s h => ?_⟩ <;> unfold step <;> rw [h]

/-! ### The end of a command -/

/-- With no event request about to complete there is nothing to post. -/
theorem State.postAers_eq_self {s : State} (h : s.aerDue = []) : s.postAers = s := by
  unfold State.postAers
  rw [h, List.foldl_nil, ← h]

theorem State.settle_eq_self {s : State} (h : s.aerDue = []) : s.settle = s := by
  unfold State.settle
  rw [State.postAers_eq_self h, State.postAers_eq_self h]

/-- The register file and the queue are given to both sides, every other part is one that `settle` leaves alone. -/
theorem Still.endWith (t s : State) (r : Regs) : Still { t with regs := r, pending := s.pending } (t.endWith r s) :=
  { still_settle t with regs := rfl, pending := rfl }

/-- Settles O6: a command ends in `settle`, which posts the completions of event requests and is nothing without any. -/
theorem endOfACommandTouchesHostSideOnly : Obligations.EndOfACommandTouchesHostSideOnly := by
  refine ⟨Still.endWith, fun t s r h => ?_⟩
  unfold State.endWith
  rw [State.settle_eq_self h]

end Sys2Proof.Machine
end

section
/-!
PROOFS. What raising an event and posting a completion keep beside the parts named by `Still`: a source that is pending stays
pending, and what CTRL has handed to Pith stays handed (R391, R393, R74).
-/

namespace Sys2Proof.Machine

open Sys2Proof

/-- No source that is pending in `s` has been cleared in `t`, and CTRL's frames are the same. -/
structure Calm (s t : State) : Prop where
  pend : ∀ n, (s.src n).pend = true → (t.src n).pend = true
  ctrl : t.crown.ctrl = s.crown.ctrl

theorem Calm.refl (s : State) : Calm s s := ⟨fun _ h => h, rfl⟩

theorem Calm.trans {a b c : State} (h : Calm a b) (k : Calm b c) : Calm a c :=
  ⟨fun n p => k.pend n (h.pend n p), k.ctrl.trans h.ctrl⟩

/-- What touches neither the event sources nor CTRL. -/
theorem Calm.of_eq {s t : State} (he : t.evt = s.evt) (hc : t.crown.ctrl = s.crown.ctrl) : Calm s t := by
  refine ⟨fun n h => ?_, hc⟩
  unfold State.src at *
  rwa [he]

theorem Calm.foldl {α : Type} (f : State → α → State) (hf : ∀ s a, Calm s (f s a)) (l : List α) (s : State) :
    Calm s (l.foldl f s) := by
  induction l generalizing s with
  | nil => exact Calm.refl s
  | cons a l ih => exact (hf s a).trans (ih (f s a))

theorem Calm.ite {s a b : State} (c : Prop) [Decidable c] (h : Calm s a) (k : Calm s b) : Calm s (if c then a else b) := by
  split
  · exact h
  · exact k

/-! ### Raising an event (R391 to R395) -/

/-- An event request that an event answers: the hosts' side only. -/
theorem State.tryAer_frame (sid : Nat) (s : State) :
    s.tryAer sid = { s with bud := (s.tryAer sid).bud, aerDue := (s.tryAer sid).aerDue } := by
  unfold State.tryAer
  split
  · dsimp only
    split <;> rfl
  · rfl

theorem State.tell_frame (n cnt time : Nat) (d : W32) (s : State) (sid : Nat) :
    State.tell n cnt time d s sid
      = { s with bud := (State.tell n cnt time d s sid).bud, aerDue := (State.tell n cnt time d s sid).aerDue } := by
  unfold State.tell
  dsimp only
  split
  · split
    · rfl
    · exact State.tryAer_frame _ _
  · exact State.tryAer_frame _ _

theorem State.tells_frame (n cnt time : Nat) (d : W32) (l : List Nat) (s : State) :
    l.foldl (State.tell n cnt time d) s
      = { s with bud := (l.foldl (State.tell n cnt time d) s).bud, aerDue := (l.foldl (State.tell n cnt time d) s).aerDue } := by
  induction l generalizing s with
  | nil => rfl
  | cons a l ih =>
    rw [List.foldl_cons, ih, State.tell_frame]

/-- A delivery notes that the hosts were told, and changes no other field of no other source (R393). -/
theorem State.src_deliver (n cnt : Nat) (s : State) :
    ∃ told, ∀ m, (s.deliver n cnt).src m = if m = n then { s.src n with told := told } else s.src m := by
  unfold State.deliver
  split
  · refine ⟨true, fun m => ?_⟩
    dsimp only
    rw [State.tells_frame]
    split
    · next h => rw [h]; exact NMap.getD_set_same _ _ _ _
    · next h => exact NMap.getD_set_other _ _ _ _ _ h
  · refine ⟨(s.src n).told, fun m => ?_⟩
    split
    · next h => rw [h]
    · rfl

theorem State.deliver_frame (n cnt : Nat) (s : State) :
    s.deliver n cnt
      = { s with evt := (s.deliver n cnt).evt, bud := (s.deliver n cnt).bud, aerDue := (s.deliver n cnt).aerDue } := by
  unfold State.deliver
  split
  · dsimp only
    rw [State.tells_frame]
  · rfl

/-- Raising an event touches the event sources, the hosts' side and the event requests answered, and nothing else. -/
theorem State.raise_frame (n : Nat) (d : W32) (s : State) :
    s.raise n d = { s with evt := (s.raise n d).evt, bud := (s.raise n d).bud, aerDue := (s.raise n d).aerDue } := by
  unfold State.raise
  dsimp only
  rw [State.deliver_frame]

theorem State.xylem_raise (n : Nat) (d : W32) (s : State) : (s.raise n d).xylem = s.xylem := by
  rw [State.raise_frame]

theorem State.crown_raise (n : Nat) (d : W32) (s : State) : (s.raise n d).crown = s.crown := by
  rw [State.raise_frame]

theorem State.xylem_raise0 (g b : Nat) (s : State) : (s.raise0 g b).xylem = s.xylem := State.xylem_raise _ _ s

/-- The record of source `n` after a raise at `s`, before any delivery. -/
def raisedSrc (s : State) (n : Nat) (d : W32) : Src :=
  { pend := true, raises := satAdd (s.src n).raises 1 255, time := s.tb, detail := d, told := false }

/-- A raise gives its source these fields, and leaves every other source as it was (R391). -/
theorem State.src_raise (n : Nat) (d : W32) (s : State) :
    ∃ told, ∀ m, (s.raise n d).src m
      = if m = n then { pend := true, raises := satAdd (s.src n).raises 1 255, time := s.tb, detail := d, told := told }
        else s.src m := by
  obtain ⟨told, h⟩ := State.src_deliver n 1 { s with evt := NMap.set s.evt n (raisedSrc s n d) }
  refine ⟨told, fun m => (h m).trans ?_⟩
  split
  · simp only [State.src, NMap.getD_set_same]
    rfl
  · next hm => exact NMap.getD_set_other _ _ _ _ _ hm

theorem State.pend_raise_same (n : Nat) (d : W32) (s : State) : ((s.raise n d).src n).pend = true := by
  obtain ⟨told, h⟩ := State.src_raise n d s
  rw [h, if_pos rfl]

theorem State.pend_raise0_same (g b : Nat) (s : State) : ((s.raise0 g b).src (evSrc g b)).pend = true :=
  State.pend_raise_same _ _ s

theorem calm_raise (n : Nat) (d : W32) (s : State) : Calm s (s.raise n d) := by
  obtain ⟨told, h⟩ := State.src_raise n d s
  refine ⟨fun m hm => ?_, by rw [State.crown_raise]⟩
  rw [h]
  split
  · rfl
  · exact hm

theorem calm_raise0 (g b : Nat) (s : State) : Calm s (s.raise0 g b) := calm_raise _ _ s

/-- Settles O15: `State.src_raise` names the fields of every source, and `still_raise` the parts that stay. -/
theorem raisingAnEvent : Obligations.RaisingAnEvent := by
  intro s n detail t
  obtain ⟨told, h⟩ := State.src_raise n detail s
  have hn := h n
  rw [if_pos rfl] at hn
  exact ⟨by rw [hn], by rw [hn]; rfl, by rw [hn], by rw [hn], fun m hm => by rw [h m, if_neg hm], still_raise n detail s⟩

/-! ### Updates of the parts that may change -/

theorem calm_count (s : State) (b c k : Nat) : Calm s (s.count b c k) := Calm.of_eq rfl rfl
theorem calm_modQp (s : State) (q : Nat) (f : Qp → Qp) : Calm s (s.modQp q f) := Calm.of_eq rfl rfl
theorem calm_setQp (s : State) (q : Nat) (x : Qp) : Calm s (s.setQp q x) := Calm.of_eq rfl rfl
theorem calm_modSess (s : State) (i : Nat) (f : Session → Session) : Calm s (s.modSess i f) := Calm.of_eq rfl rfl
theorem calm_setSess (s : State) (i : Nat) (x : Session) : Calm s (s.setSess i x) := Calm.of_eq rfl rfl
theorem calm_modCmd (s : State) (t : Nat) (f : Cmd → Cmd) : Calm s (s.modCmd t f) := Calm.of_eq rfl rfl
theorem calm_setCmd (s : State) (t : Nat) (c : Cmd) : Calm s (s.setCmd t c) := Calm.of_eq rfl rfl
theorem calm_setDesc (s : State) (r : Nat) (d : Desc) : Calm s (s.setDesc r d) := Calm.of_eq rfl rfl
theorem calm_modDesc (s : State) (r : Nat) (f : Desc → Desc) : Calm s (s.modDesc r f) := Calm.of_eq rfl rfl
theorem calm_stamp (s : State) (t i : Nat) : Calm s (s.stamp t i) := calm_modCmd s t _

/-! ### Sending (R222 to R226, R263 to R267) -/

theorem calm_tagHead (s : State) (p tc : Nat) (e : Bool) : Calm s (s.tagHead p tc e) := by
  unfold State.tagHead
  split
  · exact Calm.refl s
  · split
    · exact Calm.refl s
    · exact Calm.of_eq rfl rfl

theorem calm_enqueue (s : State) (p tc : Nat) (f : QFrame) : Calm s (s.enqueue p tc f) := by
  unfold State.enqueue
  dsimp only
  split
  · exact Calm.trans (by exact Calm.of_eq rfl rfl) (calm_tagHead _ _ _ _)
  · exact Calm.of_eq rfl rfl

theorem calm_toResidue (s : State) (p : Nat) (f : QFrame) : Calm s (s.toResidue p f) := by
  unfold State.toResidue
  dsimp only
  split
  · exact (calm_raise0 _ _ _).trans (calm_count _ _ _ _)
  · exact Calm.of_eq rfl rfl

theorem calm_spendNonce (sid slot : Nat) (s : State) : Calm s (s.spendNonce sid slot) := by
  unfold State.spendNonce
  split
  · exact Calm.refl s
  · rename_i k _
    extract_lets lim c k' bk u v
    have h1 : Calm s u := Calm.of_eq rfl rfl
    have h2 : Calm s v := h1.trans (Calm.ite _ (calm_raise _ _ u) (Calm.refl u))
    split
    · have h3 := h2.trans (calm_raise (evSrc 6 35) (sessDetail sid none) v)
      split
      · refine h3.trans (Calm.ite _ (Calm.refl _) ?_)
        exact Calm.trans (by exact Calm.of_eq rfl rfl) (calm_raise _ _ _)
      · exact h3
    · exact h2

theorem calm_tagPkt (s : State) (sid p : Nat) (q : Pkt) : Calm s (s.tagPkt sid p q).2 := by
  unfold State.tagPkt
  dsimp only
  split
  · exact Calm.refl s
  · split
    · split <;> exact Calm.refl s
    · split
      · exact Calm.refl s
      · exact (calm_spendNonce _ _ _).trans (calm_count _ _ _ _)

theorem calm_send (s : State) (sid : Nat) (p : Pkt) (tc : Nat) (a : Bool) (r sh via : Option Nat) :
    Calm s (s.send sid p tc a r sh via).2 := by
  unfold State.send
  split
  · exact Calm.refl s
  · split
    · exact (calm_raise0 _ _ _).trans (calm_count _ _ _ _)
    · rename_i point e _
      split
      · exact Calm.refl s
      · have h := calm_tagPkt s sid point p
        split
        · rename_i heq
          rw [heq] at h
          exact h
        · rename_i heq
          rw [heq] at h
          dsimp only
          split
          · exact h.trans (calm_toResidue _ _ _)
          · exact h.trans (calm_enqueue _ _ _ _)

/-! ### Requests and completions (R39 to R50, R73, R74) -/

theorem calm_openDesc (d : Desc) (s : State) : Calm s (s.openDesc d) := by
  unfold State.openDesc
  dsimp only
  split
  · exact Calm.trans (by exact Calm.of_eq rfl rfl) (calm_raise0 _ _ _)
  · exact Calm.of_eq rfl rfl

theorem calm_noteRetx (d : Desc) (s : State) : Calm s (s.noteRetx d) := by
  unfold State.noteRetx
  dsimp only
  split <;> split <;> first
    | exact ((calm_modSess _ _ _).trans (calm_modCmd _ _ _)).trans (calm_modQp _ _ _)
    | exact (calm_modSess _ _ _).trans (calm_modCmd _ _ _)
    | exact (calm_modSess _ _ _).trans (calm_modQp _ _ _)
    | exact calm_modSess _ _ _

theorem calm_closePiece (p : Nat) (s : State) : Calm s (s.closePiece p) := by
  unfold State.closePiece
  split
  · exact Calm.refl s
  · dsimp only
    exact Calm.ite _ (Calm.of_eq rfl rfl) (Calm.refl s)

theorem calm_endAttach (p : Nat) (s : State) : Calm s (s.endAttach p) := by
  unfold State.endAttach
  exact Calm.trans (by exact Calm.of_eq rfl rfl) (calm_closePiece p _)

theorem calm_retainTrim (n : Nat) (s : State) : Calm s (s.retainTrim n) := by
  induction n generalizing s with
  | zero => exact Calm.refl s
  | succ n ih =>
    unfold State.retainTrim
    split
    · exact Calm.refl s
    · split
      · exact Calm.refl s
      · refine Calm.trans ?_ (ih _)
        exact Calm.trans (by exact Calm.of_eq rfl rfl) (Calm.ite _ (calm_endAttach _ _) (Calm.refl _))

theorem calm_retain (id : Nat) (b : Bool) (n : Nat) (s : State) : Calm s (s.retain id b n) := by
  unfold State.retain
  dsimp only
  split
  · exact calm_retainTrim _ _
  · exact Calm.trans (by exact Calm.of_eq rfl rfl) (calm_retainTrim _ _)

theorem calm_keepPayload (r : Nat) (d : Desc) (s : State) : Calm s (s.keepPayload r d) := by
  unfold State.keepPayload
  split
  · exact Calm.ite _ (Calm.refl s) (calm_retain _ _ _ _)
  · exact Calm.refl s

theorem calm_transmit (r : Nat) (s : State) : Calm s (s.transmit r).2 := by
  unfold State.transmit
  split
  · exact Calm.refl s
  · rename_i d _
    dsimp only
    have h := calm_send s d.sid (s.pktOf r d (decide (d.retries > 0) || d.retxAt.isSome)) d.tc d.kind.reserved (some r)
      (match d.kind with | .dataWrite _ _ x => x | _ => none) d.viaPort
    generalize s.send d.sid (s.pktOf r d (decide (d.retries > 0) || d.retxAt.isSome)) d.tc d.kind.reserved (some r)
      (match d.kind with | .dataWrite _ _ x => x | _ => none) d.viaPort = x at h ⊢
    obtain ⟨res, u⟩ := x
    have last : ∀ (res : SendRes) (dd : Desc), Calm u
        ((if decide (d.retries > 0) || d.retxAt.isSome then (u.setDesc r dd).noteRetx d else u.setDesc r dd).keepPayload r d) := by
      intro _ dd
      refine Calm.trans ?_ (calm_keepPayload r d _)
      split
      · exact (calm_setDesc _ _ _).trans (calm_noteRetx _ _)
      · exact calm_setDesc _ _ _
    cases res with
    | sent => exact h.trans (last .sent _)
    | lost => exact h.trans (last .lost _)
    | waits => exact h
    | refused _ => exact h

theorem calm_answerRequest (d : Desc) (s : State) : Calm s (s.answerRequest d) := by
  unfold State.answerRequest
  dsimp only
  split
  · exact (calm_openDesc _ _).trans (calm_transmit _ _)
  · exact calm_openDesc _ _

theorem calm_tryNotify (q : Nat) (s : State) : Calm s (s.tryNotify q) := by
  unfold State.tryNotify
  split
  · exact Calm.refl s
  · split
    · exact Calm.refl s
    · dsimp only
      split
      · exact (calm_modQp _ _ _).trans (calm_answerRequest _ _)
      · exact Calm.refl s

theorem calm_noteCredits (s : State) : Calm s s.noteCredits := by
  unfold State.noteCredits
  split
  · split
    · exact Calm.refl s
    · exact Calm.trans (by exact Calm.of_eq rfl rfl) (calm_raise0 _ _ _)
  · exact Calm.of_eq rfl rfl

theorem calm_traceDrop (s : State) : Calm s s.traceDrop := by
  unfold State.traceDrop
  dsimp only
  split
  · exact Calm.of_eq rfl rfl
  · exact Calm.trans (by exact Calm.of_eq rfl rfl) (calm_raise0 _ _ _)

theorem calm_traceEnd (t : Nat) (s : State) : Calm s (s.traceEnd t) := by
  unfold State.traceEnd
  split
  · exact Calm.refl s
  · split
    · exact Calm.refl s
    · dsimp only
      exact Calm.ite _ (calm_traceDrop _) (Calm.of_eq rfl rfl)

theorem calm_unholdAborts (t : Nat) (s : State) : Calm s (s.unholdAborts t) := Calm.of_eq rfl rfl

theorem calm_freeCmd (t : Nat) (s : State) : Calm s (s.freeCmd t) := by
  unfold State.freeCmd
  split
  · exact Calm.refl s
  · dsimp only
    have h : Calm s { s.traceEnd t with bud := { (s.traceEnd t).bud with cmds := NMap.erase (s.traceEnd t).bud.cmds t } } :=
      (calm_traceEnd t s).trans (by exact Calm.of_eq rfl rfl)
    split
    · exact (h.trans (calm_unholdAborts t _)).trans (calm_noteCredits _)
    · exact ((h.trans (calm_modSess _ _ _)).trans (calm_unholdAborts t _)).trans (calm_noteCredits _)

theorem calm_post (t : Nat) (s : State) : Calm s (s.post t) := by
  unfold State.post
  split
  · exact Calm.refl s
  · split
    · dsimp only
      refine Calm.trans ?_ (calm_answerRequest _ _)
      split
      · exact (((calm_setQp _ _ _).trans (calm_modCmd _ _ _)).trans (calm_unholdAborts t _)).trans (calm_stamp _ _ _)
      · exact ((((calm_setQp _ _ _).trans (calm_modSess _ _ _)).trans (calm_modCmd _ _ _)).trans
          (calm_unholdAborts t _)).trans (calm_stamp _ _ _)
    · exact calm_freeCmd t s

theorem calm_tryPost (t : Nat) (s : State) : Calm s (s.tryPost t) := by
  unfold State.tryPost
  split
  · exact Calm.refl s
  · split
    · exact Calm.refl s
    · split
      · exact calm_freeCmd t s
      · split
        · exact calm_post t s
        · exact Calm.refl s

theorem calm_postAers (s : State) : Calm s s.postAers := by
  unfold State.postAers
  exact Calm.trans (by exact Calm.of_eq rfl rfl) (Calm.foldl _ (fun s t => calm_tryPost t s) _ _)

theorem calm_settle (s : State) : Calm s s.settle := (calm_postAers s).trans (calm_postAers _)

/-- The end of a command keeps what is pending, and what Pith has been handed. -/
theorem Calm.endWith {s t : State} (h : Calm s t) (r : Regs) (u : State) : Calm s (t.endWith r u) :=
  (h.trans (calm_settle t)).trans (Calm.of_eq rfl rfl)

theorem Calm.done {s t : State} (h : Calm s t) (u : State) : Calm s (t.done u) := h.endWith _ u

/-! ### Block counters and the Timebase (R396, R248) -/

/-- A counter that counts nothing of the machine's own: Sap's skipped cycles and DRAM's traffic are read, not counted. -/
theorem State.counter_eq (s : State) (bank c : Nat) (h2 : ¬(bank = 2 ∧ c = 1)) (h118 : ¬(bank = 118 ∧ (c = 3 ∨ c = 4))) :
    s.counter bank c = NMap.getD s.tally.ctr (bank * 16 + c) 0 := by
  unfold State.counter
  rw [if_neg (by simpa using h118), if_neg (by simpa using h2)]

/-- Settles O16: counters of different banks or numbers have different keys, as a bank has 16 of them. -/
theorem blockCountersWrap : Obligations.BlockCountersWrap := by
  intro s bank c k hc h2 h118
  refine ⟨?_, fun b' c' hc' hne => ?_⟩
  · rw [State.counter_eq _ _ _ h2 h118, State.counter_eq _ _ _ h2 h118]
    exact NMap.getD_set_same _ _ _ _
  · have hk : b' * 16 + c' ≠ bank * 16 + c := by omega
    have hg : NMap.getD (s.count bank c k).tally.ctr (b' * 16 + c') 0 = NMap.getD s.tally.ctr (b' * 16 + c') 0 :=
      NMap.getD_set_other _ _ _ _ _ hk
    unfold State.counter
    rw [hg]
    rfl

/-- TIME_ADDEND as clamped (R248). -/
theorem State.addend_bounds (s : State) : -4294967 ≤ s.addend ∧ s.addend ≤ 4294967 := by
  unfold State.addend
  dsimp only
  split
  · omega
  · split <;> omega

/-- The Timebase runs on by what its fraction and the cycles sum to, whole nanoseconds carried into seconds. -/
theorem Timebase.run_eq (t : Timebase) (a : Int) (d : Nat) (ha : -4294967 ≤ a) (hn : t.ns < 1000000000) :
    let u := t.run a d
    ((u.sec * 1000000000 + u.ns : Nat) : Int) * 2 ^ 32 + u.frac
        = (((t.sec * 1000000000 + t.ns : Nat) : Int) * 2 ^ 32 + t.frac + d * (2 ^ 32 + a)) % (2 ^ 48 * 1000000000 * 2 ^ 32)
      ∧ u.ns < 1000000000 ∧ u.frac < 2 ^ 32 ∧ u.sec < 2 ^ 48 := by
  have hx : (0 : Int) ≤ (d : Int) * (2 ^ 32 + a) := Int.mul_nonneg (Int.natCast_nonneg d) (by omega)
  unfold Timebase.run
  generalize (d : Int) * (2 ^ 32 + a) = x at hx
  dsimp only
  omega

/-- Settles O17, by `Timebase.run_eq`. -/
theorem timebaseAdvances : Obligations.TimebaseAdvances := by
  refine ⟨fun s d hon hn _ _ => ?_, fun s d hoff => ?_, State.addend_bounds⟩
  · have h := Timebase.run_eq s.time s.addend d (State.addend_bounds s).1 hn
    unfold State.advance
    dsimp only
    rwa [if_pos hon]
  · unfold State.advance
    dsimp only
    rw [if_neg (by simp [hoff])]

end Sys2Proof.Machine
end

section
/-!
PROOFS. Snapshots at their safe boundaries (R380, R381).
-/

namespace Sys2Proof.Machine

open Sys2Proof

/-! ### What a snapshot puts in force (R380) -/

/-- A snapshot taken of `f` at the registers of `l` holds `f` of each of them. -/
theorem NMap.getD_map_mem (f : Nat → W32) (d : W32) {l : List Nat} {h : Nat} (hm : h ∈ l) :
    NMap.getD (l.map fun h => (h, f h)) h d = f h := by
  have hg : NMap.get? (l.map fun h => (h, f h)) h = some (f h) := by
    induction l with
    | nil => cases hm
    | cons a l ih =>
      rw [List.map_cons, NMap.get?]
      split
      · next he => rw [eq_of_beq he]
      · next he =>
        refine ih ((List.mem_cons.1 hm).resolve_left fun e => he ?_)
        rw [e]
        exact beq_self_eq_true a
  rw [NMap.getD, hg]

/-- Puts of the registers of `l`, in any order, each at the value that `f` names for it. -/
theorem Regs.get_foldl_put (f : Nat → W32) (l : NMap W32) (q : Regs) (hq : q.wf = true) (h : Nat) :
    ((l.foldl (fun q p => q.put p.1 (f p.1)) q).get h) = if h ∈ NMap.keys l then f h else q.get h := by
  induction l generalizing q with
  | nil => rfl
  | cons p l ih =>
    rw [List.foldl_cons, ih _ (Regs.put_wf q hq _ _)]
    by_cases hp : h = p.1
    · subst hp
      simp [NMap.keys, Regs.get_put_same q hq]
    · simp [NMap.keys, Regs.get_put_other q _ _ _ hp, hp]

/-- Puts leave every part of the register file but the values in force as it was. -/
theorem Regs.foldl_put_frame (f : Nat → W32) (l : NMap W32) (q : Regs) :
    l.foldl (fun q p => q.put p.1 (f p.1)) q
      = { q with val := (l.foldl (fun q p => q.put p.1 (f p.1)) q).val } := by
  induction l generalizing q with
  | nil => rfl
  | cons p l ih =>
    rw [List.foldl_cons]
    exact ih _

theorem Regs.get_applyVals (r : Regs) (h : r.wf = true) (vals : NMap W32) (a : Nat) :
    (r.applyVals vals).get a = if a ∈ NMap.keys vals then r.merge vals a else r.get a :=
  Regs.get_foldl_put (r.merge vals) vals r h a

theorem Regs.applyVals_shadow (r : Regs) (vals : NMap W32) : (r.applyVals vals).shadow = r.shadow := by
  unfold Regs.applyVals
  rw [Regs.foldl_put_frame]

theorem Regs.applyVals_violCount (r : Regs) (vals : NMap W32) : (r.applyVals vals).violCount = r.violCount := by
  unfold Regs.applyVals
  rw [Regs.foldl_put_frame]

/-- A group's snapshot takes the shadow's class C bits. -/
theorem Regs.merge_snapshot (r : Regs) (h a b : Nat) (hm : h ∈ groupRegs a b) :
    r.merge (r.snapshot a b) h = (r.get h &&& ~~~(cBits h)) ||| (r.getShadow h &&& cBits h) := by
  unfold Regs.merge Regs.snapshot
  rw [NMap.getD_map_mem (fun h => r.getShadow h &&& cBits h) _ hm, BitVec.and_assoc, BitVec.and_self]

/-- Naming the register file that a state has changes nothing. -/
theorem State.with_regs_eq {t : State} {r : Regs} (h : t.regs = r) : { t with regs := r } = t := by
  subst h
  rfl

/-- COMMIT_APPLY at the boundary of a group that is no gate's. -/
theorem exec_commitApply (s : State) (a b : Nat) (x : Snap) (hx : NMap.get? s.regs.snaps (a * 8 + b) = some x)
    (hg : isGate a b = false) :
    exec (.commitApply a b) s = .next ((s.boundary a b x).endWith (s.applyRegs a b x.path x.vals) s) := by
  dsimp only [exec]
  unfold execCommitApply
  rw [hx]
  exact actR_true (by rw [hg]; rfl) _ _ _

/-- Settles O21: `Regs.get_applyVals` for a snapshot that keeps the rule, `State.boundary` for one that breaks it. -/
theorem commitBoundary : Obligations.CommitBoundary := by
  refine ⟨fun s a b x hx hg hi hk => ⟨_, exec_commitApply s a b x hx hg, ?_⟩, fun s a b x hx hg hk => ?_, Regs.merge_snapshot⟩
  · have hr : s.applyRegs a b x.path x.vals
        = Regs.applyVals { s.regs with snaps := NMap.erase s.regs.snaps (a * 8 + b) } x.vals := by
      unfold State.applyRegs
      rw [if_pos hk]
    have hget : ∀ h, (s.applyRegs a b x.path x.vals).get h
        = if h ∈ NMap.keys x.vals then s.regs.merge x.vals h else s.reg h := fun h => by
      rw [hr]
      exact Regs.get_applyVals { s.regs with snaps := NMap.erase s.regs.snaps (a * 8 + b) } hi x.vals h
    refine ⟨fun h hm => (hget h).trans (if_pos hm), fun h hm => (hget h).trans (if_neg hm), ?_, ?_⟩
    · rw [State.endWith_regs, hr, Regs.applyVals_shadow]
    · rw [State.endWith_regs, hr, Regs.applyVals_violCount]
  · rw [exec_commitApply s a b x hx hg]
    have hr : s.applyRegs a b x.path x.vals
        = Regs.violate { s.regs with snaps := NMap.erase s.regs.snaps (a * 8 + b) } a x.path 2 := by
      unfold State.applyRegs
      rw [if_neg (by simp [hk])]
    have hb : s.boundary a b x = State.raise0 ((rejectEvent a b).getD (0, 0)).1 ((rejectEvent a b).getD (0, 0)).2
        { s with regs := s.applyRegs a b x.path x.vals } := by
      unfold State.boundary State.applyFx
      rw [if_neg (by simp [hk])]
      cases rejectEvent a b with
      | none => exact State.with_regs_eq (still_raise0 _ _ _).regs
      | some e => exact State.with_regs_eq (still_raise0 _ _ _).regs
    rw [hb, hr]
    rfl

/-! ### Egress selection (R228, R253, R279)

The statement speaks of every state, also of one whose map of egress queues lists a key twice. No run makes such a map, but there
writing an empty queue back uncovers the entry behind it, so that a frame is chosen which nobody saw waiting. -/

/-- The frame that the second entry of class 7 holds, and the one of class 3. -/
def hiddenFrame : QFrame := { frame := { len := 64, body := .other [] }, tc := 7, since := 0 }
def shownFrame : QFrame := { frame := { len := 70, body := .other [] }, tc := 3, since := 0 }

/-- A station whose port 0 is up under a gate list that never closes; the queue of class 7 is listed twice, empty first. -/
def doubledQueue : State := {
  regs := { val := [(0x13000000, 1#32), (0x14000000, 1#32)] }
  ports := [(0, { up := true, gate := some { entries := [(0xFF#8, 100)], cycle := 100, base := 0 } })]
  crown := { queues := [(7, []), (7, [hiddenFrame]), (3, [shownFrame])] } }

/-- What leaves port 0 there is the frame of class 7, of 64 bytes. -/
theorem doubledQueue_select :
    ((doubledQueue.noteGates 0).select (doubledQueue.waitingAt 0) 0).out.map (fun o => o.frame.len) = [64] := by
  decide +kernel

/-- Refutes O34: in `doubledQueue` the class chosen is 3 and its head frame has 70 bytes, but EGRESS_SELECT first counts the frames
that the gates hold, which rewrites the empty queue of class 7 and uncovers the frame listed behind it; that frame leaves. The
statement lacks the premise that the keys of the egress queues are strictly ascending. -/
theorem not_egressSelectionAndScrub : ¬ Obligations.EgressSelectionAndScrub := by
  rintro ⟨hport, -⟩
  obtain ⟨t, ht, fr, hout, hfr⟩ := hport doubledQueue 0 3 shownFrame (by decide) (by decide +kernel) (by decide +kernel)
    (by decide +kernel) (by decide +kernel)
  dsimp only [exec] at ht
  unfold execEgressSelect at ht
  rw [act_true (by decide +kernel), if_neg (by decide)] at ht
  injection ht with ht
  have hlen : t.out.map (fun o => o.frame.len) = [64] := by
    rw [← ht, State.done, (Still.endWith _ _ _).out]
    exact doubledQueue_select
  rw [hout] at hlen
  obtain rfl | ⟨_, hip, -⟩ := hfr
  · exact absurd hlen (by decide +kernel)
  · cases hip

end Sys2Proof.Machine
end

section
/-!
PROOFS. Bark's receiver and what Xylem takes (spec/11, spec/02).
-/

namespace Sys2Proof.Machine

open Sys2Proof

/-! ### Bark's decision (R264, R265) -/

theorem State.barkCheck_off (s : State) (p : Nat) (q : Pkt) (h : s.on 0x11000000 = false) : s.barkCheck p q = (true, s) := by
  unfold State.barkCheck
  rw [h]
  rfl

/-- A tagged packet passes under a key that is held, with the host's direction in its nonce and a tag that agrees. -/
theorem State.barkCheck_int (s : State) (p : Nat) (q : Pkt) (hon : s.on 0x11000000 = true) (hi : q.int = true) :
    (s.barkCheck p q).1 = true ↔ ∃ k, NMap.get? s.bark.keys q.keyIndex.toNat = some k
      ∧ q.nonce.getLsbD 63 = true ∧ q.mac k.key k.salt = q.tag := by
  unfold State.barkCheck
  rw [hon, hi]
  cases hk : NMap.get? s.bark.keys q.keyIndex.toNat with
  | none => simp
  | some k =>
    cases hn : q.nonce.getLsbD 63
    · simp
    · by_cases hm : q.mac k.key k.salt = q.tag <;> simp [hm]

/-- An untagged packet passes only where its session is not tagged and its port does not require it. -/
theorem State.barkCheck_plain (s : State) (p : Nat) (q : Pkt) (hon : s.on 0x11000000 = true) (hi : q.int = false) :
    (s.barkCheck p q).1 = true ↔ q.keyIndex.getLsbD 0 = false ∧ s.barkMode p ≠ 2 := by
  unfold State.barkCheck
  rw [hon, hi]
  cases hk : q.keyIndex.getLsbD 0
  · by_cases hm : s.barkMode p = 2 <;> simp [hm]
  · simp

/-- Where REQUIRE refuses an untagged packet it is counted and `bark.untagged` raised. -/
theorem State.barkCheck_untagged (s : State) (p : Nat) (q : Pkt) (hon : s.on 0x11000000 = true) (hi : q.int = false)
    (hk : q.keyIndex.getLsbD 0 = false) (hm : s.barkMode p = 2) :
    s.barkCheck p q = (false, (s.raise0 6 33).count 103 3 1) := by
  unfold State.barkCheck
  rw [hon, hi, hk, hm]
  rfl

/-- A packet that fails raises one of the two events and is counted. -/
theorem State.barkCheck_fails (s : State) (p : Nat) (q : Pkt) (h : (s.barkCheck p q).1 = false) :
    (∃ c, (s.barkCheck p q).2 = (s.raise0 6 32).count 103 c 1) ∨ (s.barkCheck p q).2 = (s.raise0 6 33).count 103 3 1 := by
  revert h
  unfold State.barkCheck
  dsimp only
  split
  · intro h; cases h
  · split
    · split
      · exact fun _ => .inl ⟨2, rfl⟩
      · split
        · exact fun _ => .inl ⟨4, rfl⟩
        · split
          · exact fun _ => .inl ⟨2, rfl⟩
          · intro h; cases h
    · split
      · exact fun _ => .inl ⟨2, rfl⟩
      · split
        · exact fun _ => .inr rfl
        · intro h; cases h

theorem State.pend_barkCheck (s : State) (p : Nat) (q : Pkt) (h : (s.barkCheck p q).1 = false) :
    (((s.barkCheck p q).2.src (evSrc 6 32)).pend = true ∨ ((s.barkCheck p q).2.src (evSrc 6 33)).pend = true)
      ∧ (s.barkCheck p q).2.xylem = s.xylem := by
  obtain ⟨c, e⟩ | e := s.barkCheck_fails p q h
  · rw [e]
    exact ⟨.inl (State.pend_raise0_same 6 32 s), State.xylem_raise0 6 32 s⟩
  · rw [e]
    exact ⟨.inr (State.pend_raise0_same 6 33 s), State.xylem_raise0 6 33 s⟩

/-! ### What Xylem discards, and what waits in its inbox (R19, R25, R31) -/

section toXylem

variable (s : State) (port : Nat) (h : Held) (u : Udp) (q : Pkt)

theorem State.toXylem_fragment (hf : h.frame.ip.any (fun i => i.mf || i.fragOff != 0) = true) : s.toXylem port h u q = s := by
  unfold State.toXylem
  dsimp only
  rw [hf, Bool.or_true]
  rfl

variable (hon : s.on 0x10000000 = true) (hc : u.csum ≠ .wrong)
  (hf : h.frame.ip.any (fun i => i.mf || i.fragOff != 0) = false)

include hon hc hf

/-- With Xylem on, a whole datagram whose checksum is not wrong gets as far as R25's checks. -/
theorem State.toXylem_admits :
    (!s.on 0x10000000 || u.csum == .wrong || h.frame.ip.any (fun i => i.mf || i.fragOff != 0)) = false := by
  rw [hon, hf, beq_false_of_ne hc]
  rfl

theorem State.toXylem_malformed (hm : malformed u q = true) : s.toXylem port h u q = s.raise0 4 0 := by
  unfold State.toXylem
  dsimp only
  rw [State.toXylem_admits s h u hon hc hf, hm]
  rfl

theorem State.toXylem_unbound (hm : malformed u q = false) (x : Session) (hx : s.sess? q.sid = some x) (he : q.srcEp ≠ x.hostEp) :
    s.toXylem port h u q
      = let v := s.raise (evSrc 4 1) (sessDetail q.sid none)
        { v with xylem := { v.xylem with bindDrops := v.xylem.bindDrops + 1 } } := by
  unfold State.toXylem
  dsimp only
  rw [State.toXylem_admits s h u hon hc hf, hm, hx, if_neg Bool.false_ne_true, if_neg Bool.false_ne_true]
  dsimp only
  rw [if_pos (bne_iff_ne.2 he)]

end toXylem

/-- Learning a sender touches the switch only. -/
theorem State.xylem_learn (p : Nat) (f : Frame) (ep : W32) (s : State) : (s.learn p f ep).xylem = s.xylem := by
  unfold State.learn
  dsimp only
  split
  · rfl
  · split
    · split <;> rfl
    · split
      · rfl
      · split <;> rfl

/-- A packet that its sender and destination fit waits in the inbox where its port is bound, and goes nowhere else. -/
theorem State.toXylem_inbox (s : State) (port : Nat) (h : Held) (u : Udp) (q : Pkt) (x : Session)
    (hon : s.on 0x10000000 = true) (hc : u.csum ≠ .wrong) (hf : h.frame.ip.any (fun i => i.mf || i.fragOff != 0) = false)
    (hm : malformed u q = false) (hx : s.sess? q.sid = some x) (he : q.srcEp = x.hostEp) (hd : q.dstEp = s.stationEp)
    (hk : q.int = true ∨ q.keyIndex.getLsbD 0 = false) (hop : q.op ≠ 8#4) :
    (s.toXylem port h u q).xylem.inbox = if x.ports.contains (some h.sub) then
        NMap.set s.xylem.inbox port (NMap.getD s.xylem.inbox port []
          ++ [{ sub := h.sub, cls := h.cls, tc := h.tc, ip := h.frame.ip
                pkt := { q with payload := fitBytes (if q.op == 2#4 then 0 else q.length.toNat) q.payload } }])
      else s.xylem.inbox := by
  have hint : (!q.int && q.keyIndex.getLsbD 0) = false := by
    obtain hk | hk := hk <;> rw [hk]
    · rfl
    · exact Bool.and_false _
  unfold State.toXylem
  dsimp only
  rw [State.toXylem_admits s h u hon hc hf, hm, hx, if_neg Bool.false_ne_true, if_neg Bool.false_ne_true]
  dsimp only
  rw [if_neg (by simp [he]), hint, hd, bne_self_eq_false, Bool.or_false, Bool.or_false]
  cases x.ports.contains (some h.sub)
  · rfl
  · rw [Bool.not_true, if_neg Bool.false_ne_true, if_pos rfl, if_neg (by simp [hop])]
    dsimp only
    rw [State.xylem_learn]

/-- Settles O38. -/
theorem barkAndHoldBuffers : Obligations.BarkAndHoldBuffers := by
  refine ⟨⟨State.barkCheck_off, State.barkCheck_int, State.barkCheck_plain, State.pend_barkCheck, State.barkCheck_untagged⟩,
    fun s port h rest q u hp hh hb hu => ?_, fun s port h u q _ _ hf => State.toXylem_fragment s port h u q hf,
    fun s port h u q hm hon hc hf => State.toXylem_malformed s port h u q hon hc hf hm,
    fun s port h u q x hm hon hc hf hx he => State.toXylem_unbound s port h u q hon hc hf hm x hx he,
    fun s port h u q x hm hon hc hf hx he hd hk hop => State.toXylem_inbox s port h u q x hon hc hf hm hx he hd hk hop⟩
  dsimp only [exec]
  unfold execBarkHoldRelease
  rw [hh]
  dsimp only
  rw [hb, hu, act_true hp]
  dsimp only
  cases hr : State.barkCheck _ h.sub q with
  | mk ok r => cases ok <;> rfl

/-! ### Doorbells (R33, R65) -/

/-- The first check of Table 2.6 that a doorbell fails: its region, its generation, its bounds. -/
theorem State.doorbellNak_iff (s : State) (q : Pkt) (x : Session) (hx : s.sess? q.sid = some x) :
    (s.doorbellNak q = some 3 ↔ q.region ≠ 0#32) ∧
    (s.doorbellNak q = some 1 ↔ q.region = 0#32 ∧ q.gen ≠ x.dbGen) ∧
    (s.doorbellNak q = some 4 ↔ q.region = 0#32 ∧ q.gen = x.dbGen ∧ 8 < q.offset.toNat + q.length.toNat) := by
  unfold State.doorbellNak
  rw [hx]
  by_cases hr : q.region = 0#32
  · by_cases hg : q.gen = x.dbGen
    · by_cases hb : 8 < q.offset.toNat + q.length.toNat
      · simp [hr, hg, hb]
      · cases hl : s.overLimit q <;> simp [hr, hg, hb]
    · simp [hr, hg]
  · simp [hr]

/-- A doorbell that is refused is answered with its NAK; the key limit is counted. -/
theorem State.takeDoorbell_refused (s : State) (q : Pkt) (ce : Bool) (c : Nat) (h : s.doorbellNak q = some c) :
    s.takeDoorbell q ce = (if c = 6 then s.count 103 5 1 else s).sendNak q.sid c q ce := by
  unfold State.takeDoorbell
  rw [h]
  dsimp only
  by_cases h6 : c = 6 <;> simp [h6]

theorem State.takeDoorbell_taken (s : State) (q : Pkt) (ce : Bool) (h : s.doorbellNak q = none) :
    s.takeDoorbell q ce = ((s.gatherAck q.sid q.srcEp (q.keyIndex.getLsbD 0) q.reqId ce q.ar).wake q.sid q.srcEp).ringBell
      q.sid (doorbellOf q.payload) := by
  unfold State.takeDoorbell
  rw [h]

/-- SQV on an enabled queue pair of the session schedules a fetch up to the tail it brings. -/
theorem State.ringBell_sq (s : State) (sid : Nat) (b : Doorbell) (y : Session) (x : Qp) (hy : s.sess? sid = some y)
    (hon : s.on 0x09000000 = true) (hlo : y.qpBase ≤ b.qpid) (hhi : b.qpid < y.qpBase + y.qpCount)
    (hx : s.qp? b.qpid = some x) (hst : x.st = .enabled) (hsq : b.sqv = true) (hcq : b.cqv = false) :
    s.ringBell sid b = s.modQp b.qpid fun x =>
      if x.st == .enabled then { x with sched := some (.doorbell b.sqTail) } else x := by
  unfold State.ringBell
  rw [hy]
  dsimp only
  rw [hon, if_neg (by simp), if_neg (by simp; omega), hx, hsq, hcq]
  dsimp only [Option.elim]
  rw [hst]
  rfl

theorem State.ringBell_outside (s : State) (sid : Nat) (b : Doorbell) (y : Session) (hy : s.sess? sid = some y)
    (hon : s.on 0x09000000 = true) (h : b.qpid < y.qpBase ∨ y.qpBase + y.qpCount ≤ b.qpid) :
    s.ringBell sid b = s.raise (evSrc 4 17) (sessDetail sid (some b.qpid)) := by
  unfold State.ringBell
  rw [hy]
  dsimp only
  rw [hon, if_neg (by simp), if_pos (by simpa using h)]

/-- Settles O39. -/
theorem doorbellsAreTaken : Obligations.DoorbellsAreTaken := by
  refine ⟨⟨fun s port x hp hx hop => ⟨(s.dropInbox port).takeDoorbell x.pkt x.ce, ?_, fun c hc h6 => ?_, fun hc => ?_,
      fun hc => ?_⟩,
    State.doorbellNak_iff, fun s port x hp hx hop => ?_⟩,
    fun s sid b y x hy hon hlo hhi hx hst hsq hcq => ?_, State.ringBell_outside⟩
  · dsimp only [exec]
    unfold execDoorbellReceive
    rw [hx]
    exact act_true (by rw [hp, hop]; rfl) _ _
  · exact (State.takeDoorbell_refused (s.dropInbox port) x.pkt x.ce c hc).trans (by rw [if_neg h6])
  · exact State.takeDoorbell_refused (s.dropInbox port) x.pkt x.ce 6 hc
  · exact State.takeDoorbell_taken (s.dropInbox port) x.pkt x.ce hc
  · dsimp only [exec]
    unfold execUnsupportedPacketReceive
    rw [hx]
    exact act_true (by simpa [hp, or_assoc] using hop) _ _
  · rw [State.ringBell_sq s sid b y x hy hon hlo hhi hx hst hsq hcq]
    refine ⟨?_, fun q hq => ?_⟩
    · exact (NMap.get?_modify _ _ _ _).trans (by rw [if_pos rfl]; simp [State.qp?] at hx; simp [hx, hst])
    · exact (NMap.get?_modify _ _ _ _).trans (if_neg hq)

/-! ### Answers (R38, R44) -/

/-- The answers of an endpoint enter the rate table and touch nothing else. -/
theorem State.noteAnswers_frame (q : Pkt) (ids : List W64) (k : Nat) (s : State) :
    s.noteAnswers q ids k = { s with xylem := { s.xylem with rates := (s.noteAnswers q ids k).xylem.rates } } := by
  unfold State.noteAnswers
  dsimp only
  split <;> rfl

theorem State.desc?_noteAnswers (q : Pkt) (ids : List W64) (k : Nat) (s : State) (r : Nat) :
    (s.noteAnswers q ids k).desc? r = s.desc? r := by
  rw [State.noteAnswers_frame]
  rfl

theorem State.cmd?_noteAnswers (q : Pkt) (ids : List W64) (k : Nat) (s : State) (t : Nat) :
    (s.noteAnswers q ids k).cmd? t = s.cmd? t := by
  rw [State.noteAnswers_frame]
  rfl

/-- An ID of an ACK meets a request that it fits, or is stale. -/
theorem State.takeAck_eq (s : State) (q : Pkt) (id : W64) : s.takeAck q id
    = if (s.desc? id.toNat).any (fun d => d.fits q) then s.answerOk id.toNat 0 0 [] else s.raise0 4 3 := by
  unfold State.takeAck
  cases s.desc? id.toNat <;> rfl

theorem exec_nakReceive (s : State) (port : Nat) (x : InPkt) (hp : crownIndex port = true) (hx : s.inboxHead port = some x)
    (hop : x.pkt.op = 5#4) :
    let u := (s.dropInbox port).noteAnswers x.pkt [x.pkt.reqId] (x.pkt.aux.toNat / 2 ^ 24)
    exec (.nakReceive port) s = .next (State.done (State.pump (match u.desc? x.pkt.reqId.toNat with
      | some d => if d.fits x.pkt then u.answerNak x.pkt.reqId.toNat (x.pkt.aux.toNat % 256) else u.stale
      | none => u.stale)) s) := by
  dsimp only [exec]
  unfold execNakReceive
  rw [hx]
  exact act_true (by rw [hp, hop]; rfl) _ _

/-- A NAK that meets no request that it fits counts no answer in the rate table. -/
theorem State.noteAnswers_none (s : State) (q : Pkt) (k : Nat) (h : (s.desc? q.reqId.toNat).any (fun d => d.fits q) = false) :
    s.noteAnswers q [q.reqId] k = s := by
  unfold State.noteAnswers
  rw [List.filter_cons_of_neg (by rw [h]; exact Bool.false_ne_true)]
  rfl

/-- Where a READ_RESP of the request `d` goes: write data to the Bough of its engine, the rest where it is asked for. -/
theorem State.readResp_lands (s u : State) (x : InPkt) (d : Desc) (hc : ∀ t, u.cmd? t = s.cmd? t) :
    (match u.boughOf d with
      | some k => u.toBough k x
      | none => u.answerOk x.pkt.reqId.toNat x.sub x.cls x.pkt.payload)
      = match d.kind with
        | .dataRead t _ => match (s.cmd? t).bind (·.engine) with
          | some e => u.toBough (e / 16) x
          | none => u.answerOk x.pkt.reqId.toNat x.sub x.cls x.pkt.payload
        | _ => u.answerOk x.pkt.reqId.toNat x.sub x.cls x.pkt.payload := by
  unfold State.boughOf
  cases d.kind
  case dataRead t off =>
    dsimp only
    rw [hc]
    cases (s.cmd? t).bind (·.engine) <;> rfl
  all_goals rfl

/-- Freeing a descriptor leaves Bark alone. -/
theorem State.bark_freeDesc (r : Nat) (s : State) : (s.freeDesc r).bark = s.bark := by
  unfold State.freeDesc
  dsimp only
  split
  · split
    · split
      · unfold State.openDesc
        dsimp only
        split
        · unfold State.raise0
          rw [State.raise_frame]
        · rfl
      · rfl
    · rfl
  · rfl

/-- Status of a command whose data request was refused (Table 2.7). -/
theorem State.nakStatus_eq (s : State) (sid code : Nat) : s.nakStatus sid code
    = if code = 1 then { sct := 7, sc := 0x82 } else if code = 2 then { sct := 7, sc := 0x81 }
      else if code = 6 then { sct := 7, sc := 0x83, dw0 := w32 (NMap.getD s.bark.tx sid 0) } else { sct := 0, sc := 4 } := by
  unfold State.nakStatus
  split
  · rfl
  · rfl
  · rfl
  · next h1 h2 h6 => rw [if_neg h1, if_neg h2, if_neg h6]

/-- A retry NAK sends its request again. -/
theorem State.answerNak_retry (s : State) (r : Nat) (d : Desc) (hd : s.desc? r = some d) (hs : d.st = .sent)
    (hl : d.retries < s.retryLimit) : s.answerNak r 8 = s.retransmit r := by
  unfold State.answerNak
  rw [hd]
  dsimp only
  rw [if_pos (beq_self_eq_true 8), if_pos (by simp [hs, hl])]

/-- Any other NAK of a data read ends its command and raises xylem.nak_rx. -/
theorem State.answerNak_dataRead (s : State) (r code : Nat) (d : Desc) (t off : Nat) (hd : s.desc? r = some d)
    (hk : d.kind = .dataRead t off) (h1 : 1 ≤ code) (h7 : code ≤ 7) :
    s.answerNak r code = ((((State.raise (evSrc 4 2) (s.detailOf d) (s.freeDesc r)).finish t
      (s.nakStatus d.sid code)).tryPost t).closeShoots).checkClosed d.sid := by
  have hn : (s.freeDesc r).nakStatus d.sid code = s.nakStatus d.sid code := by
    rw [State.nakStatus_eq, State.nakStatus_eq, State.bark_freeDesc]
  unfold State.answerNak
  rw [hd]
  dsimp only
  rw [if_neg (show ¬(code == 8) = true by simp; omega),
    if_pos (show (decide (1 ≤ code) && decide (code ≤ 7)) = true by simp [h1, h7]), hk]
  dsimp only
  rw [hn]

/-- Settles O40. -/
theorem answersMeetTheirRequests : Obligations.AnswersMeetTheirRequests := by
  refine ⟨fun s port x hp hx hop => ?_, State.takeAck_eq, fun s port x hp hx hop hd => ?_, fun s port x d hp hx hop hd hf => ?_,
    fun s port x hp hx hop => ?_, fun s r code d hd => ⟨?_, fun t off hk h1 h7 => ?_⟩⟩
  · dsimp only [exec]
    unfold execAckReceive
    rw [hx]
    exact act_true (by rw [hp, hop]; rfl) _ _
  · rw [exec_nakReceive s port x hp hx hop, State.noteAnswers_none _ _ _ hd]
    cases h : (s.dropInbox port).desc? x.pkt.reqId.toNat with
    | none => rfl
    | some d =>
      rw [h] at hd
      dsimp only
      rw [if_neg (by simpa using hd)]
      rfl
  · rw [exec_nakReceive s port x hp hx hop, State.desc?_noteAnswers]
    have hd' : (s.dropInbox port).desc? x.pkt.reqId.toNat = some d := hd
    rw [hd']
    dsimp only
    rw [if_pos hf]
  · dsimp only [exec]
    unfold execReadRespReceive
    rw [hx]
    dsimp only
    rw [act_true (by rw [hp, hop]; rfl), State.desc?_noteAnswers]
    have hd' : (s.dropInbox port).desc? x.pkt.reqId.toNat = s.desc? x.pkt.reqId.toNat := rfl
    rw [hd']
    refine congrArg (fun a : State =>
      Host.Outcome.next (State.done (if a.bud.qps == s.bud.qps then a.pump else a.pump.checkTols) s)) ?_
    cases s.desc? x.pkt.reqId.toNat with
    | none => rfl
    | some d =>
      dsimp only
      have hb : (!d.fits x.pkt || d.length != x.pkt.length.toNat) = !(d.fits x.pkt && d.length == x.pkt.length.toNat) :=
        (Bool.not_and _ _).symm
      rw [hb]
      cases d.fits x.pkt && d.length == x.pkt.length.toNat
      · rfl
      · rw [if_neg (by simp), if_neg (by simp)]
        exact State.readResp_lands s ((s.dropInbox port).noteAnswers x.pkt [x.pkt.reqId] (b2n x.ce)) x d
          fun t => State.cmd?_noteAnswers _ _ _ (s.dropInbox port) t
  · rintro rfl hs hl
    exact State.answerNak_retry s r d hd hs hl
  · dsimp only
    rw [State.answerNak_dataRead s r code d t off hd hk h1 h7, State.nakStatus_eq]

end Sys2Proof.Machine
end

section
/-!
PROOFS. Bud: sessions, queue pairs and the quiet rule (spec/03, spec/02).
-/

namespace Sys2Proof.Machine

open Sys2Proof

/-! ### What raising an event keeps of the hosts' side -/

/-- From `s` to `t` no queue pair changed, no command appeared where there was none, and of a session only the event pages named. -/
structure KeepsHosts (s t : State) : Prop where
  qps : t.bud.qps = s.bud.qps
  cmds : s.bud.cmds = [] → t.bud.cmds = []
  sess : ∀ i x, s.sess? i = some x → ∃ l, t.sess? i = some { x with namedPages := l }

theorem KeepsHosts.refl (s : State) : KeepsHosts s s := ⟨rfl, id, fun _ x h => ⟨x.namedPages, h⟩⟩

theorem KeepsHosts.trans {a b c : State} (h : KeepsHosts a b) (k : KeepsHosts b c) : KeepsHosts a c := by
  refine ⟨k.qps.trans h.qps, fun e => k.cmds (h.cmds e), fun i x e => ?_⟩
  obtain ⟨l, hl⟩ := h.sess i x e
  obtain ⟨l', hl'⟩ := k.sess i _ hl
  exact ⟨l', hl'⟩

/-- What touches neither the sessions nor the queue pairs nor the commands. -/
theorem KeepsHosts.of_eq {s t : State} (hq : t.bud.qps = s.bud.qps) (hc : t.bud.cmds = s.bud.cmds) (hs : t.bud.sess = s.bud.sess) :
    KeepsHosts s t := by
  refine ⟨hq, fun e => hc.trans e, fun i x e => ⟨x.namedPages, ?_⟩⟩
  unfold State.sess? at *
  rw [hs]
  exact e

theorem keepsHosts_tryAer (sid : Nat) (s : State) : KeepsHosts s (s.tryAer sid) := by
  unfold State.tryAer
  split
  · next t l x ha hx =>
    dsimp only
    split
    · exact KeepsHosts.refl s
    · next e _ =>
      refine ⟨rfl, fun hc => ?_, fun i y hy => ?_⟩
      · dsimp only [State.modCmd, State.modSess]
        rw [hc]
        rfl
      · have hm : ∀ f : Session → Session, NMap.get? (NMap.modify s.bud.sess sid f) i = if i = sid then some (f y) else some y :=
          fun f => (NMap.get?_modify _ _ _ _).trans (by rw [show NMap.get? s.bud.sess i = some y from hy]; rfl)
        by_cases hi : i = sid
        · exact ⟨y.namedPages ++ [e.page], (hm _).trans (if_pos hi)⟩
        · exact ⟨y.namedPages, (hm _).trans (if_neg hi)⟩
  · exact KeepsHosts.refl s

theorem keepsHosts_tell (n cnt time : Nat) (d : W32) (s : State) (sid : Nat) : KeepsHosts s (State.tell n cnt time d s sid) := by
  unfold State.tell
  dsimp only
  split
  · split
    · exact KeepsHosts.of_eq rfl rfl rfl
    · exact KeepsHosts.trans (by exact KeepsHosts.of_eq rfl rfl rfl) (keepsHosts_tryAer _ _)
  · exact KeepsHosts.trans (by exact KeepsHosts.of_eq rfl rfl rfl) (keepsHosts_tryAer _ _)

theorem keepsHosts_tells (n cnt time : Nat) (d : W32) (l : List Nat) (s : State) :
    KeepsHosts s (l.foldl (State.tell n cnt time d) s) := by
  induction l generalizing s with
  | nil => exact KeepsHosts.refl s
  | cons a l ih => exact (keepsHosts_tell n cnt time d s a).trans (ih _)

theorem keepsHosts_raise (n : Nat) (d : W32) (s : State) : KeepsHosts s (s.raise n d) := by
  unfold State.raise State.deliver
  dsimp only
  split
  · exact KeepsHosts.trans (by exact KeepsHosts.of_eq rfl rfl rfl) (keepsHosts_tells _ _ _ _ _ _)
  · exact KeepsHosts.of_eq rfl rfl rfl

theorem keepsHosts_openDesc (d : Desc) (s : State) : KeepsHosts s (s.openDesc d) := by
  unfold State.openDesc
  dsimp only
  split
  · exact KeepsHosts.trans (by exact KeepsHosts.of_eq rfl rfl rfl) (keepsHosts_raise _ _ _)
  · exact KeepsHosts.of_eq rfl rfl rfl

theorem keepsHosts_request (d : Desc) (s : State) : KeepsHosts s (s.request d) := by
  unfold State.request
  split
  · exact keepsHosts_openDesc d s
  · exact KeepsHosts.of_eq rfl rfl rfl

theorem keepsHosts_writeHeader (sid st : Nat) (o : Bool) (s : State) : KeepsHosts s (s.writeHeader sid st o) := by
  unfold State.writeHeader
  split
  · exact KeepsHosts.refl s
  · exact keepsHosts_request _ s

/-! ### The session window (R59, R78, R79) -/

/-- The checks of an OPEN that passed: the count of queue pairs, and a range apart from that of every session. -/
theorem State.openCause_none (s : State) (i : Nat) (x : Session) (h : s.openCause i x = none) :
    1 ≤ x.qpCount ∧ x.qpCount ≤ 256 ∧ x.qpBase + x.qpCount ≤ 16384
      ∧ ∀ p ∈ s.bud.sess, p.2.qpBase < x.qpBase + x.qpCount → p.2.qpBase + p.2.qpCount ≤ x.qpBase := by
  unfold State.openCause at h
  split at h
  · cases h
  · split at h
    · cases h
    · split at h
      · cases h
      · next hr =>
        simp only [Bool.or_eq_true, decide_eq_true_eq, List.any_eq_true, Bool.and_eq_true, not_or, not_exists, not_and] at hr
        obtain ⟨⟨⟨h1, h256⟩, hend⟩, hsep⟩ := hr
        exact ⟨by omega, by omega, by omega, fun p hp hlt => by have := hsep p hp hlt; omega⟩

theorem State.openCause_one (s : State) (i : Nat) (x : Session) : s.openCause i x = some 1 ↔ (s.sess? i).isSome = true := by
  unfold State.openCause
  by_cases h : (s.sess? i).isSome = true
  · simp [h]
  · rw [if_neg h]
    refine ⟨fun e => ?_, fun e => absurd e h⟩
    revert e
    split
    · simp
    · split
      · simp
      · split <;> simp

/-- The first request of an empty pool has a descriptor at once. -/
theorem State.request_of_empty (s : State) (d : Desc) (h : s.xylem.descs = []) (hr : d.kind.reserved = false) :
    s.request d = { s with xylem := { s.xylem with
      descs := [(s.xylem.nextReq, d)], nextReq := (s.xylem.nextReq + 1) % 2 ^ 64 } } := by
  unfold State.request State.openDesc State.poolUsed
  rw [h, if_pos (by simp)]
  dsimp only [NMap.set]
  rw [if_neg (by simp [hr])]

/-- Nothing kept for the session, nothing dropped. -/
theorem State.dropKept_of_none (i : Nat) (s : State) (h : ∀ p ∈ s.xylem.descs, p.2.st ≠ .kept) : s.dropKept i = s := by
  unfold State.dropKept
  rw [List.filter_eq_nil_iff.2 fun p hp => by simp [h p hp]]
  rfl

/-- With no commands, queue pairs or requests about, a reset begins by marking the session and sending its header. -/
theorem State.sess?_startReset (s : State) (i : Nat) (x : Session) (cl : Option (Option Nat)) (hx : s.sess? i = some x)
    (ho : x.st = .opened) (hc : s.bud.cmds = []) (hq : s.bud.qps = []) (hd : s.xylem.descs = []) :
    (s.startReset i cl).sess? i = some { x with st := .resetting, closing := cl, namedPages := [] } := by
  have hset : (s.setSess i { x with st := .resetting, closing := cl, namedPages := [] }).sess? i
      = some { x with st := .resetting, closing := cl, namedPages := [] } := NMap.get?_set_same _ _ _
  unfold State.startReset State.writeHeader
  rw [hx]
  dsimp only
  rw [ho, if_neg (by decide), hset]
  dsimp only
  rw [State.request_of_empty (State.setSess s i _) _ hd rfl]
  dsimp only [State.setSess]
  rw [hq, hc]
  simp only [List.filter_nil, List.map_nil, List.foldl_nil]
  rw [State.dropKept_of_none i _ (by simp)]
  exact NMap.get?_set_same _ _ _

/-- Settles O48. -/
theorem sessionWindow : Obligations.SessionWindow := by
  refine ⟨fun s k hk => ?_, fun s hk => ?_, State.openCause_one, State.openCause_none, fun s x hx ho => ⟨?_, ?_⟩,
    fun s i x cl hx ho hc hq hd => ⟨_, State.sess?_startReset s i x cl hx ho hc hq hd, rfl, rfl, rfl⟩⟩
  · dsimp only [exec]
    unfold execSessionOpOpen State.openSession
    rw [act_true rfl, hk]
    rfl
  · dsimp only [exec]
    unfold execSessionOpOpen State.openSession
    rw [act_true rfl, hk]
  · exact act_true (by rw [hx]; simp [ho]) _ _
  · dsimp only [exec]
    unfold execSessionOpClose State.closeSession State.closable
    rw [act_true (by rw [hx]; simp [ho]), hx]
    dsimp only
    rw [if_neg (by simp [ho])]

/-! ### Draining, resetting, silence (R76, R78, R84) -/

theorem State.bud_until (s : State) (t : Nat) : (s.until t).bud = s.bud := by
  obtain h | h := s.until_eq t <;> rw [h]
  exact (State.advance_frame s _).2.2.1

theorem State.qp?_until (s : State) (t q : Nat) : (s.until t).qp? q = s.qp? q := by
  unfold State.qp?
  rw [State.bud_until]

theorem State.sess?_until (s : State) (t i : Nat) : (s.until t).sess? i = s.sess? i := by
  unfold State.sess?
  rw [State.bud_until]

theorem State.qp?_modQp_same {s : State} {q : Nat} {x : Qp} (h : s.qp? q = some x) (f : Qp → Qp) :
    (s.modQp q f).qp? q = some (f x) :=
  (NMap.get?_modify _ _ _ _).trans (by rw [if_pos rfl, show NMap.get? s.bud.qps q = some x from h]; rfl)

/-- A STATUS word that is sent is owed no longer; nothing else of its queue pair changes. -/
theorem State.qp?_writeStatus {s : State} {q : Nat} {x : Qp} (h : s.qp? q = some x) :
    ∃ o, (s.writeStatus q).qp? q = some { x with statusOwed := o } := by
  unfold State.writeStatus
  rw [h]
  dsimp only
  split
  · exact ⟨x.statusOwed, h⟩
  · refine ⟨false, ?_⟩
    have hq : ∀ d, ((s.modQp q fun y => { y with statusOwed := false }).request d).bud.qps
        = (s.modQp q fun y => { y with statusOwed := false }).bud.qps := fun d => (keepsHosts_request d _).qps
    exact (congrArg (NMap.get? · q) (hq _)).trans (State.qp?_modQp_same h _)

/-- The end of a disable leaves STATE 0 with CAUSE 0x07. -/
theorem State.qp?_disableDone (s : State) (q : Nat) (x : Qp) (hx : s.qp? q = some x) (hc : x.heldControl = false) :
    ∃ z, (s.disableDone q).qp? q = some z ∧ z.st = .disabled ∧ z.cause = 7 := by
  unfold State.disableDone
  rw [hx]
  dsimp only
  rw [hc, if_neg Bool.false_ne_true]
  obtain ⟨o, h⟩ := State.qp?_writeStatus (State.qp?_modQp_same ((s.qp?_until _ q).trans hx)
    fun x => { x with st := .disabled, cause := 7, heldControl := false })
  exact ⟨_, h, rfl, rfl⟩

/-- The record of a session as the end of a reset that does not close leaves it. -/
def Session.afterReset (x : Session) (now : Nat) : Session :=
  { x with dbGen := x.dbGen + 1#16, resets := x.resets + 1, fetchStopped := false, retxAt := none, closing := none
           st := .opened, kaSince := now }

/-- The end of a reset without queue pairs that does not close: the doorbell generation is bumped and the session open again. -/
theorem State.sess?_finishReset (s : State) (i : Nat) (x : Session) (hx : s.sess? i = some x) (hq : s.bud.qps = [])
    (hc : x.closing = none) :
    ∃ y, (s.finishReset i).sess? i = some y ∧ y.dbGen = x.dbGen + 1#16 ∧ y.resets = x.resets + 1 ∧ y.st = .opened := by
  unfold State.finishReset
  rw [hx]
  dsimp only
  rw [hc]
  have hqs : (s.setSess i (x.afterReset s.now)).bud.qps = [] := hq
  unfold Session.afterReset at hqs
  simp only [Option.isSome_none, Bool.false_eq_true, if_false]
  rw [hqs, List.filter_nil, List.map_nil, List.foldl_nil]
  obtain ⟨l, h⟩ := ((keepsHosts_raise (evSrc 4 21) (sessDetail i none) (s.setSess i (x.afterReset s.now))).trans
    (keepsHosts_writeHeader i 1 false _)).sess i _ (NMap.get?_set_same s.bud.sess i (x.afterReset s.now))
  exact ⟨_, h, rfl, rfl, rfl⟩

/-- Settles O47. -/
theorem sessionsDrainAndReset : Obligations.SessionsDrainAndReset := by
  refine ⟨fun s q hq hr => ?_, fun s q x _ hx _ hc => State.qp?_disableDone s q x hx hc, fun s i x hi hr hx => ?_,
    State.sess?_finishReset, fun s i x hi hx ho hk => ?_⟩
  · exact act_true (by rw [hq, hr]; rfl) _ _
  · dsimp only [exec]
    unfold execSessionResetSettle
    rw [act_true (by rw [hi, hr]; rfl), hx]
    rfl
  · dsimp only [exec]
    unfold execKeepaliveExpiry State.keepAliveOn State.keepAliveEnd
    rw [hx, act_true (by simp [hi, ho, hk]), Option.elim_some]

/-! ### The quiet rule and coalescing (R50, R68, R75) -/

/-- The slots that leave and those that stay are together those that were held. -/
theorem length_filter_out_add {α : Type} [BEq α] [LawfulBEq α] (p : α → Bool) (l : List α) :
    (l.filter p).length + (l.filter fun h => !(l.filter p).contains h).length = l.length := by
  have h : (l.filter fun h => !(l.filter p).contains h) = l.filter fun h => !p h := by
    refine List.filter_congr fun a ha => congrArg Bool.not ?_
    rw [Bool.eq_iff_iff, List.contains_iff_mem, List.mem_filter]
    exact ⟨And.right, fun hp => ⟨ha, hp⟩⟩
  rw [h]
  rw [← List.countP_eq_length_filter, ← List.countP_eq_length_filter, List.length_eq_countP_add_countP p]
  simp only [Bool.not_eq_true, Bool.decide_eq_false]

/-- Releasing slots turns held slots into credits, one for one. -/
theorem State.qp?_releaseSlots (s : State) (q : Nat) (x : Qp) (hx : s.qp? q = some x) :
    ∃ y, (s.releaseSlots q).qp? q = some y ∧ y.credits + y.heldSlots.length = x.credits + x.heldSlots.length := by
  unfold State.releaseSlots
  rw [hx]
  refine ⟨_, State.qp?_modQp_same hx _, ?_⟩
  dsimp only
  rw [Nat.add_assoc, length_filter_out_add]

/-- Settles O43. -/
theorem quietRuleEnds : Obligations.QuietRuleEnds := by
  refine ⟨fun s tag c st t hc hst hp ho hr => ?_, fun s q slot x h hx hf hh => ?_, fun s q t x hx ht => ?_,
    fun s q x hx hn hd hu => ?_, State.qp?_releaseSlots⟩
  · dsimp only [exec]
    unfold execQuietExpiry
    dsimp only
    rw [hc, Option.filter_some, if_pos (by simp [hst, hp, ho])]
    dsimp only
    rw [hr]
    exact act_true rfl _ _
  · dsimp only [exec]
    unfold execQuietExpiry
    dsimp only
    rw [hx, Option.bind_some, hf]
    exact act_true hh _ _
  · dsimp only [exec]
    unfold execQuietExpiry
    dsimp only
    rw [hx, Option.bind_some, ht]
    exact act_true rfl _ _
  · dsimp only [exec]
    unfold execNotifyCoalExpiry
    rw [hx]
    exact act_true (by simp [hn, hd, hu]) _ _

end Sys2Proof.Machine
end

section
/-!
PROOFS. The map and its journal (spec/05).
-/

namespace Sys2Proof.Machine

open Sys2Proof

/-! ### Changing one block's record (R120 to R124) -/

theorem State.map_tcPrune (nsid lba : Nat) (s : State) : (s.tcPrune nsid lba).heart.map = s.heart.map := rfl

theorem State.map_useTag (nsid lba : Nat) (s : State) : (s.useTag nsid lba).heart.map = s.heart.map := by
  unfold State.useTag
  split <;> rfl

theorem State.map_usePage (key : Nat) (s : State) : (s.usePage key).heart.map = s.heart.map := by
  unfold State.usePage
  dsimp only
  split
  · split <;> rfl
  · rfl

theorem State.map_dirtyPage (key seq : Nat) (s : State) : (s.dirtyPage key seq).heart.map = s.heart.map :=
  State.map_usePage key s

theorem State.map_dropPage (key : Nat) (s : State) : (s.dropPage key).heart.map = s.heart.map := rfl

/-- A change of a block's record changes the map at that block only; the pages and the translation cache follow it. -/
theorem State.map_setLoc (nsid lba seq : Nat) (l : Loc) (s : State) :
    (s.setLoc nsid lba seq l).heart.map = putLoc s.heart.map (mapKey nsid lba) l := by
  unfold State.setLoc
  dsimp only
  simp only [apply_ite (fun u : State => u.heart.map), State.map_dirtyPage, State.map_dropPage, State.map_useTag,
    State.map_tcPrune, ite_self]

/-- A run of one block is changed where `keep` allows it. -/
theorem State.setRun_one (nsid lba seq : Nat) (keep : Nat → Loc → Bool) (f : Nat → Loc) (s : State) :
    s.setRun nsid lba 1 seq keep f = if keep 0 (s.loc nsid lba) then s.setLoc nsid lba seq (f 0) else s := rfl

theorem State.loc_setLoc_data (nsid lba seq a o : Nat) (s : State) : (s.setLoc nsid lba seq (.data a o)).loc nsid lba = .data a o := by
  unfold State.loc
  rw [State.map_setLoc]
  exact NMap.getD_set_same _ _ _ _

theorem State.get?_map_setLoc_data (nsid lba seq a o k : Nat) (s : State) (hk : k ≠ mapKey nsid lba) :
    NMap.get? (s.setLoc nsid lba seq (.data a o)).heart.map k = NMap.get? s.heart.map k := by
  rw [State.map_setLoc]
  exact NMap.get?_set_other _ _ _ _ hk

/-- A commit of one block moves it where it still lies staged as the commit says. -/
theorem State.applyCommit_one (s : State) (nsid seq : Nat) (m : MovePiece) (h : m.nlb = 1) :
    s.applyCommit nsid seq [m]
      = if s.loc nsid m.slba = .staged m.fromA m.fromB then s.setLoc nsid m.slba seq (.data m.seg m.off) else s := by
  unfold State.applyCommit
  rw [List.foldl_cons, List.foldl_nil, h, State.setRun_one]
  simp only [beq_iff_eq]
  rfl

theorem State.applyRelocate_one (s : State) (nsid seq : Nat) (m : MovePiece) (h : m.nlb = 1) :
    s.applyRelocate nsid seq [m]
      = if s.loc nsid m.slba = .data m.fromA m.fromB then s.setLoc nsid m.slba seq (.data m.seg m.off) else s := by
  unfold State.applyRelocate
  rw [List.foldl_cons, List.foldl_nil, h, State.setRun_one]
  simp only [beq_iff_eq]
  rfl

/-- A namespace that is dropped is gone from the map, and its NSID is kept aside. -/
theorem State.dropNamespace_spec (s : State) (nsid seq : Nat) : (s.dropNamespace nsid seq).heart.ns = NMap.erase s.heart.ns nsid
    ∧ (nsid, seq) ∈ (s.dropNamespace nsid seq).heart.gone
    ∧ ∀ p ∈ (s.dropNamespace nsid seq).heart.map, p.1 / 2 ^ 48 ≠ nsid := by
  refine ⟨rfl, List.mem_append_right _ (List.mem_singleton.2 rfl), fun p hp => ?_⟩
  exact bne_iff_ne.1 (List.mem_filter.1 hp).2

/-- Settles O58. -/
theorem journalAndMap : Obligations.JournalAndMap := by
  refine ⟨fun s r hr hm hf => ?_, fun s r k hr hm => ?_, fun s nsid seq m h1 hl => ?_, fun s nsid seq m h1 hl => ?_,
    fun s nsid seq k m h1 hk => ?_, fun s nsid seq m h1 hl => ?_, fun s hc hon => ?_, fun s page hd hw => ?_,
    State.dropNamespace_spec⟩
  · dsimp only [exec]
    unfold execJournalRecordDurable
    rw [hr]
    dsimp only
    rw [hm]
    exact act_true hf _ _
  · obtain ⟨t, ht⟩ := List.head?_eq_some_iff.1 hm
    dsimp only [exec]
    unfold execJournalRecordDurable
    rw [hr]
    dsimp only
    rw [ht]
    exact act_true rfl _ _
  · rw [State.applyCommit_one s nsid seq m h1, if_pos hl, State.loc_setLoc_data]
  · rw [State.applyCommit_one s nsid seq m h1, if_neg hl]
  · rw [State.applyCommit_one s nsid seq m h1]
    split
    · exact State.get?_map_setLoc_data _ _ _ _ _ _ _ hk
    · rfl
  · rw [State.applyRelocate_one s nsid seq m h1, if_pos hl, State.loc_setLoc_data]
  · exact act_true (by rw [hc, hon]; rfl) _ _
  · refine act_true ?_ _ _
    rw [hw, Bool.and_true, Bool.or_eq_true, Bool.and_eq_true]
    exact hd

end Sys2Proof.Machine
end

section
/-!
PROOFS. Stripes, segments and members (spec/06, spec/07).
-/

namespace Sys2Proof.Machine

open Sys2Proof

/-! ### Sums of blocks (R191) -/

theorem length_xorB {a b : List Byte} (h : a.length = b.length) : (xorB a b).length = b.length := by
  unfold xorB
  rw [List.length_zipWith, h, Nat.min_self]

theorem xorB_assoc (a b c : List Byte) : xorB (xorB a b) c = xorB a (xorB b c) := by
  unfold xorB
  refine List.ext_getElem (by simp [Nat.min_assoc]) fun i _ _ => ?_
  simp [BitVec.xor_assoc]

theorem xorB_self_cancel {a b : List Byte} (h : a.length = b.length) : xorB (xorB a b) b = a := by
  unfold xorB
  refine List.ext_getElem (by simp [h]) fun i _ _ => ?_
  rw [List.getElem_zipWith, List.getElem_zipWith, BitVec.xor_assoc, BitVec.xor_self, BitVec.xor_zero]

theorem zeroB_xorB {a : List Byte} (h : a.length = blockLen) : xorB zeroB a = a := by
  unfold xorB zeroB
  refine List.ext_getElem (by simp [h]) fun i _ _ => ?_
  simp

theorem xorB_zeroB {a : List Byte} (h : a.length = blockLen) : xorB a zeroB = a := by
  unfold xorB zeroB
  refine List.ext_getElem (by simp [h]) fun i _ _ => ?_
  simp

theorem length_zeroB : zeroB.length = blockLen := List.length_replicate

/-- Blocks summed onto `a` are `a` plus their sum, and of a block's length. -/
theorem foldl_xorB (l : List (Nat × List Byte)) (hl : ∀ p ∈ l, p.2.length = blockLen) (a : List Byte) (ha : a.length = blockLen) :
    l.foldl (fun a p => xorB a p.2) a = xorB a (sumP l) ∧ (sumP l).length = blockLen := by
  induction l generalizing a with
  | nil => exact ⟨(xorB_zeroB ha).symm, length_zeroB⟩
  | cons p l ih =>
    have hp : p.2.length = blockLen := hl p (List.mem_cons_self ..)
    have hl' : ∀ q ∈ l, q.2.length = blockLen := fun q hq => hl q (List.mem_cons_of_mem _ hq)
    have hsum : sumP (p :: l) = xorB p.2 (sumP l) := by
      unfold sumP
      rw [List.foldl_cons, zeroB_xorB hp]
      exact (ih hl' p.2 hp).1
    obtain ⟨hfold, hlen⟩ := ih hl' (xorB a p.2) ((length_xorB (ha.trans hp.symm)).trans hp)
    refine ⟨?_, ?_⟩
    · rw [List.foldl_cons, hfold, hsum, xorB_assoc]
    · rw [hsum, length_xorB (hp.trans hlen.symm), hlen]

/-- A missing data block is the sum of P and the other data blocks (R191). -/
theorem viaP_sumP (l : List (Nat × List Byte)) (d : Nat) (b : List Byte) (hb : b.length = blockLen)
    (hl : ∀ p ∈ l, p.2.length = blockLen) : viaP l (sumP ((d, b) :: l)) = b := by
  obtain ⟨hfold, hlen⟩ := foldl_xorB l hl b hb
  have hsum : sumP ((d, b) :: l) = xorB b (sumP l) := by
    unfold sumP
    rw [List.foldl_cons, zeroB_xorB hb]
    exact hfold
  unfold viaP
  rw [hsum, xorB_self_cancel (hb.trans hlen.symm)]

/-! ### The Pruner's victim (R174) -/

/-- A fold that keeps one of what it has seen yields an element of the list. -/
theorem mem_of_foldl_pick {α : Type} (f : Option α → α → Option α) (hf : ∀ o a, f o a = o ∨ f o a = some a) (l : List α)
    (o : Option α) (x : α) (h : l.foldl f o = some x) : o = some x ∨ x ∈ l := by
  induction l generalizing o with
  | nil => exact .inl h
  | cons a l ih =>
    obtain e | hm := ih _ h
    · obtain e' | e' := hf o a
      · exact .inl (e'.symm.trans e)
      · rw [e'] at e
        exact .inr (List.mem_cons.2 (.inl (Option.some.inj e).symm))
    · exact .inr (List.mem_cons_of_mem _ hm)

theorem State.pruneVictim_mem (s : State) (gi u : Nat) (g : Grove) (h : s.pruneVictim gi g = some u) :
    s.isVictim gi g u = true ∧ u ∈ g.usedSets := by
  have hm : u ∈ g.usedSets.filter (s.isVictim gi g) := by
    refine (mem_of_foldl_pick _ (fun o a => ?_) _ _ _ h).resolve_left (by simp)
    cases o with
    | none => exact .inr rfl
    | some b =>
      dsimp only
      split
      · exact .inr rfl
      · exact .inl rfl
  exact (List.mem_filter.1 hm).symm

/-! ### The commands -/

theorem exec_driveCommandComplete (s : State) (d id : Nat) (c : DriveCmd) (r : DriveResult) (hd : d < 24)
    (hc : s.cmdAt d id = some c) (hr : (s.drive d).resetting = false) (hf : s.flows (driveDie d) (s.endDie c) = true) :
    exec (.driveCommandComplete d id r) s = .next ((((s.endCmd d c (c.outcome r)).checkOff d).driven).done s) := by
  dsimp only [exec]
  unfold execDriveCommandComplete
  rw [hc]
  refine act_true ?_ _ _
  rw [hr, hf, Bool.not_false, Bool.and_true, Bool.and_true]
  exact decide_eq_true hd

/-- Settles O60. -/
theorem stripesSegmentsAndMembers : Obligations.StripesSegmentsAndMembers := by
  refine ⟨viaP_sumP, fun s g k hg ho => ?_, fun s g k x hg hx => ?_, fun s d id c r hd hc hr hf hab => ?_,
    fun s d id c hd hc hr hf ha => ?_, fun s gi u g hg hgr ho hu => ?_, State.pruneVictim_mem, fun s g a hg hf => ?_,
    fun s g a hf => ?_, fun s gi slot g m hg hgr hm hst => ?_, fun s gi a g hg hgr hs hj hn hp ho => ?_,
    fun s gi n l hg hn => ?_, fun s gi n g r hb hgr ho hr hn hx => ?_⟩
  · exact act_true (Bool.and_eq_true_iff.2 ⟨decide_eq_true hg, ho⟩) _ _
  · dsimp only [exec]
    unfold execStripeIdleClose
    rw [hx]
    exact act_true (decide_eq_true hg) _ _
  · have h : c.outcome r = r := by
      cases r with
      | aborted => exact if_pos (hab rfl)
      | success l => rfl
      | error a b => rfl
    rw [exec_driveCommandComplete s d id c r hd hc hr hf, h]
  · have h : c.outcome .aborted = .error 0 7 := by
      unfold DriveCmd.outcome
      rw [ha]
      rfl
    rw [exec_driveCommandComplete s d id c .aborted hd hc hr hf, h]
  · refine act_true ?_ _ _
    rw [hgr, Option.any_some, ho, hu, Bool.and_eq_true]
    exact ⟨decide_eq_true hg, rfl⟩
  · exact act_true (Bool.and_eq_true_iff.2 ⟨decide_eq_true hg, hf⟩) _ _
  · unfold State.canFree at hf
    simp only [Bool.and_eq_true, beq_iff_eq, Bool.not_eq_true'] at hf
    obtain ⟨⟨⟨⟨-, hl⟩, -⟩, -⟩, hp⟩ := hf
    exact ⟨hl, hp⟩
  · refine act_true ?_ _ _
    rw [hgr, Option.any_some, hm, Option.any_some, Bool.and_eq_true]
    exact ⟨decide_eq_true hg, bne_iff_ne.2 hst⟩
  · have h : (s.grove? gi).bind Grove.rebuiltSeg = some a := by
      rw [hgr, Option.bind_some]
      unfold Grove.rebuiltSeg
      rw [hj, hp, ho, if_pos (by simpa using hn), hs]
    dsimp only [exec]
    unfold execRebuildSegmentDone
    rw [h]
    exact act_true (decide_eq_true hg) _ _
  · dsimp only [exec]
    unfold execResyncStripe
    rw [hn]
    exact act_true (decide_eq_true hg) _ _
  · obtain ⟨t, ht⟩ := List.head?_eq_some_iff.1 hn
    have hnone : (g.rebuilds.any fun x => x.bitmap.contains (n / 64)) = false :=
      List.any_eq_false.2 fun x hm => by rw [hx x hm]; exact Bool.false_ne_true
    unfold State.resyncAt
    rw [if_neg (by rw [hb]; decide), hgr, Option.bind_some, ho, if_neg Bool.false_ne_true, hr, Option.bind_some, ht,
      List.find?_cons_of_pos (by rw [hnone]; rfl)]

end Sys2Proof.Machine
end

section
/-!
PROOFS. Seed: reset, start-up and recovery (spec/16).
-/

namespace Sys2Proof.Machine

open Sys2Proof

/-! ### Reset and release (R345, R346) -/

/-- Settles O7: what a reset leaves waits for no event request, so that the command's end adds nothing. -/
theorem resetAssertResetsEveryBlock : Obligations.ResetAssertResetsEveryBlock := by
  intro s h
  dsimp only [exec]
  unfold execResetAssert
  rw [actR_true (by simpa using h), endOfACommandTouchesHostSideOnly.2 _ _ _ rfl]
  rfl

/-- RING_PT and REC_FORCE in the straps (Table 16.2). -/
theorem strapWord_getLsbD (m : BitVec 4) (pt r : Bool) :
    (strapWord m pt r).getLsbD 4 = pt ∧ (strapWord m pt r).getLsbD 5 = r := by
  revert m pt r
  decide

theorem State.recover_frame (k : Nat) (s : State) :
    s.recover k = { s with
      seed := { s.seed with boot := .recovery, cause := k, since := s.now }, alertFixed := setNth s.alertFixed 1 true
      evt := (s.recover k).evt, bud := (s.recover k).bud, aerDue := (s.recover k).aerDue } := by
  unfold State.recover State.raise0
  exact State.raise_frame _ _ _

theorem State.pend_recover (k : Nat) (s : State) : ((s.recover k).src (evSrc 0 12)).pend = true :=
  State.pend_raise0_same 0 12 _

/-- Where the straps ask for recovery it is entered with cause 2. -/
theorem State.begin_eq (m : BitVec 4) (pt r : Bool) (s : State) :
    s.begin (strapWord m pt r)
      = let u : State := { s with
          seed := { s.seed with boot := .clocks, since := s.now, straps := strapWord m pt r }
          ring := if pt then { s.ring with byp := s.ring.byp.orElse fun _ => some s.now } else {}
          alertFixed := setNth s.alertFixed 1 false }
        if r then u.recover 2 else u := by
  obtain ⟨hp, hr⟩ := strapWord_getLsbD m pt r
  unfold State.begin
  rw [hp, hr]

theorem State.begin_now (x : BitVec 6) (s : State) : (s.begin x).now = s.now := by
  unfold State.begin
  dsimp only
  split
  · rw [State.recover_frame]
  · rfl

theorem State.begin_mmac (x : BitVec 6) (s : State) : (s.begin x).mmac = s.mmac := by
  unfold State.begin
  dsimp only
  split
  · rw [State.recover_frame]
  · rfl

/-- Settles O8. -/
theorem releaseAndRestartsSampleStraps : Obligations.ReleaseAndRestartsSampleStraps := by
  refine ⟨fun s m pt r hb hf => ?_, fun s m pt r ha => ?_, fun s m pt r hm => ?_, fun s m pt => ?_, fun s m pt => ?_⟩
  · dsimp only [exec]
    unfold execResetRelease State.resetRise
    rw [act_true (by simp [hb, hf])]
    dsimp only
    rw [State.begin_now, State.begin_mmac]
  · exact actR_true ha _ _ _
  · exact actR_true hm _ _ _
  · rw [State.begin_eq]
    rfl
  · dsimp only
    rw [State.begin_eq]
    dsimp only
    rw [if_pos rfl]
    refine ⟨?_, ?_, ?_, State.pend_recover 2 _⟩ <;> rw [State.recover_frame]

/-! ### The phases of start-up (R347 to R356) -/

theorem State.reaches_congr {s t : State} (h : t.links = s.links) (k : Nat) : t.reaches k = s.reaches k := by
  have hl : ∀ l, t.link l = s.link l := fun l => by unfold State.link; rw [h]
  have hw : t.wayUp = s.wayUp := by
    funext w
    unfold State.wayUp
    simp only [hl]
  have hb : ∀ a b, t.boughRoute a b = s.boughRoute a b := fun a b => by unfold State.boughRoute; rw [hw]
  unfold State.reaches State.dieRoute
  simp only [hl, hb]

/-- The events that the links' training raises. -/
def State.noteTrained (s : State) : State :=
  (List.range 12).foldl (fun s l =>
    if s.link l == 3#2 then s.raise0 3 (16 + l) else if s.link l == 0#2 then s.raise0 3 (32 + l) else s) s

theorem still_noteTrained (s : State) : Still s s.noteTrained :=
  Still.foldl _ (fun s _ => Still.ite _ (still_raise0 _ _ s) (Still.ite _ (still_raise0 _ _ s) (Still.refl s))) _ s

/-- The state that the self-test leaves before its verdict: links as trained, BIST_DONE and BIST_PASS. -/
def State.tested (s : State) (pass : List Bool) (links : List (BitVec 2)) : State :=
  { s with links := links.map trainedLink, bistDone := 0x3F#6
           bistPass := BitVec.ofNat 6 ((pass.zipIdx.map fun p => b2n p.1 * 2 ^ p.2).sum) }

theorem State.bistPass_tested_good (s : State) (links : List (BitVec 2)) :
    (s.tested (List.replicate 6 true) links).bistPass = 0x3F#6 := by
  unfold State.tested
  rfl

/-- The verdict of the self-test (R348). -/
theorem State.selfTested_eq (s : State) (pass : List Bool) (links : List (BitVec 2)) :
    s.selfTested pass links
      = if !(nth pass 0 false) || !(nth pass 5 false) then
          { s.tested pass links with seed := { s.seed with boot := .heldDead, since := s.now }
                                     alertFixed := setNth s.alertFixed 1 true }
        else
          let u := (s.tested pass links).noteTrained
          if pass.any (fun p => !p) || (List.range 4).any (fun k => !u.reaches k) then u.recover 3
          else { u with seed := { u.seed with boot := .image, since := u.now } } := by
  unfold State.selfTested State.noteTrained State.tested
  dsimp only

theorem exec_selftestDone (s : State) (pass : List Bool) (links : List (BitVec 2)) (hb : s.seed.boot = .selftest)
    (hp : pass.length = 6) (hl : links.length = 12) :
    exec (.selftestDone pass links) s = .next ((s.selfTested pass links).done s) := by
  dsimp only [exec]
  unfold execSelftestDone
  have hw : (Instr.selftestDone pass links).wf = true :=
    Bool.and_eq_true_iff.2 ⟨decide_eq_true hp, decide_eq_true hl⟩
  rw [act_true (by rw [hw, hb]; rfl)]

theorem Still.done (t s : State) : Still { t with regs := s.regs, pending := s.pending } (t.done s) := Still.endWith t s s.regs

/-- A failed Trunk or Root die holds the part in reset. -/
theorem State.selfTested_dead (s : State) (pass : List Bool) (links : List (BitVec 2))
    (h : (pass.getD 0 false && pass.getD 5 false) = false) :
    s.selfTested pass links = { s.tested pass links with seed := { s.seed with boot := .heldDead, since := s.now }
                                                         alertFixed := setNth s.alertFixed 1 true } := by
  rw [State.selfTested_eq, if_pos]
  rw [← Bool.not_and]
  exact congrArg Bool.not h

/-- Any other failed die puts the part into recovery with cause 3. -/
theorem State.selfTested_bad (s : State) (pass : List Bool) (links : List (BitVec 2))
    (h : (pass.getD 0 false && pass.getD 5 false) = true) (hm : false ∈ pass) :
    s.selfTested pass links = (s.tested pass links).noteTrained.recover 3 := by
  have hany : pass.any (fun p => !p) = true := List.any_eq_true.2 ⟨false, hm, rfl⟩
  rw [State.selfTested_eq, if_neg]
  · dsimp only
    rw [hany, Bool.true_or, if_pos rfl]
  · rw [← Bool.not_and, show (nth pass 0 false && nth pass 5 false) = true from h]
    decide

/-- With every die good and every Bough reachable the Image phase begins. -/
theorem State.selfTested_good (s : State) (links : List (BitVec 2))
    (h : ∀ k < 4, ({ s with links := links.map trainedLink } : State).reaches k = true) :
    s.selfTested (List.replicate 6 true) links
      = let u := (s.tested (List.replicate 6 true) links).noteTrained
        { u with seed := { u.seed with boot := .image, since := u.now } } := by
  have hr : ((List.range 4).any fun k => !(s.tested (List.replicate 6 true) links).noteTrained.reaches k) = false := by
    refine List.any_eq_false.2 fun k hk => ?_
    rw [State.reaches_congr (t := (s.tested (List.replicate 6 true) links).noteTrained)
      (s := { s with links := links.map trainedLink }) (still_noteTrained (s.tested _ links)).links, h k (List.mem_range.1 hk)]
    decide
  rw [State.selfTested_eq, if_neg (by decide)]
  dsimp only
  rw [hr]
  rfl

theorem State.media_until (s : State) (t : Nat) : (s.until t).media = s.media := by
  obtain h | h := s.until_eq t <;> rw [h]
  rfl

/-- The directory and the slots are read from the media. -/
theorem State.dir_congr {s t : State} (h : t.media = s.media) : t.dir = s.dir := by
  have hc : ∀ k, t.dirCopy k = s.dirCopy k := fun k => by unfold State.dirCopy State.flashBytes; rw [h]
  unfold State.dir
  rw [hc, hc]

theorem State.slotImage_congr {s t : State} (h : t.media = s.media) (k : Nat) : t.slotImage k = s.slotImage k := by
  have hf : ∀ a n, t.flashBytes a n = s.flashBytes a n := fun a n => by unfold State.flashBytes; rw [h]
  unfold State.slotImage
  simp only [hf, h]

/-- What the Image phase makes of the state `u` after its wait: the slots of `s` decide. -/
def State.imagePhase (s u : State) : State :=
  if s.media.imageKey.isNone then u.recover 4
  else match s.dir with
    | none => u.recover 1
    | some (_, d) =>
      match s.slotImage d.next, s.slotImage (1 - d.next) with
      | some img, _ => u.startFrom d.next false img
      | none, some img => u.startFrom (1 - d.next) true img
      | none, none => u.recover 1

/-- The definition is unfolded as a function and the state after the wait named before anything is simplified: the kernel would
evaluate the wait of a million nanoseconds. -/
theorem State.checkImage_eq (s u : State) (hu : u = s.until (s.sap.pwrfailHighAt + 1000000)) : s.checkImage = s.imagePhase u := by
  suffices h : ∀ f, f = State.checkImage → f s = s.imagePhase u from h State.checkImage rfl
  intro f hf
  delta State.checkImage at hf
  subst hf
  dsimp -zeta only
  rw [← hu]
  have hm : u.media = s.media := hu ▸ s.media_until _
  dsimp only
  rw [hm, State.dir_congr hm]
  unfold State.imagePhase
  by_cases hk : s.media.imageKey.isNone = true
  · rw [if_pos hk, if_pos hk]
  · rw [if_neg hk, if_neg hk]
    cases s.dir with
    | none => rfl
    | some p =>
      cases h1 : s.slotImage p.2.next <;> cases h2 : s.slotImage (1 - p.2.next) <;>
        simp only [State.slotImage_congr hm, h1, h2]

theorem State.seed_until (s : State) (t : Nat) : (s.until t).seed = s.seed := by
  obtain h | h := s.until_eq t <;> rw [h]
  rfl

/-- The end of recovery's own entry: the phase and its cause stand, whatever the end of the command adds. -/
theorem State.seed_recover_endWith (k : Nat) (u s : State) (r : Regs) :
    ((u.recover k).endWith r s).seed.boot = .recovery ∧ ((u.recover k).endWith r s).seed.cause = k := by
  rw [(Still.endWith _ s r).seed, State.recover_frame]
  exact ⟨rfl, rfl⟩

/-- Phases up to Base. -/
theorem exec_imageChecked (s u : State) (hb : s.seed.boot = .image) (hp : s.sap.pwrfailLow = false)
    (hu : u = s.until (s.sap.pwrfailHighAt + 1000000)) :
    exec .imageChecked s = .next ((s.imagePhase u).endWith (s.imagePhase u).regs s) := by
  dsimp only [exec]
  unfold execImageChecked
  rw [State.checkImage_eq s u hu]
  exact actR_true (by rw [hb, hp]; rfl) _ _ _

/-- The Image phase with a key in its store. -/
theorem State.imagePhase_of_key (s u : State) (hk : s.media.imageKey ≠ none) :
    s.imagePhase u = match s.dir with
      | none => u.recover 1
      | some (_, d) =>
        match s.slotImage d.next, s.slotImage (1 - d.next) with
        | some img, _ => u.startFrom d.next false img
        | none, some img => u.startFrom (1 - d.next) true img
        | none, none => u.recover 1 := by
  unfold State.imagePhase
  rw [if_neg (by simpa using hk)]

theorem State.startDone_eq (s : State) (h : s.goSeq.seed.seq = []) :
    s.startDone = State.raise0 0 8
      (let v := if s.goSeq.on 0x10000000 then s.goSeq.until (s.goSeq.xylem.enabledAt + s.goSeq.mpl) else s.goSeq
       { v with seed := { v.seed with boot := .running, since := v.now } }) := by
  unfold State.startDone
  dsimp only
  rw [h, if_neg (by decide)]

/-- Settles O9. -/
theorem startUpPhases : Obligations.StartUpPhases := by
  refine ⟨⟨fun s hb => ?_, fun s pass links hb hp hl hd => ?_, fun s pass links hb hp hl hr => ?_,
      fun s pass links hb hp hl hd hm => ?_, fun s hb hp hk => ?_, fun s hb hp hk => ?_⟩,
    fun s hb hp => ?_, fun s hb => ?_, fun s a b hb hs => ?_, fun s hb hs hw => ?_, fun s hb => ?_, fun s hb hq => ?_,
    fun s hb hq => ?_⟩
  · exact act_true (by rw [hb]; rfl) _ _
  · refine ⟨_, exec_selftestDone s pass links hb hp hl, ?_⟩
    rw [State.selfTested_dead s pass links hd]
    have h := Still.done { s.tested pass links with seed := { s.seed with boot := .heldDead, since := s.now }
                                                    alertFixed := setNth s.alertFixed 1 true } s
    exact ⟨h.seed, h.alertFixed, h.links⟩
  · refine ⟨_, exec_selftestDone s pass links hb (by rw [hp]; rfl) hl, ?_⟩
    subst hp
    rw [State.selfTested_good s links hr]
    have hn := still_noteTrained (s.tested (List.replicate 6 true) links)
    generalize (s.tested (List.replicate 6 true) links).noteTrained = u at hn
    have h := Still.done { u with seed := { u.seed with boot := .image, since := u.now } } s
    refine ⟨h.seed.trans ?_, h.links.trans hn.links, h.bistDone.trans hn.bistDone, (h.bistPass.trans hn.bistPass).trans ?_⟩
    · dsimp only
      rw [hn.seed, hn.now]
      rfl
    · exact State.bistPass_tested_good s links
  · refine ⟨_, exec_selftestDone s pass links hb hp hl, ?_⟩
    rw [State.selfTested_bad s pass links hd hm]
    exact State.seed_recover_endWith 3 _ s _
  · refine ⟨_, exec_imageChecked s _ hb hp rfl, ?_⟩
    unfold State.imagePhase
    rw [if_pos (by rw [hk]; rfl)]
    exact State.seed_recover_endWith 4 _ s _
  · intro u t
    have ht : s.imagePhase u = t := by
      rewrite [State.imagePhase_of_key s u hk]
      clear_value u
      unfold t
      cases s.dir with
      | none => rfl
      | some p =>
        cases h1 : s.slotImage p.2.next <;> cases h2 : s.slotImage (1 - p.2.next) <;> simp only [h1, h2]
    rw [exec_imageChecked s u hb hp rfl, ht]
  · dsimp only [exec]
    unfold execDramTrained
    dsimp only
    rw [hp, if_pos (show (true && true) = true from rfl)]
    exact actR_true (by rw [hb]; rfl) _ _ _
  · unfold Runs
    dsimp only [exec]
    unfold execDramTrained
    refine ⟨_, actR_true (by rw [hb]; rfl) _ _ _, ?_⟩
    rw [if_neg (by simp)]
    obtain ⟨h1, h2⟩ := State.seed_recover_endWith 5 s s (s.recover 5).regs
    exact ⟨h1, h2, by rw [State.endWith_regs, State.recover_frame]⟩
  · refine actR_true ?_ _ _ _
    rw [hb]
    simpa using hs
  · dsimp only [exec]
    unfold execDriveWaitExpiry State.driveWait
    rw [act_true (by rw [hb, hs, hw]; rfl)]
    dsimp only
    rw [State.seed_until]
  · exact actR_true (by rw [hb]; rfl) _ _ _
  · refine actR_true ?_ _ _ _
    rw [hb]
    cases h : s.seed.seq with
    | nil => exact absurd h hq
    | cons a l => rfl
  · dsimp only [exec]
    unfold execStartDone
    rw [actR_true (by rw [hb]; rfl), State.startDone_eq s hq, (still_raise0 0 8 _).regs]

/-! ### Recovery operations (R358) -/

theorem State.alive_of_inRecovery {s : State} (h : s.inRecovery = true) : s.alive = true := by
  unfold State.alive
  rw [show s.seed.boot = .recovery from eq_of_beq h]
  rfl

/-- An operation that is not refused runs. -/
theorem State.doRec_runs (s : State) (op : Nat) (st : BitVec 6) (h6 : (op == 6) = false) (hr : s.inRecovery = true)
    (h : s.recRefused op = false) :
    s.doRec op st = .next (State.done { s with seed := { s.seed with recBusy := some (op, s.recSlot, s.recPage) } } s) := by
  unfold State.doRec State.recOp
  rw [h6, h, Bool.false_and, if_neg (by decide), if_neg (by decide), if_neg (by decide)]
  exact actR_true (State.alive_of_inRecovery hr) _ _ _

/-- An operation that is refused leaves RESULT 1. -/
theorem State.doRec_refused (s : State) (op : Nat) (st : BitVec 6) (h6 : (op == 6) = false) (ha : s.alive = true)
    (h : s.recRefused op = true) :
    s.doRec op st = .next (State.done { s with seed := { s.seed with recResult := 1 } } s) := by
  unfold State.doRec State.recOp
  rw [h6, h, Bool.false_and, if_neg (by decide), if_pos rfl]
  exact actR_true ha _ _ _

/-- RESTART restarts at once. -/
theorem State.doRec_restart (s : State) (st : BitVec 6) (hr : s.inRecovery = true) (h : s.recRefused 6 = false) :
    s.doRec 6 st = .next ((s.restart st).endWith {} s) := by
  unfold State.doRec State.recOp
  rw [h, if_pos (by decide), if_neg (by decide), if_pos (by decide)]
  exact actR_true (State.alive_of_inRecovery hr) _ _ _

/-- In recovery, with no operation running, the operation's own check decides. -/
theorem State.recRefused_eq {s : State} (hr : s.inRecovery = true) (hb : s.seed.recBusy = none) (op : Nat) :
    s.recRefused op = match op with
      | 1 => decide (s.recPage < 16)
      | 2 => decide (s.recPage < 16)
      | 3 => false
      | 4 => !s.seed.checked.contains s.recSlot
      | 5 => s.media.imageKey.isSome
      | 6 => false
      | _ => true := by
  unfold State.recRefused
  rw [hr, hb]
  rfl

theorem State.recRefused_outside {s : State} (hr : s.inRecovery = false) (op : Nat) : s.recRefused op = true := by
  unfold State.recRefused
  rw [hr]
  rfl

/-- The end of the operation that runs. -/
theorem exec_flashOpDone (s : State) (ok : Bool) {op slot page : Nat} (h : s.seed.recBusy = some (op, slot, page)) :
    exec (.flashOpDone ok) s = .next ((s.recDone op slot page ok).done s) := by
  dsimp only [exec]
  unfold execFlashOpDone
  rw [h]
  exact act_true rfl _ _

/-- The end of an operation that fails. -/
theorem State.seed_recDone_failed (s : State) (op slot page : Nat) :
    (s.recDone op slot page false).seed.recBusy = none ∧ (s.recDone op slot page false).seed.recResult = 2 := ⟨rfl, rfl⟩

/-! What the four operations that change the media do when they succeed. -/

theorem State.recEffect_erase (s : State) (slot page : Nat) :
    s.recEffect 1 slot page true = s.program (page * 4096 / 65536 * 65536) (List.replicate 65536 0xFF#8) := by
  simp only [State.recEffect, if_true]

theorem State.recEffect_setNext (s : State) (slot page : Nat) :
    s.recEffect 4 slot page true = s.writeDir slot (s.dir.elim 0 (·.2.saveCtr)) := by
  simp only [State.recEffect, if_true]

theorem State.seed_writeDir (next saveCtr : Nat) (s : State) : (s.writeDir next saveCtr).seed = s.seed := by
  unfold State.writeDir
  cases s.dir <;> rfl

theorem State.recEffect_provision (s : State) (slot page : Nat) :
    s.recEffect 5 slot page true
      = { s with media := { s.media with imageKey := some (BitVec.ofNat 256 (beNat (s.recBuffer.take 32))) } } := by
  simp only [State.recEffect, if_true]

theorem State.recDone_good (s : State) (op slot page : Nat) (h : (op != 3) = true) :
    s.recDone op slot page true
      = { s.recEffect op slot page true with
          seed := { (s.recEffect op slot page true).seed with recBusy := none, recResult := 0 } } := by
  unfold State.recDone
  rw [h]
  rfl

/-- The end of an operation that puts bytes into the flash. The bytes are named: as they stand, 65536 of them, they would be
evaluated. -/
theorem exec_flashOpDone_program (s : State) {op slot page a : Nat} {l : List Byte}
    (h : s.seed.recBusy = some (op, slot, page)) (h3 : (op != 3) = true)
    (he : s.recEffect op slot page true = s.program a l) :
    exec (.flashOpDone true) s = .next (State.done { s with
      media := { s.media with flash := putFlash s.media.flash a l }
      seed := { s.seed with recBusy := none, recResult := 0 } } s) := by
  rw [exec_flashOpDone s true h, State.recDone_good s op slot page h3, he]
  rfl

/-- A CHECK's result is whether the slot checks. -/
theorem exec_flashOpDone_check (s : State) {slot page : Nat} (h : s.seed.recBusy = some (3, slot, page)) :
    exec (.flashOpDone true) s = .next (State.done { s with
      seed := { s.seed with
        recBusy := none
        recResult := if (s.slotImage slot).isSome then 0 else 2
        checked := if (s.slotImage slot).isSome then insertAsc slot s.seed.checked
          else without s.seed.checked slot } } s) := by
  rw [exec_flashOpDone s true h]
  unfold State.recDone State.recEffect
  cases (s.slotImage slot).isSome <;> rfl

/-- SET_NEXT writes the directory. -/
theorem exec_flashOpDone_setNext (s : State) {slot page : Nat} (h : s.seed.recBusy = some (4, slot, page)) :
    exec (.flashOpDone true) s = .next (State.done { s.writeDir slot (s.dir.elim 0 (·.2.saveCtr)) with
      seed := { s.seed with recBusy := none, recResult := 0 } } s) := by
  rw [exec_flashOpDone s true h, State.recDone_good s 4 slot page rfl, State.recEffect_setNext, State.seed_writeDir]

/-- PROVISION fills the key store. -/
theorem exec_flashOpDone_provision (s : State) {slot page : Nat} (h : s.seed.recBusy = some (5, slot, page)) :
    exec (.flashOpDone true) s = .next (State.done { s with
      media := { s.media with imageKey := some (BitVec.ofNat 256 (beNat (s.recBuffer.take 32))) }
      seed := { s.seed with recBusy := none, recResult := 0 } } s) := by
  rw [exec_flashOpDone s true h, State.recDone_good s 5 slot page rfl, State.recEffect_provision]

/-- Settles O10. -/
theorem recoveryOperations : Obligations.RecoveryOperations := by
  refine ⟨fun s hr hb hp => ⟨?_, ?_⟩, fun s hr hb => ?_, fun s hr hb hc => ?_, fun s hr hb hk => ?_,
    fun s m pt rc hr hb => ?_, fun s ha hr => ⟨?_, ?_, ?_, ?_, ?_⟩, fun s slot page h => ?_, fun s slot page h => ?_,
    fun s slot page h => ?_, fun s slot page h => ?_, fun s slot page h => ?_, fun s op slot page h => ?_⟩
  · exact s.doRec_runs 1 _ rfl hr ((State.recRefused_eq hr hb 1).trans (decide_eq_false (by omega)))
  · exact s.doRec_runs 2 _ rfl hr ((State.recRefused_eq hr hb 2).trans (decide_eq_false (by omega)))
  · exact s.doRec_runs 3 _ rfl hr (State.recRefused_eq hr hb 3)
  · exact s.doRec_runs 4 _ rfl hr ((State.recRefused_eq hr hb 4).trans (by rw [hc]; rfl))
  · exact s.doRec_runs 5 _ rfl hr ((State.recRefused_eq hr hb 5).trans (by rw [hk]; rfl))
  · exact s.doRec_restart _ hr (State.recRefused_eq hr hb 6)
  · exact s.doRec_refused 1 _ rfl ha (State.recRefused_outside hr 1)
  · exact s.doRec_refused 2 _ rfl ha (State.recRefused_outside hr 2)
  · exact s.doRec_refused 3 _ rfl ha (State.recRefused_outside hr 3)
  · exact s.doRec_refused 4 _ rfl ha (State.recRefused_outside hr 4)
  · exact s.doRec_refused 5 _ rfl ha (State.recRefused_outside hr 5)
  · exact exec_flashOpDone_program s h rfl (s.recEffect_erase slot page)
  · refine ⟨_, exec_flashOpDone s true h, ?_⟩
    have hd := Still.done (s.recDone 2 slot page true) s
    refine ⟨hd.media, congrArg Seed.recBusy hd.seed, congrArg Seed.recResult hd.seed, fun k hk => ?_⟩
    refine (congrArg Seed.checked hd.seed).trans ?_
    show (match slotOfPage page with | some k => without s.seed.checked k | none => s.seed.checked) = _
    rw [hk]
  · exact exec_flashOpDone_check s h
  · exact exec_flashOpDone_setNext s h
  · exact exec_flashOpDone_provision s h
  · refine ⟨_, exec_flashOpDone s false h, ?_⟩
    have hd := Still.done (s.recDone op slot page false) s
    obtain ⟨hb, hr⟩ := s.seed_recDone_failed op slot page
    exact ⟨(congrArg Seed.recBusy hd.seed).trans hb, (congrArg Seed.recResult hd.seed).trans hr, State.done_regs _ _⟩

end Sys2Proof.Machine
end

section
/-!
PROOFS. Die links and the routes round those that are down (spec/01: R8, R9, R12).
-/

namespace Sys2Proof.Machine

open Sys2Proof

/-! ### Routes depend only on which links are down -/

/-- Are the same links down in both states? -/
def SameDown (s t : State) : Prop := ∀ l < 12, s.link l = 0#2 ↔ t.link l = 0#2

theorem ringLink_lt (k : Nat) : ringLink k < 12 := by
  unfold ringLink
  omega

theorem lt_of_mem_risingWay {a b l : Nat} (h : l ∈ risingWay a b) : l < 12 := by
  obtain ⟨i, -, rfl⟩ := List.mem_map.1 h
  exact ringLink_lt _

theorem SameDown.link {s t : State} (h : SameDown s t) {l : Nat} (hl : l < 12) : (s.link l == 0#2) = (t.link l == 0#2) := by
  rw [Bool.eq_iff_iff, beq_iff_eq, beq_iff_eq]
  exact h l hl

theorem SameDown.wayUp {s t : State} (h : SameDown s t) {w : List Nat} (hw : ∀ l ∈ w, l < 12) : s.wayUp w = t.wayUp w := by
  unfold State.wayUp
  rw [Bool.eq_iff_iff, List.all_eq_true, List.all_eq_true]
  refine forall₂_congr fun l hl => ?_
  rw [bne, bne, h.link (hw l hl)]

theorem SameDown.boughRoute {s t : State} (h : SameDown s t) (a b : Nat) : s.boughRoute a b = t.boughRoute a b := by
  have hr : s.wayUp (risingWay a b) = t.wayUp (risingWay a b) := h.wayUp fun _ => lt_of_mem_risingWay
  have hf : s.wayUp (fallingWay a b) = t.wayUp (fallingWay a b) :=
    h.wayUp fun _ hl => lt_of_mem_risingWay (List.mem_reverse.1 hl)
  unfold State.boughRoute ringWays
  split <;> simp only [List.find?_cons, List.find?_nil, hr, hf]

theorem SameDown.dieRoute {s t : State} (h : SameDown s t) {base : Nat} (hb : base ≤ 8) (k : Nat) :
    s.dieRoute base k = t.dieRoute base k := by
  unfold State.dieRoute
  refine congrArg List.head? (congrArg (List.filterMap · _) (funext fun i => ?_))
  dsimp only
  rw [h.link (by omega), h.boughRoute]

/-- A state that differs from the reset state in the die links that are down only. -/
def downLinks (d : List Nat) : State := { links := (List.range 12).map fun l => if l ∈ d then 0#2 else 2#2 }

theorem link_downLinks (d : List Nat) {l : Nat} (h : l < 12) : (downLinks d).link l = 0#2 ↔ l ∈ d := by
  unfold State.link nth downLinks
  rw [List.getElem?_map, List.getElem?_range h]
  by_cases hd : l ∈ d <;> simp [hd]

theorem sameDown_downLinks {s : State} {d : List Nat} (h : ∀ l < 12, s.link l = 0#2 ↔ l ∈ d) : SameDown s (downLinks d) :=
  fun l hl => (h l hl).trans (link_downLinks d hl).symm

/-! ### The routes themselves -/

theorem routes_allUp : ∀ k < 4, (downLinks []).boughRoute k ((k + 1) % 4) = some [8 + k]
    ∧ (downLinks []).boughRoute k ((k + 2) % 4) = some [8 + k, 8 + (k + 1) % 4]
    ∧ (downLinks []).boughRoute k ((k + 3) % 4) = some [8 + (k + 3) % 4]
    ∧ (downLinks []).dieRoute 0 k = some [k] ∧ (downLinks []).dieRoute 4 k = some [4 + k] := by
  decide

theorem boughRoute_ringLinkDown : ∀ k < 4,
    (downLinks [8 + k]).boughRoute k ((k + 1) % 4) = some [8 + (k + 3) % 4, 8 + (k + 2) % 4, 8 + (k + 1) % 4] := by
  decide

theorem dieRoute_trunkLinkDown : ∀ k < 4, (downLinks [k]).dieRoute 0 k = some [8 + k, (k + 1) % 4] := by
  decide

theorem State.links_until (s : State) (t : Nat) : (s.until t).links = s.links := by
  obtain h | h := s.until_eq t <;> rw [h]
  rfl

/-- The state after the wait is named: the kernel would evaluate the wait of a million nanoseconds. -/
theorem State.linkLost_eq (s u : State) (l : Nat) (hu : u = s.until (nth s.linkAt l 0 + 1000000)) :
    s.linkLost l = (State.fenceLost (State.raise0 3 (32 + l) { u with links := setNth s.links l 0#2 })).intake := by
  suffices h : ∀ f, f = State.linkLost → f l s = _ from h State.linkLost rfl
  intro f hf
  delta State.linkLost at hf
  subst hf
  dsimp -zeta only
  rw [← hu, ← s.links_until (nth s.linkAt l 0 + 1000000), ← hu]
  rfl

theorem exec_dlinkDown (s : State) (l : Nat) (hl : l < 12) (h : s.link l = 1#2) (hb : s.seed.boot ≠ .selftest) :
    exec (.dlinkDown l) s = .next ((s.linkLost l).done s) := by
  refine act_true ?_ _ _
  rw [show (Instr.dlinkDown l).wf = true from decide_eq_true hl, h]
  simpa using hb

/-- Settles O11: whether a link is down is all a route depends on, so each case is computed once. -/
theorem dieLinksRetrain : Obligations.DieLinksRetrain := by
  refine ⟨fun s l hl h => ?_, fun s l hl h hb => ⟨?_, ?_⟩, fun s l hl h hb => ?_, fun s k hk h => ?_, fun s k hk h => ?_,
    fun s k hk h => ?_⟩
  · refine act_true ?_ _ _
    rw [show (Instr.dlinkRetrain l).wf = true from decide_eq_true hl]
    obtain h | h := h <;> rw [h] <;> rfl
  · refine act_true ?_ _ _
    rw [show (Instr.dlinkRetrainDone l false).wf = true from decide_eq_true hl, h]
    simpa using hb
  · refine act_true ?_ _ _
    rw [show (Instr.dlinkRetrainDone l true).wf = true from decide_eq_true hl, h]
    simpa using hb
  · intro u
    rw [exec_dlinkDown s l hl h hb, State.linkLost_eq s u l rfl]
  · have hd : SameDown s (downLinks []) := sameDown_downLinks fun l hl => by simpa using h l hl
    rw [hd.boughRoute, hd.boughRoute, hd.boughRoute, hd.dieRoute (by decide), hd.dieRoute (by decide)]
    exact routes_allUp k hk
  · have hd : SameDown s (downLinks [8 + k]) := sameDown_downLinks fun l hl => by simpa using h l hl
    rw [hd.boughRoute]
    exact boughRoute_ringLinkDown k hk
  · have hd : SameDown s (downLinks [k]) := sameDown_downLinks fun l hl => by simpa using h l hl
    rw [hd.dieRoute (by decide)]
    exact dieRoute_trunkLinkDown k hk

end Sys2Proof.Machine
end

section
/-!
PROOFS. The end of a command, and what it leaves alone (R49, R93).
-/

namespace Sys2Proof.Machine

open Sys2Proof

/-- What the end of a command leaves alone: time, registers, drives, groves, Pith, the ring, Seed, the media, and every source
that is pending. -/
structure Steady (s t : State) : Prop where
  calm : Calm s t
  now : t.now = s.now
  regs : t.regs = s.regs
  drives : t.drives = s.drives
  groves : t.groves = s.groves
  pith : t.pith = s.pith
  ring : t.ring = s.ring
  seed : t.seed = s.seed
  alertFixed : t.alertFixed = s.alertFixed
  media : t.media = s.media
  fresh : t.fresh = s.fresh
  pending : t.pending = s.pending

theorem Still.steady {s t : State} (h : Still s t) (c : Calm s t) : Steady s t :=
  ⟨c, h.now, h.regs, h.drives, h.groves, h.pith, h.ring, h.seed, h.alertFixed, h.media, h.fresh, h.pending⟩

/-- Changes of the hosts' records, the engines, the pools and the counters. -/
theorem Steady.of_frame {s t : State}
    (h : t = { s with bud := t.bud, xylem := t.xylem, knot := t.knot, twigs := t.twigs, tally := t.tally, sap := t.sap
                      sapw := t.sapw, pieces := t.pieces }) : Steady s t := by
  rw [h]
  constructor
  · exact Calm.of_eq rfl rfl
  all_goals rfl

theorem Steady.refl (s : State) : Steady s s := Steady.of_frame rfl

theorem Steady.trans {a b c : State} (h : Steady a b) (k : Steady b c) : Steady a c :=
  ⟨h.calm.trans k.calm, k.now.trans h.now, k.regs.trans h.regs, k.drives.trans h.drives, k.groves.trans h.groves,
    k.pith.trans h.pith, k.ring.trans h.ring, k.seed.trans h.seed, k.alertFixed.trans h.alertFixed, k.media.trans h.media,
    k.fresh.trans h.fresh, k.pending.trans h.pending⟩

theorem Steady.foldl {α : Type} (f : State → α → State) (hf : ∀ s a, Steady s (f s a)) (l : List α) (s : State) :
    Steady s (l.foldl f s) := by
  induction l generalizing s with
  | nil => exact Steady.refl s
  | cons a l ih => exact (hf s a).trans (ih (f s a))

theorem Steady.ite {s a b : State} (c : Prop) [Decidable c] (h : Steady s a) (k : Steady s b) : Steady s (if c then a else b) := by
  split
  · exact h
  · exact k

theorem steady_raise (n : Nat) (d : W32) (s : State) : Steady s (s.raise n d) := (still_raise n d s).steady (calm_raise n d s)

theorem steady_raise0 (g b : Nat) (s : State) : Steady s (s.raise0 g b) := steady_raise _ _ s

/-! ### Engine counters (R399) -/

theorem steady_engWrap (k e n : Nat) (s : State) : Steady s (State.engWrap k e n s) := by
  induction k generalizing n s with
  | zero => exact Steady.refl s
  | succ k ih =>
    unfold State.engWrap
    split
    · dsimp only
      split
      · exact Steady.ite _ (Steady.trans (Steady.of_frame rfl) (ih _ _)) (Steady.of_frame rfl)
      · exact Steady.refl s
    · exact Steady.trans (Steady.of_frame rfl) (steady_raise _ _ _)

theorem steady_engAdd (e n k : Nat) (s : State) : Steady s (s.engAdd e n k) := by
  unfold State.engAdd
  dsimp only
  exact Steady.ite _ (Steady.trans (Steady.of_frame rfl) (steady_engWrap _ _ _ _))
    (Steady.of_frame rfl)

theorem steady_engEvent (e code k : Nat) (c : Option Cmd) (s : State) : Steady s (s.engEvent e code k c) :=
  Steady.foldl _ (fun s n => Steady.ite _ (steady_engAdd e n k s) (Steady.refl s)) _ s

/-! ### The ledger (R91 to R97) -/

theorem steady_stamp (s : State) (t i : Nat) : Steady s (s.stamp t i) := (still_stamp s t i).steady (calm_stamp s t i)

theorem steady_setCmd (s : State) (t : Nat) (c : Cmd) : Steady s (s.setCmd t c) := (still_setCmd s t c).steady (calm_setCmd s t c)

theorem steady_modCmd (s : State) (t : Nat) (f : Cmd → Cmd) : Steady s (s.modCmd t f) :=
  (still_modCmd s t f).steady (calm_modCmd s t f)

theorem steady_enterLedger (t : Nat) (s : State) : Steady s (s.enterLedger t) := by
  unfold State.enterLedger
  split
  · exact Steady.refl s
  · dsimp only
    split
    · exact (Steady.trans (Steady.of_frame rfl) (steady_stamp _ t 1)).trans (steady_stamp _ t 2)
    · exact Steady.trans (Steady.of_frame rfl) (steady_stamp _ t 1)

theorem steady_runIntake (k : Nat) (s : State) : Steady s (State.runIntake k s) := by
  induction k generalizing s with
  | zero => exact Steady.refl s
  | succ k ih =>
    unfold State.runIntake
    split
    · exact Steady.refl s
    · split
      · exact Steady.refl s
      · split
        · exact (steady_enterLedger _ s).trans (ih _)
        · split
          · exact Steady.refl s
          · exact Steady.trans (Steady.of_frame rfl) (steady_raise0 _ _ _)

theorem steady_intake (s : State) : Steady s s.intake := steady_runIntake _ s

theorem steady_release (t : Nat) (s : State) : Steady s (s.release t) := by
  unfold State.release
  dsimp only
  exact Steady.trans (Steady.of_frame rfl) (Steady.foldl _ (fun s a => steady_stamp s a 2) _ _)

/-! ### The end of a command -/

theorem steady_unplace (t : Nat) (s : State) : Steady s (s.unplace t) := by
  unfold State.unplace State.restFrom
  dsimp only
  split <;> exact Steady.of_frame rfl

theorem steady_freeDesc (r : Nat) (s : State) : Steady s (s.freeDesc r) := by
  unfold State.freeDesc
  dsimp only
  split
  · split
    · split
      · exact Steady.trans (Steady.of_frame rfl) ((still_openDesc _ _).steady (calm_openDesc _ _))
      · exact Steady.of_frame rfl
    · exact Steady.of_frame rfl
  · exact Steady.of_frame rfl

theorem steady_closeShoots (s : State) : Steady s s.closeShoots :=
  Steady.foldl _ (fun s p => (still_closePiece p s).steady (calm_closePiece p s)) _ s

theorem steady_dropUnsent (t : Nat) (s : State) : Steady s (s.dropUnsent t) := by
  unfold State.dropUnsent
  dsimp only
  exact (Steady.trans (Steady.of_frame rfl) (Steady.foldl _ (fun s r => steady_freeDesc r s) _ _)).trans
    (steady_closeShoots _)

theorem steady_dropStaged (t : Nat) (s : State) : Steady s (s.dropStaged t) := Steady.of_frame rfl

/-- The end of a command with a status (R49, R93). -/
theorem steady_finish (t : Nat) (st : Status) (s : State) : Steady s (s.finish t st) := by
  unfold State.finish
  split
  · exact Steady.refl s
  · split
    · exact Steady.refl s
    · dsimp only
      refine Steady.trans (((?_ : Steady s _).trans (steady_release _ _)).trans (steady_intake _))
        ((still_tryPost _ _).steady (calm_tryPost _ _))
      refine Steady.trans (b := match _ with | some e => State.engEvent e 0x11 1 _ _ | none => _) ?_
        (Steady.ite _ (Steady.refl _) ((steady_dropUnsent _ _).trans (steady_dropStaged _ _)))
      split
      · exact ((steady_setCmd s _ _).trans (steady_unplace _ _)).trans (steady_engEvent _ _ _ _ _)
      · exact (steady_setCmd s _ _).trans (steady_unplace _ _)

theorem steady_fail (t sct sc : Nat) (s : State) : Steady s (s.fail t sct sc) := steady_finish _ _ s

end Sys2Proof.Machine
end

section
/-!
PROOFS. The Pith pairs: fences, takeovers, rehearsals and the Bough steps of an activation (spec/13).
-/

namespace Sys2Proof.Machine

open Sys2Proof

/-! ### What a wait changes -/

/-- A wait moves time, the clocks and Sap's counts, and nothing else. -/
theorem State.until_frame (s : State) (t : Nat) :
    s.until t = { s with now := (s.until t).now, boughCycles := (s.until t).boughCycles, time := (s.until t).time
                         sap := (s.until t).sap } := by
  obtain h | h := s.until_eq t <;> rw [h]
  rfl

theorem State.pith_until (s : State) (t : Nat) : (s.until t).pith = s.pith := by rw [State.until_frame]

/-! ### The pairs -/

theorem Pith.pair_setPair_same (p : Pith) (b : Bool) (x : PairSt) : (p.setPair b x).pair b = x := by cases b <;> rfl

theorem Pith.pair_setPair_not (p : Pith) (b : Bool) (x : PairSt) : (p.setPair b x).pair (!b) = p.pair (!b) := by cases b <;> rfl

theorem Pith.pair_setPair_not' (p : Pith) (b : Bool) (x : PairSt) : (p.setPair (!b) x).pair b = p.pair b := by cases b <;> rfl

/-- The state in which a pair is fenced: its cause noted, STATE 0x0002 forced. -/
def State.fenced (c : TakeCause) (s : State) : State :=
  State.raise0 1 2 (State.forceHb (some 2#16) { s with
    pith := { s.pith.setPair s.pith.activeB .fenced with lastCause := c.code } })

theorem steady_fenced (c : TakeCause) (s : State) :
    Steady { s with pith := { s.pith.setPair s.pith.activeB .fenced with lastCause := c.code }
                    ring := { s.ring with forced := some 2#16 } } (s.fenced c) := steady_raise0 1 2 _

/-- A cold standby boots. -/
theorem State.fence_cold (s : State) (c : TakeCause) (h : s.pith.pair s.pith.standby = .cold) :
    s.fence c = { s.fenced c with pith := { (s.fenced c).pith.setPair (s.fenced c).pith.standby .booting with
      take := some { cause := c, planned := false, phase := s.pith.take.elim .wake (·.phase), from_ := (s.fenced c).now } } } := by
  unfold State.fence
  dsimp only
  rw [h, if_pos (by decide)]
  rfl

/-- A standby that cannot boot leaves no control pair. -/
theorem State.fence_fenced (s : State) (c : TakeCause) (h : s.pith.pair s.pith.standby = .fenced) :
    s.fence c = (s.fenced c).loseControl := by
  unfold State.fence
  dsimp only
  rw [h, if_neg (by decide)]
  rfl

/-- A pending activation is failed. -/
def State.failPending (sct sc : Nat) (s : State) : State :=
  match s.pith.pending with
  | some t => ({ s with pith := { s.pith with pending := none } }).fail t sct sc
  | none => s

theorem steady_failPending (sct sc : Nat) (s : State) :
    Steady { s with pith := { s.pith with pending := none } } (s.failPending sct sc) := by
  unfold State.failPending
  cases h : s.pith.pending with
  | some t => exact steady_fail t sct sc _
  | none =>
    dsimp only
    rw [← h]
    exact Steady.refl s

/-- Pith, the alerts and the ring once the station has no control pair. -/
def State.uncontrolled (s : State) : State :=
  { s with
    pith := { s.pith.setPair s.pith.standby .fenced with
      noControl := true
      take := none
      rehearse := if s.pith.take.any (fun t => t.cause == .rehearsal) then 3 else s.pith.rehearse }
    alertFixed := setNth s.alertFixed 2 true
    ring := { s.ring with forced := some 5#16 } }

theorem State.loseControl_eq (s : State) :
    s.loseControl = let u := (s.uncontrolled.raise0 1 5).failPending 7 0x86
                    u.pithHeld.foldl (fun s t => s.fail t 7 0x86) u := rfl

/-- Beyond that, the loss of the control pair ends the commands that Pith held. -/
theorem steady_loseControl (s : State) :
    Steady { s.uncontrolled with pith := { s.uncontrolled.pith with pending := none } } s.loseControl := by
  rw [State.loseControl_eq]
  have hp : (s.uncontrolled.raise0 1 5).pith = s.uncontrolled.pith := (steady_raise0 1 5 _).pith
  have hr := steady_raise0 1 5 s.uncontrolled
  have hf := steady_failPending 7 0x86 (s.uncontrolled.raise0 1 5)
  rw [hp] at hf
  refine Steady.trans ?_ (Steady.foldl _ (fun s t => steady_fail t 7 0x86 s) _ _)
  refine Steady.trans ?_ hf
  exact ⟨⟨hr.calm.pend, hr.calm.ctrl⟩, hr.now, hr.regs, hr.drives, hr.groves, rfl, hr.ring, hr.seed, hr.alertFixed, hr.media, hr.fresh, hr.pending⟩

/-! ### The new pair resumes (R301, R305) -/

/-- Pith once the new pair is active, the old one being in a state. -/
def State.swapped (s : State) (old : PairSt) (rehearse : Nat) : Pith :=
  { (s.pith.setPair (!s.pith.activeB) .active).setPair s.pith.activeB old with
    activeB := !s.pith.activeB, take := none, takeovers := (s.pith.takeovers + 1) % 65536, kickAt := s.now, ckptAt := s.now
    rehearse := rehearse }

theorem Pith.pair_swapped_new (s : State) (old : PairSt) (r : Nat) : (s.swapped old r).pair (!s.pith.activeB) = .active := by
  unfold State.swapped
  cases s.pith.activeB <;> rfl

theorem Pith.pair_swapped_old (s : State) (old : PairSt) (r : Nat) : (s.swapped old r).pair s.pith.activeB = old := by
  unfold State.swapped
  cases s.pith.activeB <;> rfl

theorem steady_resumeHeld (s : State) : Steady s s.resumeHeld := by
  unfold State.resumeHeld
  refine Steady.foldl _ (fun s t => ?_) _ s
  split
  · exact Steady.ite _ (steady_finish _ _ _) (steady_fail _ _ _ _)
  · exact Steady.refl s

theorem State.resume_planned (s : State) (t : Takeover) (h : s.pith.take = some t) (hp : t.planned = true) :
    s.resume = State.raise0 1 3 (State.forceHb none { s with pith := s.swapped .cold s.pith.rehearse }) := by
  unfold State.resume
  rw [h]
  dsimp only
  rw [hp, show (t.cause == .rehearsal && !true) = false from Bool.and_false _]
  rfl

theorem State.resume_unplanned (s : State) (t : Takeover) (h : s.pith.take = some t) (hp : t.planned = false)
    (hc : t.cause ≠ .rehearsal) :
    s.resume
      = let u := State.raise0 1 3 (State.resumeHeld (State.forceHb none
          { s with pith := s.swapped (s.pith.pair s.pith.activeB) s.pith.rehearse }))
        if s.pith.pair s.pith.activeB == .fenced then u.raise0 1 6 else u := by
  unfold State.resume
  rw [h]
  dsimp only
  rw [hp, show (t.cause == .rehearsal && !false) = false by simpa using hc]
  rfl

/-- After a rehearsal the old pair's self-test decides. -/
theorem State.resume_rehearsal (s : State) (t : Takeover) (h : s.pith.take = some t) (hp : t.planned = false)
    (hc : t.cause = .rehearsal) :
    s.resume
      = let failed := (s.draw 2).1 == 0
        let u := State.raise0 1 9 (State.raise0 1 3 (State.resumeHeld (State.forceHb none
          { (s.draw 2).2 with pith := s.swapped (if failed then .fenced else .cold) 1 })))
        let v := if failed then u.raise0 1 7 else u
        if failed then v.raise0 1 6 else v := by
  unfold State.resume
  rw [h]
  dsimp only
  rw [hp, show (t.cause == .rehearsal && !false) = true by rw [hc]; rfl]
  rw [if_pos (rfl : true = true), Bool.true_and]
  cases (s.draw 2).1 == 0 <;> rfl

/-- Both outcomes of the self-test raise pith.rehearsed. -/
theorem State.resume_rehearsal_keeps (s : State) (t : Takeover) (h : s.pith.take = some t) (hp : t.planned = false)
    (hc : t.cause = .rehearsal) :
    s.resume.pith = s.swapped (if (s.draw 2).1 == 0 then .fenced else .cold) 1 ∧ (s.resume.src (evSrc 1 9)).pend = true := by
  rw [State.resume_rehearsal s t h hp hc]
  dsimp only
  have hv : ∀ v : State, Steady (State.raise0 1 9 v)
      (if (s.draw 2).1 == 0 then
        State.raise0 1 6 (if (s.draw 2).1 == 0 then (State.raise0 1 9 v).raise0 1 7 else State.raise0 1 9 v)
      else if (s.draw 2).1 == 0 then (State.raise0 1 9 v).raise0 1 7 else State.raise0 1 9 v) := by
    intro v
    split
    · exact (steady_raise0 1 7 _).trans (steady_raise0 1 6 _)
    · exact Steady.refl _
  refine ⟨?_, (hv _).calm.pend _ (State.pend_raise0_same 1 9 _)⟩
  refine (hv _).pith.trans ?_
  exact (((steady_resumeHeld _).trans (steady_raise0 1 3 _)).trans (steady_raise0 1 9 _)).pith

/-! ### The commands of a takeover -/

theorem State.mismatch_active (s : State) (h : s.pith.pair s.pith.activeB = .active) :
    s.mismatch s.pith.activeB = (s.raise0 1 0).fence .mismatch := by
  unfold State.mismatch
  rw [h, if_pos (beq_self_eq_true _), if_pos (by decide)]

theorem State.watchdog_eq (s u : State) (hu : u = s.until (s.pith.kickAt + s.fld 0x05000004 14 0 * 1000000)) :
    s.watchdog = (u.raise0 1 1).fence .watchdog := by
  rw [hu]
  rfl

theorem exec_watchdogExpiry (s : State) (ha : s.alive = true) (h : s.pith.pair s.pith.activeB = .active) :
    exec (.watchdogExpiry none) s = .next (s.watchdog.done s) :=
  actR_true (by rw [ha, State.pairRuns, h]; rfl) _ _ _

theorem State.pith_fence_cold (s : State) (c : TakeCause) (h : s.pith.pair s.pith.standby = .cold) :
    (s.fence c).pith = { s.pith.setPair s.pith.activeB .fenced with
        a := if s.pith.activeB then .booting else .fenced
        b := if s.pith.activeB then .fenced else .booting
        lastCause := c.code
        take := some { cause := c, planned := false, phase := s.pith.take.elim .wake (·.phase), from_ := s.now } } := by
  have hs := steady_fenced c s
  rw [State.fence_cold s c h]
  dsimp only
  rw [hs.pith, hs.now]
  unfold Pith.setPair Pith.standby
  cases s.pith.activeB <;> rfl

/-- The command that ends a phase of a takeover. -/
theorem State.takeIn_of {s : State} {t : Takeover} (h : s.pith.take = some t) : s.takeIn t.phase = true := by
  unfold State.takeIn
  rw [h]
  exact beq_self_eq_true t.phase

theorem State.nextPhase_ok (s : State) {t : Takeover} (h : s.pith.take = some t) (p : TakePhase) :
    s.nextPhase true p = { s with pith := { s.pith with take := some { t with phase := p } } } := by
  unfold State.nextPhase
  rw [if_pos rfl, h]
  rfl

theorem State.takeTimeout_eq (s u : State) {t : Takeover} (h : s.pith.take = some t)
    (hu : u = s.until (t.from_ + s.fld 0x05000004 23 16 * 1000000)) :
    s.takeTimeout = if t.planned then u.fallBack else u.loseControl := by
  suffices hf : ∀ f, f = State.takeTimeout → f s = _ from hf State.takeTimeout rfl
  intro f hf
  delta State.takeTimeout at hf
  subst hf
  dsimp -zeta only
  rw [h]
  dsimp only [Option.elim]
  rw [← hu]
  unfold State.standbyFails
  rw [show u.pith.take = some t by rw [hu, State.pith_until, h]]

theorem exec_takeoverTimeout (s : State) {t : Takeover} (ha : s.alive = true) (h : s.pith.take = some t) :
    exec .takeoverTimeout s = .next (s.takeTimeout.done s) :=
  act_true (by rw [ha, h]; rfl) _ _

theorem exec_standbyRestoreDone (s : State) {t : Takeover} (ha : s.alive = true) (h : s.pith.take = some t)
    (hr : t.phase = .restore) (hh : t.planned = false ∨ s.pithHeld = []) :
    exec .standbyRestoreDone s = .next ((s.resumeAll t).endWith (s.resumed t).regs s) := by
  dsimp only [exec]
  unfold execStandbyRestoreDone
  rw [h]
  refine actR_true ?_ _ _ _
  rw [ha, hr]
  obtain hh | hh := hh <;> rw [hh]
  · rfl
  · cases t.planned <;> rfl

/-- Settles O12. -/
theorem takeovers : Obligations.Takeovers := by
  refine ⟨⟨fun s ha h => ?_, fun s ha h => ?_, fun s c h => ?_, fun s c h => ?_⟩, fun s t ha h hp => ⟨?_, ?_⟩,
    fun s t ha h hp => ⟨?_, ?_⟩, fun s t ha h => ?_, fun s t ha h hr hh => exec_standbyRestoreDone s ha h hr hh,
    fun s t h hp => ?_, fun s t h hp hc => ?_, fun s t h hp hc => ?_⟩
  · rw [← State.mismatch_active s h]
    dsimp only [exec]
    unfold execLockstepMismatch
    dsimp only [State.cutWrite]
    rw [actR_true (by rw [ha, h]; rfl), ite_self]
    rfl
  · intro u
    rw [exec_watchdogExpiry s ha h, State.watchdog_eq s u rfl]
  · intro t
    have hs := steady_fenced c s
    refine ⟨s.pith_fence_cold c h, ?_, ?_⟩
    · unfold t
      rw [State.fence_cold s c h]
      exact hs.ring
    · unfold t
      rw [State.fence_cold s c h]
      exact hs.regs
  · have hs := steady_loseControl (s.fenced c)
    rw [State.fence_fenced s c h]
    refine ⟨congrArg Pith.noControl hs.pith, congrArg Pith.take hs.pith, congrArg Ring.forced hs.ring, hs.alertFixed.trans ?_⟩
    exact congrArg (fun l => setNth l 2 true) (steady_fenced c s).alertFixed
  · rw [← State.nextPhase_ok s h .boot]
    exact act_true (by rw [ha, ← hp, State.takeIn_of h]; rfl) _ _
  · exact act_true (by rw [ha, ← hp, State.takeIn_of h]; rfl) _ _
  · rw [← State.nextPhase_ok s h .restore]
    exact act_true (by rw [ha, ← hp, State.takeIn_of h]; rfl) _ _
  · exact act_true (by rw [ha, ← hp, State.takeIn_of h]; rfl) _ _
  · intro u
    rw [exec_takeoverTimeout s ha h, State.takeTimeout_eq s u h rfl]
  · have hs : s.resume.pith = s.swapped .cold s.pith.rehearse := by
      rw [State.resume_planned s t h hp]
      exact (steady_raise0 1 3 _).pith
    rw [hs]
    exact ⟨rfl, rfl, Pith.pair_swapped_new s _ _, Pith.pair_swapped_old s _ _, rfl⟩
  · have hs : s.resume.pith = s.swapped (s.pith.pair s.pith.activeB) s.pith.rehearse := by
      rw [State.resume_unplanned s t h hp hc]
      have hu := (steady_resumeHeld (State.forceHb none
        { s with pith := s.swapped (s.pith.pair s.pith.activeB) s.pith.rehearse })).trans (steady_raise0 1 3 _)
      dsimp only
      split
      · exact (hu.trans (steady_raise0 1 6 _)).pith
      · exact hu.pith
    rw [hs]
    exact ⟨rfl, rfl, Pith.pair_swapped_new s _ _, Pith.pair_swapped_old s _ _⟩
  · obtain ⟨hs, he⟩ := State.resume_rehearsal_keeps s t h hp hc
    rw [hs]
    exact ⟨rfl, rfl, he, (Pith.pair_swapped_old s _ _).trans (by simp)⟩

/-! ### Rehearsal, re-arming, checkpoints -/

theorem State.beginRehearsal_eq (s : State) {t : Nat} (h : s.pith.rehearseAt = some t) :
    s.beginRehearsal = State.fence .rehearsal (let u := s.until t
      { u with pith := { s.pith with rehearseAt := none } }) := by
  suffices hf : ∀ f, f = State.beginRehearsal → f s = _ from hf State.beginRehearsal rfl
  intro f hf
  delta State.beginRehearsal at hf
  subst hf
  dsimp -zeta only
  rw [h, Option.getD_some, ← s.pith_until t]

theorem exec_rearm (s : State) (pass : Bool) (ha : s.alive = true) (h : s.pith.a = .fenced ∨ s.pith.b = .fenced) :
    exec (.rearm pass) s = .next ((s.rearm pass).done s) := by
  refine act_true ?_ _ _
  rw [ha, Bool.true_and, Bool.not_eq_true', List.isEmpty_eq_false_iff_exists_mem]
  unfold State.fencedPairs
  obtain h | h := h
  · exact ⟨false, List.mem_filter.2 ⟨by decide, beq_iff_eq.2 h⟩⟩
  · exact ⟨true, List.mem_filter.2 ⟨by decide, beq_iff_eq.2 h⟩⟩

/-- The pairs that a passed self-test makes cold. -/
theorem State.pith_rearm_pass (s : State) :
    (s.rearm true).pith = { s.pith with
      a := if s.pith.a = .fenced then .cold else s.pith.a
      b := if s.pith.b = .fenced then .cold else s.pith.b } := by
  unfold State.rearm State.fencedPairs
  rw [List.filter_cons, List.filter_cons, List.filter_nil]
  by_cases ha : s.pith.a = .fenced <;> by_cases hb : s.pith.b = .fenced <;> simp [Pith.pair, Pith.setPair, ha, hb]

/-- A failed self-test raises pith.rearm_failed and leaves the pairs. -/
theorem State.rearm_fail (s : State) (h : s.pith.a = .fenced ∨ s.pith.b = .fenced) :
    (s.rearm false).pith = s.pith ∧ ((s.rearm false).src (evSrc 1 7)).pend = true := by
  have hk : ∀ (l : List Bool) (u : State), Steady u (l.foldl (fun s _ => s.raise0 1 7) u) := fun l u =>
    Steady.foldl _ (fun s _ => steady_raise0 1 7 s) l u
  have hr : s.rearm false = s.fencedPairs.foldl (fun s _ => s.raise0 1 7) s := rfl
  rw [hr]
  refine ⟨(hk _ _).pith, ?_⟩
  cases hl : s.fencedPairs with
  | nil =>
    unfold State.fencedPairs at hl
    rw [List.filter_eq_nil_iff] at hl
    obtain h | h := h
    · exact absurd (beq_iff_eq.2 h) (hl false (by decide))
    · exact absurd (beq_iff_eq.2 h) (hl true (by decide))
  | cons b l => exact (hk l _).calm.pend _ (State.pend_raise0_same 1 7 s)

theorem State.checkpointPith_eq (s u : State) (hu : u = s.until (s.pith.ckptAt + s.fld 0x05000004 31 24 * 1000000)) :
    s.checkpointPith = { u with pith := { s.pith with ckptAt := u.now } } := by
  suffices hf : ∀ f, f = State.checkpointPith → f s = { u with pith := { s.pith with ckptAt := u.now } }
    from hf State.checkpointPith rfl
  intro f hf
  delta State.checkpointPith at hf
  subst hf
  dsimp -zeta only
  rw [← hu, show s.pith = u.pith by rw [hu, State.pith_until]]

theorem exec_pithCheckpoint (s : State) (ha : s.alive = true) (h : s.pairRuns = true) :
    exec .pithCheckpoint s = .next (s.checkpointPith.done s) :=
  act_true (by rw [ha, h]; rfl) _ _

/-- Settles O13. -/
theorem rehearsalRearmAndCheckpoint : Obligations.RehearsalRearmAndCheckpoint := by
  refine ⟨fun s t ha hr h => ?_, fun s ha h => ?_, fun s ha h => ?_, fun s ha hr => ?_⟩
  · rw [← State.beginRehearsal_eq s h]
    exact act_true (by rw [ha, hr, h]; rfl) _ _
  · exact ⟨_, exec_rearm s true ha h, (Still.done _ s).pith.trans s.pith_rearm_pass⟩
  · obtain ⟨hp, he⟩ := s.rearm_fail h
    exact ⟨_, exec_rearm s false ha h, (Still.done _ s).pith.trans hp, ((Calm.refl _).done s).pend _ he⟩
  · intro u
    rw [exec_pithCheckpoint s ha hr, State.checkpointPith_eq s u rfl]

/-! ### Bough steps (R302, R303) -/

theorem State.stepAbort_eq (s u : State) (b : Nat) (hu : u = s.until ((s.pith.reload.elim 0 (·.since)) + 30000000)) :
    s.stepAbort b = State.raise0 5 (4 + b) (State.modBough b (fun t => { t with vacating := false }) (u.stepPhase 2)) := by
  rw [hu]
  rfl

theorem State.stepRetry_eq (s u : State) (b : Nat) (hu : u = s.until ((s.pith.reload.elim 0 (·.since)) + 1000000000)) :
    s.stepRetry b = (State.modBough b (fun t => { t with vacating := true }) (u.stepPhase 0)).noteCredits := by
  rw [hu]
  rfl

theorem exec_reloadAbort (s : State) (b : Nat) (hb : b < 4) (hs : s.stepIn b 0 = true) (he : s.boughEmpty b = false) :
    exec (.reloadAbort b) s = .next ((s.stepAbort b).done s) :=
  act_true (by rw [show boughIndex b = true from decide_eq_true hb, hs, he]; rfl) _ _

theorem exec_reloadRetry (s : State) (b : Nat) (hb : b < 4) (hs : s.stepIn b 2 = true) :
    exec (.reloadRetry b) s = .next ((s.stepRetry b).done s) :=
  act_true (by rw [show boughIndex b = true from decide_eq_true hb, hs]; rfl) _ _

theorem exec_microcodeLoaded (s : State) (b : Nat) (hb : b < 4) (hs : s.stepIn b 1 = true) :
    exec (.microcodeLoaded b) s = .next (((s.ucodeMark b).loaded b).endWith (s.ucodeMark b).regs s) :=
  actR_true (by rw [show boughIndex b = true from decide_eq_true hb, hs]; rfl) _ _ _

theorem State.stepIn_of {s : State} {r : Reload} (h : s.pith.reload = some r) : s.stepIn r.bough r.phase = true := by
  unfold State.stepIn
  rw [h]
  simp

/-- Before B3 the next Bough's step begins. -/
theorem State.loaded_next (s : State) {r : Reload} {b : Nat} (hb : b < 3) (h : s.pith.reload = some r) :
    s.loaded b = State.startStep r.tag (b + 1) (State.noteCredits (s.modBough b fun t => { t with reloading := false })).pump := by
  unfold State.loaded
  rw [h]
  dsimp only
  rw [if_pos hb]

/-- Settles O14. -/
theorem boughSteps : Obligations.BoughSteps := by
  refine ⟨fun s b hb hs he => ?_, fun s b hb hs he => ?_, fun s b hb hs => ?_, fun s b tag since hb h => ?_, fun s tag since h => ?_⟩
  · exact act_true (by rw [show boughIndex b = true from decide_eq_true hb, hs, he]; rfl) _ _
  · intro u
    rw [exec_reloadAbort s b hb hs he, State.stepAbort_eq s u b rfl]
  · intro u
    rw [exec_reloadRetry s b hb hs, State.stepRetry_eq s u b rfl]
  · have hm : s.ucodeMark b = s := if_pos hb
    rw [exec_microcodeLoaded s b (by omega) (State.stepIn_of h), hm, State.loaded_next s hb h]
    rfl
  · exact exec_microcodeLoaded s 3 (by decide) (State.stepIn_of h)

end Sys2Proof.Machine
end

section
/-!
PROOFS. Register writes: what a write is answered, what it leaves in the register file and what it makes the machine do
(spec/18: R374, R379 to R381).
-/

namespace Sys2Proof.Machine

open Sys2Proof

/-! ### A write's status -/

/-- An aligned address `a` of the map whose register is described by `d`, at offset `o` of block `b`. -/
structure RegHere (a b o : Nat) (d : RegDef) : Prop where
  aligned : a % 4 = 0
  mapped : inMap a = true
  notTest : (blockOf a == 26) = false
  canon : canon a = some (b, o)
  reg : regAt a = some d

/-- Is the address outside what the path reaches in recovery? -/
def State.recHides (s : State) (path : Path) (a : Nat) : Bool :=
  s.inRecovery && path == .frame && !([0, 1, 2].contains (blockOf a))

theorem State.recHides_pith (s : State) (a : Nat) : s.recHides .pith a = false := by
  unfold State.recHides
  rw [show ((Path.pith == Path.frame) = false) from rfl, Bool.and_false]
  rfl

theorem State.recHides_running {s : State} (h : s.inRecovery = false) (path : Path) (a : Nat) : s.recHides path a = false := by
  unfold State.recHides
  rw [h]
  rfl

theorem State.wrStatus_eq (s : State) {path : Path} {a b o : Nat} {d : RegDef} (data mask : W32) (h : RegHere a b o d)
    (hp : s.recHides path a = false) :
    s.wrStatus path a data mask
      = if s.blockOn a && (s.rwWord a d false ^^^ s.written a d data mask) &&& d.s &&& ~~~(exempt a) != 0#32 then 3
        else if s.blockRefuses path a (s.rwWord a d false) (s.written a d data mask) (data &&& mask &&& d.wo) then 4 else 0 := by
  have hh : (!inMap a || (s.inRecovery && path == .frame && !([0, 1, 2].contains (blockOf a)))) = false := by
    rw [h.mapped]
    exact hp
  unfold State.wrStatus
  rw [show (a % 4 != 0) = false by rw [h.aligned]; rfl, hh, h.notTest, h.reg]
  rfl

/-- A register without class S fields is written unless its block refuses. -/
theorem State.wrStatus_noS (s : State) {path : Path} {a b o : Nat} {d : RegDef} (data mask : W32) (h : RegHere a b o d)
    (hp : s.recHides path a = false) (hs : d.s = 0#32) :
    s.wrStatus path a data mask
      = if s.blockRefuses path a (s.rwWord a d false) (s.written a d data mask) (data &&& mask &&& d.wo) then 4 else 0 := by
  rw [s.wrStatus_eq data mask h hp, hs]
  simp

/-! ### What a write does, by its status -/

theorem State.newRegs_done (s : State) {path : Path} {a b o : Nat} {d : RegDef} {data mask : W32} (h : RegHere a b o d)
    (hst : s.wrStatus path a data mask = 0) (h20 : (some (b, o) == some (20, 0)) = false) :
    s.newRegs path a data mask
      = ({ s with regs := s.plainRegs a data mask } : State).opRegs path a (data &&& mask &&& d.wo) := by
  unfold State.newRegs
  rw [hst]
  dsimp only
  rw [h.canon, h20, h.reg]
  rfl

theorem State.newRegs_violates (s : State) {path : Path} {a : Nat} {data mask : W32} (hst : s.wrStatus path a data mask = 3) :
    s.newRegs path a data mask = s.regs.violate a path 1 := by
  unfold State.newRegs
  rw [hst]
  rfl

theorem State.newRegs_refused (s : State) {path : Path} {a : Nat} {data mask : W32} (hst : s.wrStatus path a data mask = 4) :
    s.newRegs path a data mask = s.regs.violate a path 3 := by
  unfold State.newRegs
  rw [hst]
  rfl

theorem State.write1_violates (s : State) {path : Path} {a : Nat} {data mask : W32} (hst : s.wrStatus path a data mask = 3) :
    s.write1 path a data mask = State.raise0 0 0 { s with regs := s.regs.violate a path 1 } := by
  have hr : (State.raise0 0 0 { s with regs := s.regs.violate a path 1 }).regs = s.regs.violate a path 1 :=
    (still_raise0 0 0 _).regs
  unfold State.write1
  rw [s.newRegs_violates hst, hst]
  exact State.with_regs_eq hr

/-- The state that a write's effect starts from: the register file after it, except for restarts, whose effect clears it, and
commits, whose effect takes the snapshot. -/
def State.writeBase (s : State) (path : Path) (a : Nat) (data mask : W32) : State :=
  let plain := { s with regs := s.plainRegs a data mask }
  let u := if canon a == some (1, 0x10) || canon a == some (1, 0x24) then plain else { plain with regs := s.newRegs path a data mask }
  if (canon a).any (fun (c : Nat × Nat) => c.2 == 0xFFC) then plain else u

theorem State.write1_done (s : State) {path : Path} {a b o : Nat} {d : RegDef} {data mask : W32} (h : RegHere a b o d)
    (hst : s.wrStatus path a data mask = 0) :
    s.write1 path a data mask
      = { s.writeFx (s.writeBase path a data mask) path a (s.rwWord a d false) (s.written a d data mask)
            (data &&& mask &&& d.wo) (data &&& mask &&& d.w1c) with regs := s.newRegs path a data mask } := by
  unfold State.write1 State.writeBase
  rw [hst, h.reg]
  rfl

theorem State.write1_refused (s : State) {path : Path} {a : Nat} {data mask : W32} (hst : s.wrStatus path a data mask = 4) :
    s.write1 path a data mask
      = { State.raise0 0 0 (({ s with regs := s.regs.violate a path 3 } : State).refusedFx path a) with
            regs := s.regs.violate a path 3 } := by
  unfold State.write1
  rw [s.newRegs_refused hst, hst]
  rfl

/-- An ordinary register: nothing but the register file follows the write. -/
theorem State.writeBase_eq (s : State) {path : Path} {a b o : Nat} {data mask : W32} (hc : canon a = some (b, o))
    (ho : (o == 0xFFC) = false) (h1 : (some (b, o) == some (1, 0x10) || some (b, o) == some (1, 0x24)) = false) :
    s.writeBase path a data mask = { s with regs := s.newRegs path a data mask } := by
  unfold State.writeBase
  rw [hc, h1]
  dsimp only [Option.any]
  rw [if_neg (by rw [ho]; decide), if_neg (by decide)]

/-- The write as the whole effect of a command. -/
theorem State.doWrite_eq (s : State) {ok : Bool} {path : Path} {a : Nat} (data mask : W32) (ha : s.alive = true)
    (hb : s.bridges path a = true) (hok : ok = true) :
    s.doWrite ok path a data mask = .next ((s.write1 path a data mask).endWith (s.newRegs path a data mask) s) :=
  actR_true (by rw [ha, hb, hok]; rfl) _ _ _

/-! ### CHIP_SCRATCH (R384) -/

/-- The description of CHIP_SCRATCH. -/
def scratchDef : RegDef := ⟨0x24, 0#32, 0#32, 0#32, 0xFFFFFFFF#32, 0#32, 0#32, 0#32⟩

theorem scratch_here : RegHere 0x24 0 0x24 scratchDef := ⟨by decide, by decide, by decide, by decide, by decide⟩

theorem and_ones (w : W32) : w &&& 0xFFFFFFFF#32 = w := BitVec.and_allOnes

theorem State.rwWord_scratch (s : State) (act : Bool) : s.rwWord 0x24 scratchDef act = s.reg 0x24 := by
  show (s.reg 0x24 &&& (0#32 ||| 0xFFFFFFFF#32)) ||| (_ &&& 0#32) = _
  rw [BitVec.zero_or, BitVec.and_zero, BitVec.or_zero, and_ones]

/-- The word that a masked write leaves in CHIP_SCRATCH. -/
def State.scratchWord (s : State) (data mask : W32) : W32 := (s.reg 0x24 &&& ~~~mask) ||| (data &&& mask)

theorem State.written_scratch (s : State) (data mask : W32) : s.written 0x24 scratchDef data mask = s.scratchWord data mask := by
  unfold State.written
  rw [s.rwWord_scratch, scratch_here.canon]
  show ((s.reg 0x24 &&& ~~~mask) ||| (data &&& mask)) &&& (0#32 ||| 0xFFFFFFFF#32 ||| 0#32) = _
  rw [BitVec.zero_or, BitVec.or_zero, and_ones]
  rfl

theorem State.plainRegs_scratch (s : State) (data mask : W32) :
    s.plainRegs 0x24 data mask = s.regs.put 0x24 (s.scratchWord data mask) := by
  unfold State.plainRegs
  rw [scratch_here.reg, show s.home? 0x24 = some 0x24 from rfl]
  show s.regs.put 0x24 ((s.reg 0x24 &&& ~~~(0#32 ||| 0xFFFFFFFF#32)) ||| (s.written 0x24 scratchDef data mask &&& (0#32 ||| 0xFFFFFFFF#32))) = _
  rw [s.written_scratch, BitVec.zero_or, and_ones, show ~~~(0xFFFFFFFF#32) = 0#32 by decide, BitVec.and_zero, BitVec.zero_or]

theorem State.wrStatus_scratch (s : State) (path : Path) (data mask : W32) : s.wrStatus path 0x24 data mask = 0 := by
  have hp : s.recHides path 0x24 = false := Bool.and_false _
  rw [s.wrStatus_noS data mask scratch_here hp rfl]
  rfl

theorem State.newRegs_scratch (s : State) (path : Path) (data mask : W32) :
    s.newRegs path 0x24 data mask = s.regs.put 0x24 (s.scratchWord data mask) := by
  rw [s.newRegs_done scratch_here (s.wrStatus_scratch path data mask) rfl, ← s.plainRegs_scratch]
  rfl

theorem State.write1_scratch (s : State) (path : Path) (data mask : W32) :
    s.write1 path 0x24 data mask = { s with regs := s.regs.put 0x24 (s.scratchWord data mask) } := by
  rw [s.write1_done scratch_here (s.wrStatus_scratch path data mask), s.writeBase_eq scratch_here.canon rfl rfl, s.newRegs_scratch]
  rfl

/-- Every path reads CHIP_SCRATCH as it is stored. -/
theorem State.readVal_scratch (s : State) (path : Path) : s.readVal path 0x24 = s.reg 0x24 := by
  unfold State.readVal
  rw [scratch_here.reg, scratch_here.canon]
  show s.rwWord 0x24 scratchDef _ ||| (s.roWord 0x24 &&& (0#32 ||| 0#32)) ||| 0#32 = _
  rw [s.rwWord_scratch, BitVec.or_zero, BitVec.or_zero, BitVec.and_zero, BitVec.or_zero]

/-! ### REGISTER_FIELD_WRITE -/

/-- A write that is not answered with success, a violation or a refusal does nothing. -/
theorem State.write_unmapped (s : State) {path : Path} {a : Nat} (data mask : W32) (h : a % 4 ≠ 0 ∨ inMap a = false) :
    s.newRegs path a data mask = s.regs ∧ s.write1 path a data mask = s := by
  have hst : s.wrStatus path a data mask = 1 ∨ s.wrStatus path a data mask = 2 := by
    unfold State.wrStatus
    by_cases h4 : a % 4 = 0
    · left
      rw [h4, h.resolve_left (fun hn => hn h4)]
      rfl
    · right
      rw [if_pos (by simpa using h4)]
  unfold State.write1 State.newRegs
  obtain hst | hst := hst <;> rw [hst] <;> exact ⟨rfl, rfl⟩

/-- A register of a block before TEST, from its description. -/
theorem regHere_of_regAt {a : W32} {d : RegDef} (h4 : a.toNat % 4 = 0) (hb : blockOf a.toNat < 26) (h : regAt a.toNat = some d) :
    ∃ b o, RegHere a.toNat b o d := by
  have hm : a.toNat % 2 ^ 32 = a.toNat := Nat.mod_eq_of_lt a.isLt
  cases hc : canon a.toNat with
  | none =>
    unfold regAt at h
    rw [hm, hc] at h
    exact absurd h (by simp)
  | some c =>
    refine ⟨c.1, c.2, h4, decide_eq_true ?_, beq_false_of_ne (by omega), hc, h⟩
    unfold blockOf at hb
    omega

/-- Settles O18. -/
theorem registerFieldWrites : Obligations.RegisterFieldWrites := by
  refine ⟨fun s path a data mask ho hb h => ?_, fun s path a data mask r ho hb hi h4 hn hr hon hv => ?_,
    fun s path data mask ho hb => ?_, fun s path other data mask ho hb hI => ?_⟩
  · obtain ⟨hq, hw⟩ := s.write_unmapped (path := path) data mask h
    have ha : s.alive = true := (Bool.and_eq_true_iff.1 ho).1
    refine (s.doWrite_eq data mask ha hb ho).trans ?_
    rw [hq, hw]
    rfl
  · obtain ⟨b, o, hh⟩ := regHere_of_regAt h4 hn hr
    have hst : s.wrStatus path a.toNat data mask = 3 := by
      rw [s.wrStatus_eq data mask hh (State.recHides_running hi path _), if_pos]
      rw [hon, Bool.true_and]
      exact bne_iff_ne.2 hv
    refine (s.doWrite_eq data mask (Bool.and_eq_true_iff.1 ho).1 hb ho).trans ?_
    rw [s.newRegs_violates hst, s.write1_violates hst]
  · have ha : s.alive = true := (Bool.and_eq_true_iff.1 ho).1
    intro r
    refine (s.doWrite_eq data mask ha hb ho).trans ?_
    rw [s.newRegs_scratch, s.write1_scratch]
    rfl
  · have ha : s.alive = true := (Bool.and_eq_true_iff.1 ho).1
    refine ⟨_, s.doWrite_eq data mask ha hb ho, ?_⟩
    refine (State.readVal_scratch _ other).trans ?_
    unfold State.reg
    rw [State.endWith_regs]
    refine (congrArg (fun r : Regs => r.get 0x24) (s.newRegs_scratch path data mask)).trans ?_
    exact Regs.get_put_same _ hI _ _

end Sys2Proof.Machine
end

section
/-!
PROOFS. Commits: a COMMIT bit takes a snapshot, and a gate list's commit is checked at once (spec/18: R380, R381; spec/10: R254).
-/

namespace Sys2Proof.Machine

open Sys2Proof

/-! ### Registers that keep nothing -/

/-- A register of operation bits only. -/
structure RegDef.OpOnly (d : RegDef) : Prop where
  s : d.s = 0#32
  c : d.c = 0#32
  l : d.l = 0#32

theorem RegDef.OpOnly.rwWord {d : RegDef} (hd : d.OpOnly) (s : State) (a : Nat) (act : Bool) : s.rwWord a d act = 0#32 := by
  unfold State.rwWord
  rw [hd.s, hd.c, hd.l]
  cases s.home? a <;> simp

theorem RegDef.OpOnly.written {d : RegDef} (hd : d.OpOnly) (s : State) {a b o : Nat} (hc : canon a = some (b, o))
    (h : (some (b, o) == some (26, 8)) = false) (data mask : W32) : s.written a d data mask = 0#32 := by
  unfold State.written RegDef.rw
  rw [hd.rwWord, hc, h, hd.s, hd.c, hd.l]
  simp

theorem RegDef.OpOnly.plainRegs {d : RegDef} (hd : d.OpOnly) {s : State} (hI : s.Inv) {a : Nat} (hr : regAt a = some d)
    (data mask : W32) : s.plainRegs a data mask = s.regs := by
  unfold State.plainRegs
  rw [hr]
  cases s.home? a with
  | none => rfl
  | some h =>
    dsimp only
    rw [hd.s, hd.c, hd.l, if_pos (by decide), BitVec.or_zero, BitVec.and_zero, BitVec.or_zero,
      show ~~~(0#32) = 0xFFFFFFFF#32 by decide, and_ones]
    exact Regs.put_get _ hI h

/-! ### COMMIT registers (R380) -/

/-- The description of a COMMIT register with its operation bits. -/
def commitDef (wo : W32) : RegDef := ⟨0xFFC, 0#32, 0#32, 0#32, 0#32, 0#32, 0#32, wo⟩

theorem commitDef_opOnly (wo : W32) : (commitDef wo).OpOnly := ⟨rfl, rfl, rfl⟩

/-- The blocks whose commits have a group (Table 18.5). -/
def commitBlocks : List Nat := [2, 4, 6, 7, 8, 9, 10, 11, 12, 13, 14, 15, 16, 18, 19, 20, 21]

theorem mem_commitBlocks {b : Nat} (hb : b ∈ commitBlocks) :
    b = 2 ∨ b = 4 ∨ b = 6 ∨ b = 7 ∨ b = 8 ∨ b = 9 ∨ b = 10 ∨ b = 11 ∨ b = 12 ∨ b = 13 ∨ b = 14 ∨ b = 15 ∨ b = 16 ∨ b = 18
      ∨ b = 19 ∨ b = 20 ∨ b = 21 := by
  simpa only [commitBlocks, List.mem_cons, List.not_mem_nil, or_false] using hb

theorem classField_commit {a b : Nat} (hc : canon a = some (b, 0xFFC)) : classField a = none := by
  unfold classField
  rw [hc]
  split
  · rename_i h
    exact absurd h (by simp)
  · rename_i h
    exact absurd h (by simp)
  · rfl

theorem State.blockRefuses_commit (s : State) {path : Path} {a b : Nat} (hc : canon a = some (b, 0xFFC)) (hb : b ∈ commitBlocks)
    (old new wo : W32) : s.blockRefuses path a old new wo = false := by
  unfold State.blockRefuses classBad
  rw [classField_commit hc, hc]
  rcases mem_commitBlocks hb with rfl | rfl | rfl | rfl | rfl | rfl | rfl | rfl | rfl | rfl | rfl | rfl | rfl | rfl | rfl |
    rfl | rfl <;> rfl

theorem State.opRegs_commit (s : State) {path : Path} {a b : Nat} (hc : canon a = some (b, 0xFFC)) (hb : b ∈ commitBlocks) (wo : W32) :
    s.opRegs path a wo = (s.commits path a wo).regs := by
  unfold State.opRegs
  rw [hc]
  rcases mem_commitBlocks hb with rfl | rfl | rfl | rfl | rfl | rfl | rfl | rfl | rfl | rfl | rfl | rfl | rfl | rfl | rfl |
    rfl | rfl <;> rfl

theorem State.writeFx_commit (s u : State) {path : Path} {a b : Nat} (hc : canon a = some (b, 0xFFC)) (hb : b ∈ commitBlocks)
    (old new wo ones : W32) : s.writeFx u path a old new wo ones = s.commits path a wo := by
  unfold State.writeFx
  rw [hc]
  rcases mem_commitBlocks hb with rfl | rfl | rfl | rfl | rfl | rfl | rfl | rfl | rfl | rfl | rfl | rfl | rfl | rfl | rfl |
    rfl | rfl <;> rfl

/-- A write of a COMMIT register is the commits that its bits ask for. -/
theorem State.write_commit {s : State} (hI : s.Inv) {path : Path} {a b : Nat} {wo : W32} (h : RegHere a b 0xFFC (commitDef wo))
    (hb : b ∈ commitBlocks) (hp : s.recHides path a = false) (data mask : W32) :
    s.newRegs path a data mask = (s.commits path a (data &&& mask &&& wo)).regs
      ∧ s.write1 path a data mask = s.commits path a (data &&& mask &&& wo) := by
  have hst : s.wrStatus path a data mask = 0 := by
    rw [s.wrStatus_noS data mask h hp rfl, s.blockRefuses_commit h.canon hb]
    rfl
  have h20 : (some (b, 0xFFC) == some (20, 0)) = false := beq_false_of_ne (by simp)
  have hq : s.newRegs path a data mask = (s.commits path a (data &&& mask &&& wo)).regs := by
    rw [s.newRegs_done h hst h20, (commitDef_opOnly wo).plainRegs hI h.reg]
    exact s.opRegs_commit h.canon hb _
  refine ⟨hq, ?_⟩
  rw [s.write1_done h hst, s.writeFx_commit _ h.canon hb, hq]
  rfl

/-- One COMMIT bit. -/
theorem State.commits_one (s : State) (path : Path) (a k : Nat) (ones : W32)
    (h : ∀ j < 4, bit ones j = (j == k)) (hk : k < 4) : s.commits path a ones = s.commit1 path a k := by
  unfold State.commits
  show List.foldl _ s [0, 1, 2, 3] = _
  rw [List.foldl_cons, List.foldl_cons, List.foldl_cons, List.foldl_cons, List.foldl_nil, h 0 (by decide), h 1 (by decide),
    h 2 (by decide), h 3 (by decide)]
  rcases (by omega : k = 0 ∨ k = 1 ∨ k = 2 ∨ k = 3) with rfl | rfl | rfl | rfl <;> rfl

/-- A group that is no gate's waits for its boundary. -/
theorem State.commit1_waits (s : State) {path : Path} {a k : Nat} (hon : s.blockOn a = true) (hg : gatePoint a k = none) :
    s.commit1 path a k = { s with regs := { s.regs with
      snaps := NMap.set s.regs.snaps (a * 8 + k) { path := path, vals := s.regs.snapshot a k } } } := by
  have hq : s.commitRegs path a k = { s.regs with
      snaps := NMap.set s.regs.snaps (a * 8 + k) { path := path, vals := s.regs.snapshot a k } } := by
    unfold State.commitRegs isGate
    rw [hon, hg]
    rfl
  unfold State.commit1 State.commitFx
  rw [hq, hon, hg]
  rfl

/-- What the table says of bit `k` of a COMMIT register. -/
abbrev CommitBit (a b k : Nat) (wo : W32) : Prop :=
  a % 4 = 0 ∧ inMap a = true ∧ (blockOf a == 26) = false ∧ canon a = some (b, 0xFFC) ∧ regAt a = some (commitDef wo)
    ∧ b ∈ commitBlocks ∧ k < 4 ∧ ∀ j < 4, bit (w32 (2 ^ k) &&& w32 (2 ^ k) &&& wo) j = (j == k)

/-- A commit of one bit, once it passes the die links. -/
theorem State.doCommit_eq {s : State} (hI : s.Inv) {a b k : Nat} {wo : W32} (h : CommitBit a b k wo) (ha : s.alive = true)
    (hbr : s.bridges .pith a = true) :
    s.doCommit true a k = .next ((s.commit1 .pith a k).endWith (s.commit1 .pith a k).regs s) := by
  obtain ⟨h4, hm, hn, hc, hr, hb, hk, hw⟩ := h
  obtain ⟨hq, hx⟩ := State.write_commit hI (path := .pith) ⟨h4, hm, hn, hc, hr⟩ hb (s.recHides_pith a) (w32 (2 ^ k)) (w32 (2 ^ k))
  refine (s.doWrite_eq _ _ ha hbr rfl).trans ?_
  rw [hq, hx, s.commits_one .pith a k _ hw hk]

theorem snapshots_of {c : Instr} {a b k : Nat} {wo : W32} (hc : ∀ s, exec c s = s.doCommit true a k) (h : CommitBit a b k wo)
    (hg : gatePoint a k = none) : Snapshots c a k := by
  intro s hI ha hbr hon r
  rw [hc s, State.doCommit_eq hI h ha hbr, s.commit1_waits hon hg]

theorem twigCommit_bit : ∀ e < 64, CommitBit (0x0A000FFC + 0x40000 * e) 10 0 1#32 ∧ gatePoint (0x0A000FFC + 0x40000 * e) 0 = none := by
  decide

theorem rootletCommit_bit : ∀ d < 24, CommitBit (0x0F000FFC + 0x80000 * d) 15 0 1#32
    ∧ gatePoint (0x0F000FFC + 0x80000 * d) 0 = none := by
  decide

/-- Settles O19: the table gives each COMMIT register its bits, and one argument does for all. -/
theorem commitsTakeSnapshots : Obligations.CommitsTakeSnapshots := by
  refine ⟨?_, ?_, ?_, ?_, fun e he => ?_, ?_, ?_, ?_, ?_, ?_, ?_, ?_, ?_, ?_, ?_, ?_, fun d hd => ?_, ?_, ?_, ?_, ?_⟩
  · exact snapshots_of (b := 16) (wo := 3#32) (fun _ => rfl) (by decide) rfl
  · exact snapshots_of (b := 16) (wo := 3#32) (fun _ => rfl) (by decide) rfl
  · exact snapshots_of (b := 9) (wo := 1#32) (fun _ => rfl) (by decide) rfl
  · exact snapshots_of (b := 8) (wo := 1#32) (fun _ => rfl) (by decide) rfl
  · obtain ⟨h, hg⟩ := twigCommit_bit e he
    refine snapshots_of (fun s => ?_) h hg
    show s.doCommit (engineIndex e) (twigBase e + 0xFFC) 0 = _
    rw [show engineIndex e = true from decide_eq_true he,
      show twigBase e + 0xFFC = 0x0A000FFC + 0x40000 * e by unfold twigBase; omega]
  · exact snapshots_of (b := 7) (wo := 1#32) (fun _ => rfl) (by decide) rfl
  · exact snapshots_of (b := 6) (wo := 1#32) (fun _ => rfl) (by decide) rfl
  · exact snapshots_of (b := 11) (wo := 3#32) (fun _ => rfl) (by decide) rfl
  · exact snapshots_of (b := 11) (wo := 3#32) (fun _ => rfl) (by decide) rfl
  · exact snapshots_of (b := 13) (wo := 1#32) (fun _ => rfl) (by decide) rfl
  · exact snapshots_of (b := 12) (wo := 1#32) (fun _ => rfl) (by decide) rfl
  · exact snapshots_of (b := 14) (wo := 1#32) (fun _ => rfl) (by decide) rfl
  · exact snapshots_of (b := 19) (wo := 3#32) (fun _ => rfl) (by decide) rfl
  · exact snapshots_of (b := 19) (wo := 3#32) (fun _ => rfl) (by decide) rfl
  · exact snapshots_of (b := 18) (wo := 3#32) (fun _ => rfl) (by decide) rfl
  · exact snapshots_of (b := 18) (wo := 3#32) (fun _ => rfl) (by decide) rfl
  · obtain ⟨h, hg⟩ := rootletCommit_bit d hd
    refine snapshots_of (fun s => ?_) h hg
    show s.doCommit (driveIndex d) (rootBase d + 0xFFC) 0 = _
    rw [show driveIndex d = true from decide_eq_true hd,
      show rootBase d + 0xFFC = 0x0F000FFC + 0x80000 * d by unfold rootBase; omega]
  · exact snapshots_of (b := 2) (wo := 3#32) (fun _ => rfl) (by decide) rfl
  · exact snapshots_of (b := 2) (wo := 3#32) (fun _ => rfl) (by decide) rfl
  · exact snapshots_of (b := 4) (wo := 3#32) (fun _ => rfl) (by decide) rfl
  · exact snapshots_of (b := 4) (wo := 3#32) (fun _ => rfl) (by decide) rfl

/-! ### Gate lists (R254) -/

/-- The COMMIT register of a port's gates and the event of its rejection. -/
theorem gateCommit_bits : ∀ n < 40, CommitBit (portBase (pointOf (n / 4) 0) + 0xFFC) 20 (n % 4) 0xF#32 := by
  decide

theorem gateCommit_bit (port sub : Nat) (hp : port < 10) (hs : sub < 4) :
    CommitBit (portBase (pointOf port 0) + 0xFFC) 20 sub 0xF#32 := by
  have h := gateCommit_bits (4 * port + sub) (by omega)
  rwa [show (4 * port + sub) / 4 = port by omega, show (4 * port + sub) % 4 = sub by omega] at h

theorem gateCommit_point : ∀ port < 10, ∀ sub < 4, (port < 8 ∨ sub = 0) →
    gatePoint (portBase (pointOf port 0) + 0xFFC) sub = some (pointOf port sub)
      ∧ rejectEvent (portBase (pointOf port 0) + 0xFFC) sub = some (12 + port, 16 + sub) := by
  decide

/-- A gate list that keeps the rule waits for its first cycle start. -/
theorem State.commit1_gateWaits (s : State) {path : Path} {a k p : Nat} (hon : s.blockOn a = true) (hg : gatePoint a k = some p)
    (hok : s.groupOk a k (s.regs.merge (s.regs.snapshot a k)) = true) :
    let r := { s.regs with snaps := NMap.set s.regs.snaps (a * 8 + k) { path := path, vals := s.regs.snapshot a k } }
    let l := gateListOf (s.regs.merge (s.regs.snapshot a k)) p
    s.commit1 path a k = State.setPort { s with regs := r } p
      { s.port p with next := some (l, l.elim s.tbNs fun g => g.firstStart s.tbNs) } := by
  intro r l
  have hq : s.commitRegs path a k = r := by
    unfold State.commitRegs isGate
    dsimp only
    rw [hon, hg, hok]
    rfl
  unfold State.commit1 State.commitFx
  dsimp only
  rw [hq, hon, hg, hok]
  rfl

/-- One that breaks it is rejected at once. -/
theorem State.commit1_gateRejected (s : State) {path : Path} {a k p : Nat} {e : Nat × Nat} (hon : s.blockOn a = true)
    (hg : gatePoint a k = some p) (hok : s.groupOk a k (s.regs.merge (s.regs.snapshot a k)) = false)
    (he : rejectEvent a k = some e) :
    s.commit1 path a k = State.raise0 e.1 e.2
      { s with regs := ({ s.regs with snaps := NMap.erase s.regs.snaps (a * 8 + k) } : Regs).violate a path 2 } := by
  have hr : s.applyRegs a k path (s.regs.snapshot a k)
      = ({ s.regs with snaps := NMap.erase s.regs.snaps (a * 8 + k) } : Regs).violate a path 2 := by
    unfold State.applyRegs
    rw [hok]
    rfl
  have hq : s.commitRegs path a k = ({ s.regs with snaps := NMap.erase s.regs.snaps (a * 8 + k) } : Regs).violate a path 2 := by
    unfold State.commitRegs isGate
    dsimp only
    rw [hon, hg, hok]
    exact hr
  have hx : s.commitFx path a k s = State.raise0 e.1 e.2 { s with regs := s.applyRegs a k path (s.regs.snapshot a k) } := by
    unfold State.commitFx State.applyFx
    dsimp only
    rw [hon, hg, hok, he]
    rfl
  unfold State.commit1
  rw [hx, hq, hr]
  exact State.with_regs_eq (still_raise0 _ _ _).regs

/-- The end of a command keeps what the command kept. -/
theorem Still.endWith_of {v u : State} (h : Still v u) (s : State) (hp : v.pending = s.pending) :
    Still v (u.endWith u.regs s) :=
  Still.trans (b := { u with regs := u.regs, pending := s.pending }) { h with pending := hp.symm } (Still.endWith u s u.regs)

/-- What a command leaves that changes the register file and raises a source. -/
theorem State.raised_endWith (s : State) (g b : Nat) (q : Regs) :
    let t := (State.raise0 g b { s with regs := q }).endWith (State.raise0 g b { s with regs := q }).regs s
    t.regs = q ∧ Still { s with regs := q } t ∧ (t.src (evSrc g b)).pend = true := by
  intro t
  have hr := still_raise0 g b { s with regs := q }
  have ht := hr.endWith_of s rfl
  exact ⟨ht.regs, ht, ((Calm.refl _).endWith _ s).pend _ (State.pend_raise0_same _ _ _)⟩

/-- Settles O20. -/
theorem gateCommits : Obligations.GateCommits := by
  refine ⟨fun s port sub hI ha hp hs => ?_, fun s port sub hI ha hp hs => ?_, fun s p l at_ hp hn ht => ?_⟩
  · intro p a vals l r hb hon hok
    have hs4 : sub < 4 := by split at hs <;> omega
    have hc := gateCommit_bit port sub hp hs4
    obtain ⟨hg, -⟩ := gateCommit_point port hp sub hs4 (by split at hs <;> omega)
    have ho : (port < 10 && (if port < 8 then sub < 4 else sub == 0)) = true := by
      split at hs <;> simp_all
    show s.doCommit _ _ _ = _
    rw [ho, State.doCommit_eq hI hc ha hb, s.commit1_gateWaits hon hg hok]
    rfl
  · intro p a hb hon hok
    have hs4 : sub < 4 := by split at hs <;> omega
    have hc := gateCommit_bit port sub hp hs4
    obtain ⟨hg, he⟩ := gateCommit_point port hp sub hs4 (by split at hs <;> omega)
    have ho : (port < 10 && (if port < 8 then sub < 4 else sub == 0)) = true := by
      split at hs <;> simp_all
    have hx : exec (.fmacCommitGate port sub) s = s.doCommit (port < 10 && (if port < 8 then sub < 4 else sub == 0)) a sub := rfl
    rw [ho, State.doCommit_eq hI hc ha hb, s.commit1_gateRejected hon hg hok he] at hx
    obtain ⟨hr, ht, he⟩ := s.raised_endWith (12 + port) (16 + sub)
      (({ s.regs with snaps := NMap.erase s.regs.snaps (a * 8 + sub) } : Regs).violate a .pith 2)
    refine ⟨_, hx, ?_⟩
    dsimp only
    rw [hr]
    exact ⟨rfl, rfl, ht.ports, rfl, rfl, he⟩
  · intro c u r r'
    dsimp only [exec]
    unfold execGateListSwap State.gateSwap
    rw [hn]
    refine actR_true ?_ _ _ _
    rw [show linkPoint p = true from decide_eq_true hp, Bool.true_and, Bool.or_eq_true]
    exact ht.imp id fun h => decide_eq_true h

end Sys2Proof.Machine
end

section
/-!
PROOFS. Register writes that other chapters name: CLASS of a port, Pith's registers, pins, drives, JOIN, write-one clears
(spec/10, spec/13, spec/14, spec/15, spec/19).
-/

namespace Sys2Proof.Machine

open Sys2Proof

/-! ### Masked writes -/

theorem bits_eq_extract (w : W32) (hi lo : Nat) : bits w hi lo = (w.extractLsb' lo (hi + 1 - lo)).toNat := by
  unfold bits
  rw [BitVec.extractLsb'_toNat, Nat.shiftRight_eq_div_pow]

/-- A field depends on its own bits only. -/
theorem bits_congr {w v : W32} {hi lo : Nat} (h : ∀ i, lo ≤ i → i ≤ hi → w.getLsbD i = v.getLsbD i) : bits w hi lo = bits v hi lo := by
  rw [bits_eq_extract, bits_eq_extract]
  refine congrArg BitVec.toNat (BitVec.eq_of_getLsbD_eq fun i hi' => ?_)
  rw [BitVec.getLsbD_extractLsb', BitVec.getLsbD_extractLsb', h _ (by omega) (by omega)]

/-- The word that a masked write asks for. -/
def mergeWord (old data mask : W32) : W32 := (old &&& ~~~mask) ||| (data &&& mask)

theorem getLsbD_mergeWord (old data mask : W32) {i : Nat} (hi : i < 32) :
    (mergeWord old data mask).getLsbD i = if mask.getLsbD i then data.getLsbD i else old.getLsbD i := by
  unfold mergeWord
  simp only [BitVec.getLsbD_or, BitVec.getLsbD_and, BitVec.getLsbD_not, hi, decide_true, Bool.true_and]
  cases mask.getLsbD i <;> simp

/-- A mask that holds only class S and L bits. -/
def RegDef.Covers (d : RegDef) (mask : W32) : Prop := d.c = 0#32 ∧ ∀ i < 32, mask.getLsbD i = true → (d.s ||| d.l).getLsbD i = true

theorem RegDef.Covers.rwWord {d : RegDef} {mask : W32} (hd : d.Covers mask) {s : State} {a h : Nat} (hh : s.home? a = some h)
    (act : Bool) : s.rwWord a d act = s.reg h &&& (d.s ||| d.l) := by
  unfold State.rwWord
  rw [hh]
  dsimp only
  rw [hd.1, BitVec.and_zero, BitVec.or_zero]

theorem RegDef.Covers.written {d : RegDef} {mask : W32} (hd : d.Covers mask) {s : State} {a b o h : Nat} (hh : s.home? a = some h)
    (hc : canon a = some (b, o)) (h26 : (some (b, o) == some (26, 8)) = false) (data : W32) :
    s.written a d data mask = mergeWord (s.reg h) data mask &&& (d.s ||| d.l) := by
  unfold State.written RegDef.rw
  rw [hd.rwWord hh, hc, h26, hd.1, BitVec.or_zero, if_neg (by decide)]
  refine BitVec.eq_of_getLsbD_eq fun i hi => ?_
  simp only [BitVec.getLsbD_and, getLsbD_mergeWord _ _ _ hi, BitVec.getLsbD_or, BitVec.getLsbD_not, hi, decide_true, Bool.true_and]
  cases mask.getLsbD i <;> cases d.s.getLsbD i <;> cases d.l.getLsbD i <;> simp

theorem RegDef.Covers.plainRegs {d : RegDef} {mask : W32} (hd : d.Covers mask) {s : State} {a b o h : Nat}
    (hr : regAt a = some d) (hh : s.home? a = some h)
    (hc : canon a = some (b, o)) (h26 : (some (b, o) == some (26, 8)) = false) (data : W32) :
    s.plainRegs a data mask = s.regs.put h (mergeWord (s.reg h) data mask) := by
  unfold State.plainRegs
  rw [hr, hh]
  dsimp only
  rw [hd.written hh hc h26, hd.1, if_pos (by decide)]
  refine congrArg (s.regs.put h) (BitVec.eq_of_getLsbD_eq fun i hi => ?_)
  have hm := hd.2 i hi
  simp only [BitVec.getLsbD_and, getLsbD_mergeWord _ _ _ hi, BitVec.getLsbD_or, BitVec.getLsbD_not, hi, decide_true,
    Bool.true_and] at hm ⊢
  cases hk : mask.getLsbD i
  · cases s.reg h |>.getLsbD i <;> cases d.s.getLsbD i <;> cases d.l.getLsbD i <;> simp
  · rw [hk] at hm
    rw [hm rfl]
    simp

/-! ### CLASS of a port (R245) -/

/-- FMAC_SUB_CFG of a sub-port, EAST or WEST. -/
def subCfgDef : RegDef := ⟨0x1000, 0xFAC688#32, 0#32, 0#32, 0xC7FFFFFF#32, 0#32, 0#32, 0#32⟩

/-- MMAC_CTRL. -/
def mmacCtrlDef : RegDef := ⟨0, 2#32, 0xD#32, 0#32, 0x1F0302#32, 0#32, 0#32, 0#32⟩

theorem subCfg_table : ∀ p < 34, subBase p % 4 = 0 ∧ inMap (subBase p) = true ∧ (blockOf (subBase p) == 26) = false
    ∧ canon (subBase p) = some (20, 0x1000) ∧ regAt (subBase p) = some subCfgDef ∧ gateSub (subBase p) = some p := by
  decide

theorem subCfg_here {p : Nat} (hp : p < 34) : RegHere (subBase p) 20 0x1000 subCfgDef := by
  obtain ⟨h4, hm, hn, hc, hr, -⟩ := subCfg_table p hp
  exact ⟨h4, hm, hn, hc, hr⟩

theorem mmacCtrl_here : RegHere 0x16000000 22 0 mmacCtrlDef := ⟨by decide, by decide, by decide, by decide, by decide⟩

theorem subCfg_covers : subCfgDef.Covers (w32 (3 * 2 ^ 30)) := ⟨rfl, by decide⟩

theorem mmacCtrl_covers : mmacCtrlDef.Covers (w32 (3 * 2 ^ 8)) := ⟨rfl, by decide⟩

theorem State.home?_subBase (s : State) {p : Nat} (hp : p < 34) : s.home? (subBase p) = some (subBase p) := by
  unfold State.home?
  rw [(subCfg_here hp).canon]
  rfl

theorem classField_subBase {p : Nat} (hp : p < 34) : classField (subBase p) = some (p, 30) := by
  obtain ⟨-, -, -, hc, -, hg⟩ := subCfg_table p hp
  unfold classField
  rw [hc, hg]
  rfl

/-- The field that a masked write asks for. -/
theorem bits_mergeWord_field (old data k mask : W32) {hi lo : Nat} (hl : hi < 32)
    (h : ∀ i, lo ≤ i → i ≤ hi → mask.getLsbD i = true ∧ k.getLsbD i = true) :
    bits (mergeWord old data mask &&& k) hi lo = bits data hi lo := by
  refine bits_congr fun i h1 h2 => ?_
  obtain ⟨hm, hk⟩ := h i h1 h2
  rw [BitVec.getLsbD_and, getLsbD_mergeWord _ _ _ (by omega), hm, hk, Bool.and_true]
  rfl

theorem bits_mergeWord_here (old data mask : W32) {hi lo : Nat} (hl : hi < 32)
    (h : ∀ i, lo ≤ i → i ≤ hi → mask.getLsbD i = true) : bits (mergeWord old data mask) hi lo = bits data hi lo := by
  refine bits_congr fun i h1 h2 => ?_
  rw [getLsbD_mergeWord _ _ _ (by omega), h i h1 h2]
  rfl

theorem bits_mergeWord_other (old data mask : W32) {hi lo : Nat} (hl : hi < 32)
    (h : ∀ i, lo ≤ i → i ≤ hi → mask.getLsbD i = false) : bits (mergeWord old data mask) hi lo = bits old hi lo := by
  refine bits_congr fun i h1 h2 => ?_
  rw [getLsbD_mergeWord _ _ _ (by omega), h i h1 h2]
  rfl

theorem bits_class_sub : ∀ c : BitVec 2, bits (w32 (c.toNat * 2 ^ 30)) 31 30 = c.toNat := by decide

theorem bits_class_mmac : ∀ c : BitVec 2, bits (w32 (c.toNat * 2 ^ 8)) 9 8 = c.toNat := by decide

/-- A write of CLASS writes all of it. -/
theorem subClass_mask (i : Nat) (h1 : 30 ≤ i) (h2 : i ≤ 31) : (w32 (3 * 2 ^ 30)).getLsbD i = true := by
  rcases (by omega : i = 30 ∨ i = 31) with rfl | rfl <;> decide

theorem mmacClass_mask (i : Nat) (h1 : 8 ≤ i) (h2 : i ≤ 9) : (w32 (3 * 2 ^ 8)).getLsbD i = true := by
  rcases (by omega : i = 8 ∨ i = 9) with rfl | rfl <;> decide

/-- CLASS as written. -/
theorem State.class_written_sub (s : State) {p : Nat} (hp : p < 34) (c : BitVec 2) :
    bits (s.written (subBase p) subCfgDef (w32 (c.toNat * 2 ^ 30)) (w32 (3 * 2 ^ 30))) 31 30 = c.toNat := by
  rw [subCfg_covers.written (s.home?_subBase hp) (subCfg_here hp).canon rfl,
    bits_mergeWord_field _ _ _ _ (by decide) (fun i h1 h2 => by rcases (by omega : i = 30 ∨ i = 31) with rfl | rfl <;> decide), bits_class_sub]

theorem State.class_written_mmac (s : State) (c : BitVec 2) :
    bits (s.written 0x16000000 mmacCtrlDef (w32 (c.toNat * 2 ^ 8)) (w32 (3 * 2 ^ 8))) 9 8 = c.toNat := by
  rw [mmacCtrl_covers.written (h := 0x16000000) rfl mmacCtrl_here.canon rfl,
    bits_mergeWord_field _ _ _ _ (by decide) (fun i h1 h2 => by rcases (by omega : i = 8 ∨ i = 9) with rfl | rfl <;> decide), bits_class_mmac]

/-- Only CLASS decides whether the write of CLASS is refused. -/
theorem State.blockRefuses_subClass (s : State) {p : Nat} (hp : p < 34) (path : Path) (old new wo : W32) :
    s.blockRefuses path (subBase p) old new wo = !classOk p (bits new 31 30) := by
  unfold State.blockRefuses classBad
  rw [classField_subBase hp, (subCfg_here hp).canon]
  exact Bool.or_false _

theorem State.blockRefuses_mmacClass (s : State) (path : Path) (old new wo : W32) :
    s.blockRefuses path 0x16000000 old new wo = !classOk 34 (bits new 9 8) := by
  unfold State.blockRefuses classBad
  rw [show classField 0x16000000 = some (34, 8) from rfl, mmacCtrl_here.canon]
  exact Bool.or_false _

theorem State.wrStatus_subClass (s : State) {p : Nat} (hp : p < 34) (c : BitVec 2) :
    s.wrStatus .pith (subBase p) (w32 (c.toNat * 2 ^ 30)) (w32 (3 * 2 ^ 30)) = if classOk p c.toNat then 0 else 4 := by
  rw [s.wrStatus_noS _ _ (subCfg_here hp) (s.recHides_pith _) rfl, s.blockRefuses_subClass hp, s.class_written_sub hp]
  cases classOk p c.toNat <;> rfl

/-- A masked write keeps the bits outside its mask. -/
theorem xor_mergeWord_and (old data mask k m : W32) (h : ∀ i < 32, mask.getLsbD i = true → m.getLsbD i = false) :
    ((old &&& k) ^^^ (mergeWord old data mask &&& k)) &&& m = 0#32 := by
  refine BitVec.eq_of_getLsbD_eq fun i hi => ?_
  simp only [BitVec.getLsbD_and, BitVec.getLsbD_xor, getLsbD_mergeWord _ _ _ hi, BitVec.getLsbD_zero]
  cases hm : mask.getLsbD i
  · simp
  · rw [h i hi hm, Bool.and_false]

theorem subClass_maskLow : ∀ i < 30, (w32 (3 * 2 ^ 30)).getLsbD i = false := by decide

theorem mmacClass_notS : ∀ i < 32, (w32 (3 * 2 ^ 8)).getLsbD i = true → mmacCtrlDef.s.getLsbD i = false := by
  decide

/-- A write of CLASS leaves the class S fields as they are. -/
theorem State.keepsS_mmacClass (s : State) (c : BitVec 2) :
    (s.rwWord 0x16000000 mmacCtrlDef false
      ^^^ s.written 0x16000000 mmacCtrlDef (w32 (c.toNat * 2 ^ 8)) (w32 (3 * 2 ^ 8))) &&& mmacCtrlDef.s = 0#32 := by
  rw [mmacCtrl_covers.written (h := 0x16000000) rfl mmacCtrl_here.canon rfl, mmacCtrl_covers.rwWord (h := 0x16000000) rfl]
  exact xor_mergeWord_and _ _ _ _ _ mmacClass_notS

theorem State.wrStatus_mmacClass (s : State) (c : BitVec 2) :
    s.wrStatus .pith 0x16000000 (w32 (c.toNat * 2 ^ 8)) (w32 (3 * 2 ^ 8)) = if classOk 34 c.toNat then 0 else 4 := by
  rw [s.wrStatus_eq _ _ mmacCtrl_here (s.recHides_pith _), s.keepsS_mmacClass, s.blockRefuses_mmacClass, s.class_written_mmac]
  cases classOk 34 c.toNat <;> simp

/-! ### What a refused write leaves -/

/-- A refusal whose block raises a source of its own, in a state `w`. -/
theorem State.doWrite_refused {s w : State} {ok : Bool} {path : Path} {a : Nat} {data mask : W32} {g b : Nat}
    (ha : s.alive = true) (hb : s.bridges path a = true) (hok : ok = true) (hst : s.wrStatus path a data mask = 4)
    (hx : ({ s with regs := s.regs.violate a path 3 } : State).refusedFx path a = State.raise0 g b w)
    (hw : w.regs = s.regs.violate a path 3) (hp : w.pending = s.pending) :
    ∃ t, s.doWrite ok path a data mask = .next t ∧ t.regs = s.regs.violate a path 3 ∧ Still w t
      ∧ (t.src (evSrc g b)).pend = true := by
  refine ⟨_, s.doWrite_eq data mask ha hb hok, ?_⟩
  rw [s.newRegs_refused hst, s.write1_refused hst, hx, ← hw]
  have h2 := (still_raise0 g b w).trans (still_raise0 0 0 _)
  have hu : ({ State.raise0 0 0 (State.raise0 g b w) with regs := w.regs } : State) = State.raise0 0 0 (State.raise0 g b w) :=
    State.with_regs_eq h2.regs
  rw [hu]
  have ht := h2.endWith_of s hp
  rw [h2.regs] at ht
  exact ⟨ht.regs, ht, ((calm_raise0 0 0 _).endWith _ s).pend _ (State.pend_raise0_same _ _ _)⟩

theorem exec_portClassWrite_sub (s : State) {p : Nat} (hp : p < 34) (c : BitVec 2) :
    exec (.portClassWrite p c) s = s.doWrite true .pith (subBase p) (w32 (c.toNat * 2 ^ 30)) (w32 (3 * 2 ^ 30)) := by
  have h34 : (p == 34) = false := beq_false_of_ne (by omega)
  show s.doWrite (arrivalPoint p) .pith _ (w32 (c.toNat * 2 ^ _)) (w32 (3 * 2 ^ _)) = _
  rw [h34, show arrivalPoint p = true from decide_eq_true (by omega)]
  rfl

/-- Settles O22. -/
theorem portClassWrites : Obligations.PortClassWrites := by
  refine ⟨fun s p c ha hI hp hb hk => ?_, fun s c ha hI hb hk => ?_, fun s p c ha hI hp hb hk => ?_, fun s c ha hI hb hk => ?_⟩
  · have hst : s.wrStatus .pith (subBase p) (w32 (c.toNat * 2 ^ 30)) (w32 (3 * 2 ^ 30)) = 0 := by rw [s.wrStatus_subClass hp, hk]; rfl
    have hx := exec_portClassWrite_sub s hp c
    have hq : s.newRegs .pith (subBase p) (w32 (c.toNat * 2 ^ 30)) (w32 (3 * 2 ^ 30))
        = s.regs.put (subBase p) (mergeWord (s.reg (subBase p)) (w32 (c.toNat * 2 ^ 30)) (w32 (3 * 2 ^ 30))) := by
      rw [s.newRegs_done (subCfg_here hp) hst rfl,
        ← subCfg_covers.plainRegs (subCfg_here hp).reg (s.home?_subBase hp) (subCfg_here hp).canon rfl]
      unfold State.opRegs
      rw [(subCfg_here hp).canon]
      rfl
    refine ⟨_, hx.trans (s.doWrite_eq _ _ ha hb rfl), ?_⟩
    dsimp only
    unfold State.reg
    rw [State.endWith_regs, hq, Regs.get_put_same _ hI]
    refine ⟨?_, bits_mergeWord_other _ _ _ (by decide) fun i _ h => subClass_maskLow i (by omega)⟩
    exact (bits_mergeWord_here _ _ _ (by decide) subClass_mask).trans (bits_class_sub c)
  · have hst : s.wrStatus .pith 0x16000000 (w32 (c.toNat * 2 ^ 8)) (w32 (3 * 2 ^ 8)) = 0 := by rw [s.wrStatus_mmacClass, hk]; rfl
    have hq : s.newRegs .pith 0x16000000 (w32 (c.toNat * 2 ^ 8)) (w32 (3 * 2 ^ 8))
        = s.regs.put 0x16000000 (mergeWord (s.reg 0x16000000) (w32 (c.toNat * 2 ^ 8)) (w32 (3 * 2 ^ 8))) := by
      rw [s.newRegs_done mmacCtrl_here hst rfl,
        ← mmacCtrl_covers.plainRegs mmacCtrl_here.reg (h := 0x16000000) rfl mmacCtrl_here.canon rfl]
      rfl
    have hx : exec (.portClassWrite 34 c) s = s.doWrite true .pith 0x16000000 (w32 (c.toNat * 2 ^ 8)) (w32 (3 * 2 ^ 8)) := rfl
    refine ⟨_, hx.trans (s.doWrite_eq _ _ ha hb rfl), ?_⟩
    dsimp only
    unfold State.reg
    rw [State.endWith_regs, hq, Regs.get_put_same _ hI]
    exact (bits_mergeWord_here _ _ _ (by decide) mmacClass_mask).trans (bits_class_mmac c)
  · have h34 : (p == 34) = false := beq_false_of_ne (by omega)
    have hst : s.wrStatus .pith (subBase p) (w32 (c.toNat * 2 ^ 30)) (w32 (3 * 2 ^ 30)) = 4 := by rw [s.wrStatus_subClass hp, hk]; rfl
    have hx := exec_portClassWrite_sub s hp c
    obtain ⟨t, ht, hr, hs, he⟩ := State.doWrite_refused (w := { s with regs := s.regs.violate (subBase p) .pith 3 })
      (g := portGroup p) (b := 12 + portSub p) ha hb rfl hst (by
      unfold State.refusedFx State.classRefused
      rw [(subCfg_here hp).canon, classField_subBase hp]
      dsimp only
      rw [h34]
      rfl) rfl rfl
    exact ⟨t, hx.trans ht, by rw [hr]; rfl, by rw [hr]; rfl, hs.ports, by rw [hr]; rfl, he⟩
  · have hst : s.wrStatus .pith 0x16000000 (w32 (c.toNat * 2 ^ 8)) (w32 (3 * 2 ^ 8)) = 4 := by rw [s.wrStatus_mmacClass, hk]; rfl
    obtain ⟨t, ht, hr, hs, he⟩ := State.doWrite_refused (ok := true) (w := { s with regs := s.regs.violate 0x16000000 .pith 3 }) (g := 7) (b := 25) ha hb rfl hst rfl rfl rfl
    exact ⟨t, ht, by rw [hr]; rfl, by rw [hr]; rfl, hs.ports, by rw [hr]; rfl, he⟩

/-! ### Pith's registers (R297, R300, R305) -/

/-- A write of an operation register leaves the register file; its effect is on the state as it was. -/
theorem State.write_op {s : State} (hI : s.Inv) {path : Path} {a b o : Nat} {d : RegDef} (h : RegHere a b o d) (hd : d.OpOnly)
    {data mask : W32} (hst : s.wrStatus path a data mask = 0) (h20 : (some (b, o) == some (20, 0)) = false)
    (ho : (o == 0xFFC) = false) (h1 : (some (b, o) == some (1, 0x10) || some (b, o) == some (1, 0x24)) = false)
    (hop : s.opRegs path a (data &&& mask &&& d.wo) = s.regs) :
    s.newRegs path a data mask = s.regs
      ∧ s.write1 path a data mask = { s.writeFx s path a (s.rwWord a d false) (s.written a d data mask)
            (data &&& mask &&& d.wo) (data &&& mask &&& d.w1c) with regs := s.regs } := by
  have hq : s.newRegs path a data mask = s.regs := by
    rw [s.newRegs_done h hst h20, hd.plainRegs hI h.reg]
    exact hop
  refine ⟨hq, ?_⟩
  rw [s.write1_done h hst, s.writeBase_eq h.canon ho h1, hq]

def wdogDef : RegDef := ⟨8, 0#32, 0#32, 0#32, 0#32, 0#32, 0#32, 1#32⟩
def pithOpDef : RegDef := ⟨0xC, 0#32, 0#32, 0#32, 0#32, 0#32, 0#32, 7#32⟩

theorem wdog_here : RegHere 0x05000008 5 8 wdogDef := ⟨by decide, by decide, by decide, by decide, by decide⟩
theorem pithOp_here : RegHere 0x0500000C 5 0xC pithOpDef := ⟨by decide, by decide, by decide, by decide, by decide⟩

theorem State.wrStatus_wdog (s : State) : s.wrStatus .pith 0x05000008 1#32 1#32 = 0 := by
  rw [s.wrStatus_noS _ _ wdog_here (s.recHides_pith _) rfl]
  rfl

/-- PITH_OP is refused for a rehearsal only. -/
theorem State.wrStatus_pithOp (s : State) (path : Path) (w : W32) (hp : s.recHides path 0x0500000C = false) :
    s.wrStatus path 0x0500000C w w = if bit (w &&& w &&& 7#32) 1 && s.rehearseRefused path then 4 else 0 := by
  rw [s.wrStatus_noS _ _ pithOp_here hp rfl]
  rfl

theorem State.writeFx_pithOp (s u : State) (path : Path) (old new wo ones : W32) :
    s.writeFx u path 0x0500000C old new wo ones
      = let u := if bit wo 0 && u.canPlan then u.plan .operator else u
        let u := if bit wo 1 then u.rehearse path else u
        if bit wo 2 then (u.draw 2).2.rearm ((u.draw 2).1 == 1) else u := rfl

theorem steady_fallBack (s : State) :
    Steady { s with pith := { s.pith.setPair s.pith.standby .cold with take := none, pending := none } } s.fallBack := by
  have hp : (State.raise0 1 4 { s with pith := { s.pith.setPair s.pith.standby .cold with take := none } }).pith
      = { s.pith.setPair s.pith.standby .cold with take := none } := (steady_raise0 1 4 _).pith
  have hr := steady_raise0 1 4 { s with pith := { s.pith.setPair s.pith.standby .cold with take := none } }
  have hf := steady_failPending 0 6 (State.raise0 1 4 { s with pith := { s.pith.setPair s.pith.standby .cold with take := none } })
  rw [hp] at hf
  refine Steady.trans ?_ hf
  exact ⟨⟨hr.calm.pend, hr.calm.ctrl⟩, hr.now, hr.regs, hr.drives, hr.groves, rfl, hr.ring, hr.seed, hr.alertFixed, hr.media,
    hr.fresh, hr.pending⟩

theorem State.plan_cold (s : State) (c : TakeCause) (h : s.pith.pair s.pith.standby = .cold) :
    s.plan c = State.raise0 1 2 { s with pith := { s.pith.setPair s.pith.standby .booting with
        lastCause := c.code, take := some { cause := c, planned := true, phase := .wake, from_ := s.now } } } := by
  unfold State.plan
  rw [h]
  rfl

theorem State.plan_failed (s : State) (c : TakeCause) (h : s.pith.pair s.pith.standby ≠ .cold) : s.plan c = s.fallBack :=
  if_neg fun he => h (eq_of_beq he)

theorem State.regs_plan (s : State) (c : TakeCause) : (s.plan c).regs = s.regs := by
  by_cases h : s.pith.pair s.pith.standby = .cold
  · rw [s.plan_cold c h]
    exact (steady_raise0 1 2 _).regs
  · rw [s.plan_failed c h]
    exact (steady_fallBack s).regs

/-- PITH_OP.TAKEOVER. -/
theorem exec_takeover {s : State} (ha : s.alive = true) (hI : s.Inv) (hb : s.bridges .pith 0x0500000C = true) (hc : s.canPlan = true) :
    exec .takeover s = .next ((s.plan .operator).done s) := by
  have hst : s.wrStatus .pith 0x0500000C 1#32 1#32 = 0 := by
    rw [s.wrStatus_pithOp _ _ (s.recHides_pith _), show bit (1#32 &&& 1#32 &&& 7#32) 1 = false by decide]
    rfl
  obtain ⟨hq, hx⟩ := State.write_op hI pithOp_here ⟨rfl, rfl, rfl⟩ hst rfl rfl rfl rfl
  refine (s.doWrite_eq (ok := true) (path := .pith) 1#32 1#32 ha hb rfl).trans ?_
  rw [hq, hx, s.writeFx_pithOp, show bit (1#32 &&& 1#32 &&& pithOpDef.wo) 0 = true by decide,
    show bit (1#32 &&& 1#32 &&& pithOpDef.wo) 1 = false by decide, show bit (1#32 &&& 1#32 &&& pithOpDef.wo) 2 = false by decide, hc]
  refine congrArg (fun u : State => Host.Outcome.next (u.endWith s.regs s)) ?_
  exact State.with_regs_eq (s.regs_plan .operator)

/-- PITH_OP.REHEARSE that is not refused. -/
theorem exec_rehearse {s : State} {path : Path} (ha : s.alive = true) (hI : s.Inv) (hb : s.bridges path 0x0500000C = true)
    (hi : s.inRecovery = false) (hr : s.rehearseRefused path = false) :
    exec (.rehearse path) s = .next (State.done { s with pith := { s.pith with rehearseAt := some (s.now + 1000000) } } s) := by
  have hst : s.wrStatus path 0x0500000C 2#32 2#32 = 0 := by
    rw [s.wrStatus_pithOp _ _ (State.recHides_running hi _ _), hr, Bool.and_false]
    rfl
  obtain ⟨hq, hx⟩ := State.write_op hI pithOp_here ⟨rfl, rfl, rfl⟩ hst rfl rfl rfl rfl
  refine (s.doWrite_eq (ok := true) 2#32 2#32 ha hb rfl).trans ?_
  rw [hq, hx, s.writeFx_pithOp, show bit (2#32 &&& 2#32 &&& pithOpDef.wo) 0 = false by decide,
    show bit (2#32 &&& 2#32 &&& pithOpDef.wo) 1 = true by decide, show bit (2#32 &&& 2#32 &&& pithOpDef.wo) 2 = false by decide]
  dsimp only
  rw [Bool.false_and, if_neg (by decide), if_pos rfl, if_neg (by decide), State.rehearse, hr]
  rfl

/-- Settles O23. -/
theorem pithRegisterWrites : Obligations.PithRegisterWrites := by
  refine ⟨fun s ha hI hs hb => ?_, fun s ha hI hb hc hp => ?_, fun s ha hI hb hc hp => ?_, fun s path ha hI hb hi hr => ?_,
    fun s path ha hI hb hi hr => ?_⟩
  · obtain ⟨hq, hx⟩ := State.write_op hI wdog_here ⟨rfl, rfl, rfl⟩ s.wrStatus_wdog rfl rfl rfl rfl
    refine (s.doWrite_eq 1#32 1#32 ha hb hs).trans ?_
    rw [hq, hx]
    rfl
  · rw [exec_takeover ha hI hb hc, s.plan_cold .operator hp]
    rfl
  · rw [exec_takeover ha hI hb hc, s.plan_failed .operator hp]
  · exact exec_rehearse ha hI hb hi hr
  · have hst : s.wrStatus path 0x0500000C 2#32 2#32 = 4 := by
      rw [s.wrStatus_pithOp _ _ (State.recHides_running hi _ _), hr]
      rfl
    obtain ⟨t, ht, hq, hs, he⟩ := State.doWrite_refused (ok := true) (g := 1) (b := 8)
      (w := { s with regs := s.regs.violate 0x0500000C path 3, pith := { s.pith with rehearse := 2 } }) ha hb rfl hst (by
        show State.rehearse path _ = _
        unfold State.rehearse
        exact if_pos hr) rfl rfl
    exact ⟨t, ht, hs.pith, by rw [hq]; rfl, by rw [hq]; rfl, he⟩

end Sys2Proof.Machine
end

section
/-!
PROOFS. Write-one clears, and reads with an effect (spec/10: R244, R259; spec/18: R384; spec/19: R391, R399, R403).
-/

namespace Sys2Proof.Machine

open Sys2Proof

/-! ### PEND bits (R391) -/

def pendLoDef : RegDef := ⟨0x1000, 0#32, 0#32, 0#32, 0#32, 0#32, 0xFFFFFFFF#32, 0#32⟩
def pendHiDef : RegDef := ⟨0x1004, 0#32, 0#32, 0#32, 0#32, 0#32, 0xFFFFFFFF#32, 0#32⟩

theorem pend_table : ∀ g < 64, (0x03001000 + 16 * g) % 4 = 0 ∧ inMap (0x03001000 + 16 * g) = true
    ∧ (blockOf (0x03001000 + 16 * g) == 26) = false ∧ canon (0x03001000 + 16 * g) = some (3, 0x1000)
    ∧ regAt (0x03001000 + 16 * g) = some pendLoDef := by
  decide

theorem pendHi_table : ∀ g < 64, (0x03001000 + 16 * g + 4) % 4 = 0 ∧ inMap (0x03001000 + 16 * g + 4) = true
    ∧ (blockOf (0x03001000 + 16 * g + 4) == 26) = false ∧ canon (0x03001000 + 16 * g + 4) = some (3, 0x1004)
    ∧ regAt (0x03001000 + 16 * g + 4) = some pendHiDef := by
  decide

theorem pendLo_here {g : Nat} (hg : g < 64) : RegHere (0x03001000 + 16 * g) 3 0x1000 pendLoDef := by
  obtain ⟨h4, hm, hn, hc, hr⟩ := pend_table g hg
  exact ⟨h4, hm, hn, hc, hr⟩

theorem pendHi_here {g : Nat} (hg : g < 64) : RegHere (0x03001000 + 16 * g + 4) 3 0x1004 pendHiDef := by
  obtain ⟨h4, hm, hn, hc, hr⟩ := pendHi_table g hg
  exact ⟨h4, hm, hn, hc, hr⟩

theorem classField_evt {a o : Nat} (hc : canon a = some (3, o)) (hb : gateSub a = none) : classField a = none := by
  unfold classField
  rw [hc]
  split
  · rename_i h
    exact absurd h (by simp)
  · rw [hb]
    rfl
  · rfl

theorem gateSub_evt {a : Nat} (hb : blockOf a = 3) : gateSub a = none := by
  unfold gateSub
  dsimp only
  rw [hb]
  rfl

theorem State.writeFx_evt (s u : State) {path : Path} {a o : Nat} (hc : canon a = some (3, o)) (old new wo ones : W32) :
    s.writeFx u path a old new wo ones
      = if o == 0x1000 then u.clearPend (a % 0x1000 / 16) false ones
        else if o == 0x1004 then u.clearPend (a % 0x1000 / 16) true ones else u.redeliver := by
  unfold State.writeFx
  rw [hc]
  rfl

theorem State.wrStatus_evt (s : State) {a o : Nat} {d : RegDef} (h : RegHere a 3 o d) (hs : d.s = 0#32) (hb : blockOf a = 3)
    (data mask : W32) : s.wrStatus .pith a data mask = 0 := by
  have hr : ∀ old new wo, s.blockRefuses .pith a old new wo = false := fun old new wo => by
    unfold State.blockRefuses classBad
    rw [classField_evt h.canon (gateSub_evt hb), h.canon]
    rfl
  rw [s.wrStatus_noS data mask h (s.recHides_pith a) hs, hr]
  rfl

/-- A write of ones to the PEND bits of a group clears those. -/
theorem State.write1_pendLo {s : State} (hI : s.Inv) {g : Nat} (hg : g < 64) (w : W32) :
    s.write1 .pith (0x03001000 + 16 * g) w 0xFFFFFFFF#32 = s.clearPend g false w := by
  have h := pendLo_here hg
  have hst := s.wrStatus_evt h rfl (by unfold blockOf; omega) w 0xFFFFFFFF#32
  obtain ⟨-, hx⟩ := State.write_op hI h ⟨rfl, rfl, rfl⟩ hst rfl rfl rfl (by unfold State.opRegs; rw [h.canon]; rfl)
  have ho : w &&& 0xFFFFFFFF#32 &&& pendLoDef.w1c = w := (and_ones _).trans (and_ones _)
  rw [hx, ho, s.writeFx_evt s h.canon, if_pos (by decide), show (0x03001000 + 16 * g) % 0x1000 / 16 = g by omega]
  rfl

theorem State.write1_pendHi {s : State} (hI : s.Inv) {g : Nat} (hg : g < 64) (w : W32) :
    s.write1 .pith (0x03001000 + 16 * g + 4) w 0xFFFFFFFF#32 = s.clearPend g true w := by
  have h := pendHi_here hg
  have hst := s.wrStatus_evt h rfl (by unfold blockOf; omega) w 0xFFFFFFFF#32
  obtain ⟨-, hx⟩ := State.write_op hI h ⟨rfl, rfl, rfl⟩ hst rfl rfl rfl (by unfold State.opRegs; rw [h.canon]; rfl)
  have ho : w &&& 0xFFFFFFFF#32 &&& pendHiDef.w1c = w := (and_ones _).trans (and_ones _)
  rw [hx, ho, s.writeFx_evt s h.canon, if_neg (by decide), if_pos (by decide), show (0x03001000 + 16 * g + 4) % 0x1000 / 16 = g by omega]
  rfl

/-! ### The sources after a clear -/

/-- A source cleared. -/
def Src.cleared (x : Src) : Src := { x with pend := false, raises := 0, told := false }

theorem bit_eq_getLsbD (w : W32) (i : Nat) : bit w i = w.getLsbD i := by
  unfold bit
  rw [BitVec.getLsbD, Nat.testBit_eq_decide_div_mod_eq]
  rfl

theorem NMap.get?_mapVals {α : Type} (f : Nat → α → α) (m : NMap α) (k : Nat) :
    NMap.get? (m.map fun p => (p.1, f p.1 p.2)) k = (NMap.get? m k).map (f k) := by
  induction m with
  | nil => rfl
  | cons p m ih =>
    show (if p.1 == k then some (f p.1 p.2) else NMap.get? (m.map fun p => (p.1, f p.1 p.2)) k)
      = (if p.1 == k then some p.2 else NMap.get? m k).map (f k)
    by_cases h : p.1 = k
    · rw [if_pos (beq_iff_eq.2 h), if_pos (beq_iff_eq.2 h), h]
      rfl
    · rw [if_neg (by simpa using h), if_neg (by simpa using h), ih]

/-- Does a clear of a half of a group reach source `n`? -/
def clearHits (g : Nat) (hi : Bool) (ones : W32) (n : Nat) : Bool :=
  let off := if hi then 32 else 0
  n / 64 == g && off ≤ n % 64 && n % 64 < off + 32 && bit ones (n % 64 - off)

theorem State.src_clearPend (g : Nat) (hi : Bool) (ones : W32) (s : State) (n : Nat) :
    (s.clearPend g hi ones).src n = if clearHits g hi ones n then (s.src n).cleared else s.src n := by
  have hm : (s.clearPend g hi ones).evt
      = s.evt.map fun p => (p.1, if clearHits g hi ones p.1 then p.2.cleared else p.2) := by
    refine List.map_congr_left fun p _ => ?_
    show (if clearHits g hi ones p.1 = true then (p.1, p.2.cleared) else p) = _
    split <;> rfl
  unfold State.src NMap.getD
  rw [hm, NMap.get?_mapVals fun k (x : Src) => if clearHits g hi ones k then x.cleared else x]
  cases NMap.get? s.evt n with
  | none =>
    dsimp only [Option.map]
    cases clearHits g hi ones n <;> rfl
  | some x => rfl

/-- The two halves of a group make the whole. -/
theorem clearHits_halves (g : Nat) (ones : W64) (n : Nat) :
    (clearHits g false (ones.setWidth 32) n || clearHits g true (w32 (ones.toNat / 2 ^ 32)) n)
      = decide (n / 64 = g ∧ ones.getLsbD (n % 64) = true) := by
  have hhi : ∀ k < 32, (w32 (ones.toNat / 2 ^ 32)).getLsbD k = ones.getLsbD (k + 32) := fun k hk => by
    unfold w32
    rw [BitVec.getLsbD_ofNat, decide_eq_true hk, Bool.true_and, Nat.testBit_div_two_pow]
    rfl
  unfold clearHits
  dsimp only
  rw [bit_eq_getLsbD, bit_eq_getLsbD, if_neg (by decide), if_pos rfl]
  by_cases hg : n / 64 = g
  · by_cases hl : n % 64 < 32
    · have h : ¬ 32 ≤ n % 64 := by omega
      simp [hg, hl, h]
    · have h : 32 ≤ n % 64 := by omega
      have h2 : n % 64 < 64 := Nat.mod_lt _ (by decide)
      rw [hhi (n % 64 - 32) (by omega), Nat.sub_add_cancel h]
      simp [hg, hl, h, h2]
  · simp [hg]

/-- EVT_PEND_LO and EVT_PEND_HI of a group written with ones. -/
theorem State.src_pendClear (s : State) (g : Nat) (ones : W64) (n : Nat) :
    ((s.clearPend g false (ones.setWidth 32)).clearPend g true (w32 (ones.toNat / 2 ^ 32))).src n
      = if n / 64 = g ∧ ones.getLsbD (n % 64) = true then (s.src n).cleared else s.src n := by
  have h := clearHits_halves g ones n
  rw [State.src_clearPend, State.src_clearPend]
  cases hl : clearHits g false (ones.setWidth 32) n <;> cases hh : clearHits g true (w32 (ones.toNat / 2 ^ 32)) n <;>
    rw [hl, hh] at h <;> simp_all [Src.cleared]

theorem exec_eventPendClear {s : State} (ha : s.alive = true) (hI : s.Inv) {g : Nat} (hg : g < 64)
    (hb : s.bridges .pith (0x03001000 + 16 * g) = true) (ones : W64) :
    exec (.eventPendClear g ones) s
      = .next (((s.clearPend g false (ones.setWidth 32)).clearPend g true (w32 (ones.toNat / 2 ^ 32))).endWith s.regs s) := by
  have hI2 : (s.clearPend g false (ones.setWidth 32)).Inv := hI
  dsimp only [exec]
  unfold execEventPendClear
  dsimp only
  rw [State.write1_pendLo hI hg, State.write1_pendHi hI2 hg]
  exact actR_true (by rw [ha, hb, decide_eq_true hg]; rfl) _ _ _

/-! ### Engine counters (R399) -/

def engCfgDef : RegDef := ⟨0x210, 0#32, 0#32, 0#32, 0xE30000FF#32, 0#32, 0x400000#32, 0x800000#32⟩

theorem engCfg_table : ∀ n < 6, (0x04000210 + 0x10 * n) % 4 = 0 ∧ inMap (0x04000210 + 0x10 * n) = true
    ∧ (blockOf (0x04000210 + 0x10 * n) == 26) = false ∧ canon (0x04000210 + 0x10 * n) = some (4, 0x210)
    ∧ regAt (0x04000210 + 0x10 * n) = some engCfgDef ∧ engNo (0x04000210 + 0x10 * n) = n := by
  decide

theorem engCfg_here {n : Nat} (hn : n < 6) : RegHere (0x04000210 + 0x10 * n) 4 0x210 engCfgDef := by
  obtain ⟨h4, hm, hn, hc, hr, -⟩ := engCfg_table n hn
  exact ⟨h4, hm, hn, hc, hr⟩

theorem clear_not_kept : ∀ i < 32, (0x00800000#32).getLsbD i = true → engCfgDef.l.getLsbD i = false := by decide

/-- CLEAR is no bit that the register keeps. -/
theorem State.written_engClear (s : State) {n : Nat} (hn : n < 6) :
    s.written (0x04000210 + 0x10 * n) engCfgDef 0x00800000#32 0x00800000#32 = s.rwWord (0x04000210 + 0x10 * n) engCfgDef false := by
  have hh : s.home? (0x04000210 + 0x10 * n) = some (virt (0x04000210 + 0x10 * n) (s.fld 0x04000200 5 0)) := by
    unfold State.home?
    rw [(engCfg_here hn).canon]
    rfl
  have hw : s.rwWord (0x04000210 + 0x10 * n) engCfgDef false
      = s.reg (virt (0x04000210 + 0x10 * n) (s.fld 0x04000200 5 0)) &&& engCfgDef.l := by
    unfold State.rwWord
    rw [hh]
    show (_ &&& (0#32 ||| engCfgDef.l)) ||| (_ &&& 0#32) = _
    rw [BitVec.and_zero, BitVec.or_zero, BitVec.zero_or]
  unfold State.written
  rw [(engCfg_here hn).canon, hw]
  generalize s.reg (virt (0x04000210 + 0x10 * n) (s.fld 0x04000200 5 0)) = w
  show mergeWord (w &&& engCfgDef.l) 0x00800000#32 0x00800000#32 &&& (0#32 ||| engCfgDef.l ||| 0#32) = _
  rw [BitVec.zero_or, BitVec.or_zero]
  refine BitVec.eq_of_getLsbD_eq fun i hi => ?_
  rw [BitVec.getLsbD_and, getLsbD_mergeWord _ _ _ hi, BitVec.getLsbD_and]
  have h := clear_not_kept i hi
  generalize (0x00800000#32).getLsbD i = m at h
  cases m
  · simp
  · rw [h rfl]
    simp

theorem State.plainRegs_engClear {s : State} (hI : s.Inv) {n : Nat} (hn : n < 6) :
    s.plainRegs (0x04000210 + 0x10 * n) 0x00800000#32 0x00800000#32 = s.regs := by
  have hh : s.home? (0x04000210 + 0x10 * n) = some (virt (0x04000210 + 0x10 * n) (s.fld 0x04000200 5 0)) := by
    unfold State.home?
    rw [(engCfg_here hn).canon]
    rfl
  unfold State.plainRegs
  rw [(engCfg_here hn).reg, hh]
  dsimp only
  rw [s.written_engClear hn, State.rwWord, hh, if_pos (by decide)]
  dsimp only
  generalize virt (0x04000210 + 0x10 * n) (s.fld 0x04000200 5 0) = v
  refine Eq.trans ?_ (Regs.put_get _ hI v)
  refine congrArg (s.regs.put v) ?_
  show (s.reg v &&& ~~~(0#32 ||| engCfgDef.l)) ||| (((s.reg v &&& (0#32 ||| engCfgDef.l)) ||| (_ &&& 0#32)) &&& (0#32 ||| engCfgDef.l)) = s.reg v
  rw [BitVec.zero_or, BitVec.and_zero, BitVec.or_zero]
  generalize s.reg v = w
  refine BitVec.eq_of_getLsbD_eq fun i hi => ?_
  simp only [BitVec.getLsbD_or, BitVec.getLsbD_and, BitVec.getLsbD_not, hi, decide_true, Bool.true_and]
  cases w.getLsbD i <;> cases engCfgDef.l.getLsbD i <;> rfl

/-- CLEAR of an engine counter. -/
theorem State.write1_engClear (s : State) (hI : s.Inv) {n : Nat} (hn : n < 6) :
    s.newRegs .pith (0x04000210 + 0x10 * n) 0x00800000#32 0x00800000#32 = s.regs
      ∧ s.write1 .pith (0x04000210 + 0x10 * n) 0x00800000#32 0x00800000#32
        = s.engStart s.engSel n (NMap.erase s.tally.eng (s.engSel * 8 + n)) := by
  have h := engCfg_here hn
  obtain ⟨-, -, -, -, -, he⟩ := engCfg_table n hn
  have hcf : classField (0x04000210 + 0x10 * n) = none := by
    unfold classField
    rw [h.canon]
    rfl
  have hst : s.wrStatus .pith (0x04000210 + 0x10 * n) 0x00800000#32 0x00800000#32 = 0 := by
    have hr : ∀ old new wo, s.blockRefuses .pith (0x04000210 + 0x10 * n) old new wo = false := fun old new wo => by
      unfold State.blockRefuses classBad
      rw [hcf, h.canon]
      rfl
    rw [s.wrStatus_noS _ _ h (s.recHides_pith _) rfl, hr]
    rfl
  have hq : s.newRegs .pith (0x04000210 + 0x10 * n) 0x00800000#32 0x00800000#32 = s.regs := by
    rw [s.newRegs_done h hst rfl, State.plainRegs_engClear hI hn]
    unfold State.opRegs
    rw [h.canon]
    rfl
  refine ⟨hq, ?_⟩
  rw [s.write1_done h hst, s.writeBase_eq h.canon rfl rfl, hq, s.written_engClear hn]
  unfold State.writeFx
  rw [h.canon]
  have hb : bit (0x00800000#32 &&& 0x00800000#32 &&& engCfgDef.wo) 23 = true := by decide
  have hz : bit (0x00800000#32 &&& 0x00800000#32 &&& engCfgDef.w1c) 22 = false := by decide
  dsimp only
  rw [hb, hz, he]
  simp only [beq_self_eq_true, if_true]
  rfl

/-! ### Reads with an effect -/

theorem State.doRead_eq (s : State) {ok : Bool} {a : Nat} (ha : s.alive = true) (hb : s.bridges .pith a = true) (hok : ok = true) :
    s.doRead ok a = .next (({ s.read1 a with readData := s.readVal .pith a } : State).endWith (s.readRegs a) s) :=
  actR_true (by rw [ha, hb, hok]; rfl) _ _ _

/-- A register without partners, other than TALLY_RD_DATA, leaves the register file. -/
theorem State.readRegs_plain (s : State) {a : Nat} (hp : s.partners a = []) (ha : (a == 0x04000024) = false) : s.readRegs a = s.regs := by
  unfold State.readRegs
  rw [hp, ha]
  rfl

theorem ind_table : ∀ p < 34, canon (subBase p + 0x20) = some (20, 0x1020) ∧ gateSub (subBase p + 0x20) = some p
    ∧ (subBase p + 0x20 == 0x04000024) = false := by
  decide

/-- The registers that a read latches, of one _LO register. -/
theorem State.partners_cases (s : State) (a : Nat) :
    s.partners a = [] ∨ (∃ w, s.partners a = [(a + 4, w)]) ∨ ∃ w v, s.partners a = [(a + 4, w), (a + 8, v)] := by
  unfold State.partners
  dsimp only
  split
  case h_8 =>
    split
    case h_1 | h_2 | h_3 => exact .inr (.inl ⟨_, rfl⟩)
    case h_4 => exact .inl rfl
  case h_10 => exact .inr (.inr ⟨_, _, rfl⟩)
  case h_12 => exact .inl rfl
  all_goals exact .inr (.inl ⟨_, rfl⟩)

theorem Regs.put_latch (r : Regs) (a : Nat) (v : W32) : (r.put a v).latch = r.latch := rfl

theorem Regs.put_shadow (r : Regs) (a : Nat) (v : W32) : (r.put a v).shadow = r.shadow := rfl

/-- A read changes the latches, and for TALLY_RD_DATA the offset. -/
theorem State.readRegs_eq (s : State) (a : Nat) : ∃ w, s.readRegs a
    = (let r := { s.regs with latch := (s.partners a).foldl (fun m p => NMap.set m p.1 p.2) s.regs.latch }
       if a == 0x04000024 then r.put 0x04000020 w else r) := ⟨_, rfl⟩

theorem State.latch_eq_readRegs (s : State) (a : Nat) :
    (s.readRegs a).latch = (s.partners a).foldl (fun m p => NMap.set m p.1 p.2) s.regs.latch
      ∧ (s.readRegs a).shadow = s.regs.shadow := by
  obtain ⟨w, h⟩ := s.readRegs_eq a
  rw [h]
  dsimp only
  split
  · rw [Regs.put_latch, Regs.put_shadow]
    exact ⟨rfl, rfl⟩
  · exact ⟨rfl, rfl⟩

/-- The partners are latched as they then stand. -/
theorem State.latch_readRegs (s : State) (a : Nat) : ∀ p ∈ s.partners a, NMap.get? (s.readRegs a).latch p.1 = some p.2 := by
  rw [(s.latch_eq_readRegs a).1]
  obtain h | ⟨w, h⟩ | ⟨w, v, h⟩ := s.partners_cases a <;> rw [h]
  · simp
  · simp [NMap.get?_set_same]
  · have hne : a + 4 ≠ a + 8 := by omega
    simp [NMap.get?_set_same, NMap.get?_set_other _ _ _ _ hne]

/-- The end of a read: what it returned stands. -/
theorem State.readData_endWith (t s : State) (r : Regs) : (t.endWith r s).readData = t.readData := (Still.endWith t s r).readData

/-- TALLY_RD_DATA moves the offset on. -/
theorem State.readRegs_ringData (s : State) : s.readRegs 0x04000024
    = { s.regs with latch := s.regs.latch }.put 0x04000020
        (w32 (place (b2n (s.flag 0x04000020 31)) 31 1 + (s.fld 0x04000020 29 0 + 4) % 2 ^ 30)) := rfl

theorem State.readVal_ringData (s : State) : s.readVal .pith 0x04000024 = s.ringWord := by
  have hd : RegDef.OpOnly ⟨0x24, 0#32, 0#32, 0#32, 0#32, 0xFFFFFFFF#32, 0#32, 0#32⟩ := ⟨rfl, rfl, rfl⟩
  unfold State.readVal
  rw [show regAt 0x04000024 = some ⟨0x24, 0#32, 0#32, 0#32, 0#32, 0xFFFFFFFF#32, 0#32, 0#32⟩ from rfl,
    show canon 0x04000024 = some (4, 0x24) from rfl, show s.latched 0x04000024 = none from rfl]
  dsimp only
  rw [hd.rwWord, show (some (4, 0x24) == some (22, 4)) = false from rfl, Bool.false_and, if_neg (by decide), if_neg (by decide), BitVec.or_zero, BitVec.or_zero, BitVec.zero_or, and_ones]
  rfl

/-- Settles O25. -/
theorem clearsAndReadsWithAnEffect : Obligations.ClearsAndReadsWithAnEffect := by
  refine ⟨⟨fun s g ones ha hI hg hb hd => ?_, fun s n ha hI hn hb => ?_⟩, fun s p ha hp hb => ?_, fun s ha hb => ?_,
    fun s ha hb => ?_, fun s ha hI hb => ?_, fun s a ha hb hp => ?_⟩
  · have hx := exec_eventPendClear ha hI hg hb ones
    have hd' : ((s.clearPend g false (ones.setWidth 32)).clearPend g true (w32 (ones.toNat / 2 ^ 32))).aerDue = [] := hd
    rw [endOfACommandTouchesHostSideOnly.2 _ s s.regs hd'] at hx
    exact ⟨_, hx, rfl, fun n => s.src_pendClear g ones n⟩
  · obtain ⟨hq, hx⟩ := s.write1_engClear hI hn
    refine (s.doWrite_eq _ _ ha hb (decide_eq_true hn)).trans ?_
    rw [hq, hx]
    rfl
  · obtain ⟨hc, hg, hn⟩ := ind_table p hp
    have hpt : s.partners (subBase p + 0x20) = [] := by
      unfold State.partners
      rw [hc]
      rfl
    have hx : exec (.indicationRead p) s = s.doRead (arrivalPoint p) (if p == 34 then 0x16000120 else subBase p + 0x20) := rfl
    rw [beq_false_of_ne (show p ≠ 34 by omega), if_neg (by decide), s.doRead_eq ha hb (show arrivalPoint p = true from decide_eq_true (by omega)),
      s.readRegs_plain hpt hn] at hx
    rw [hx]
    unfold State.read1 State.readFx
    rw [hc, hg, s.readRegs_plain hpt hn]
    rfl
  · exact s.doRead_eq (ok := true) ha hb rfl
  · refine (s.doRead_eq (ok := true) ha hb rfl).trans ?_
    rw [← List.drop_one]
    rfl
  · refine ⟨_, s.doRead_eq (ok := true) ha hb rfl, ?_, ?_⟩
    · rw [State.readData_endWith]
      exact s.readVal_ringData
    · unfold State.reg
      rw [State.endWith_regs, s.readRegs_ringData]
      exact Regs.get_put_same _ hI _ _
  · have hx : exec (.latchedPairRead a) s = s.doRead (!(s.partners a).isEmpty) a := rfl
    refine ⟨_, hx.trans (s.doRead_eq ha hb (by simpa using hp)), State.readData_endWith _ _ _, ?_, ?_⟩
    · rw [State.endWith_regs]
      exact s.latch_readRegs a
    · rw [State.endWith_regs]
      exact (s.latch_eq_readRegs a).2

end Sys2Proof.Machine
end

section
/-!
PROOFS. Register Access frames (spec/18: R373 to R375).
-/

namespace Sys2Proof.Machine

open Sys2Proof

/-- The answer to one operation. -/
def raAnswer (p : List Byte) (b st : Nat) (d : W32) : List Byte :=
  slice p b 1 ++ beBytes 1 st ++ beBytes 2 0 ++ slice p (b + 4) 4 ++ beBytes 4 d.toNat ++ slice p (b + 12) 4

theorem State.raOps_one (s : State) (p : List Byte) (stop : Bool) :
    s.raOps p stop 1 0 false
      = let x := s.raOp (be p 8 1) (be p 12 4) (w32 (be p 16 4)) (w32 (be p 20 4))
        (x.1, raAnswer p 8 x.2.1 x.2.2) := by
  unfold State.raOps State.raOps
  dsimp only
  rw [Bool.false_and, if_neg (by decide), List.append_nil]
  rfl

theorem exec_registerAccessFrame {s : State} {dst src own : BitVec 48} {vlan : Option (BitVec 16)} {p : List Byte}
    (ha : s.alive = true) (hp : s.raPasses p = true) (ho : s.portOn 34 = true) (hc : s.portClass 34 = 2) (hd : s.raAddr dst = some own) :
    exec (.registerAccessFrame dst src vlan p) s
      = .next ((s.raFrame own src vlan p).endWith (s.raFrame own src vlan p).regs s) := by
  dsimp only [exec]
  unfold execRegisterAccessFrame
  rw [hd]
  exact actR_true (by rw [ha, hp, ho, hc]; rfl) _ _ _

/-- Settles O26. -/
theorem registerAccessIsAnswered : Obligations.RegisterAccessIsAnswered := by
  refine ⟨fun s dst src own vlan p ha hp ho hc hd hm => ?_, fun s dst src own vlan p ha hp ho hc hd hm hn => ?_⟩
  · have hr : ((s.raise0 0 1).count 0 0 1).regs = s.regs := (still_raise0 0 1 s).regs
    rw [exec_registerAccessFrame ha hp ho hc hd, State.raFrame, if_pos hm, hr]
    rfl
  · intro x answer
    rw [exec_registerAccessFrame ha hp ho hc hd, State.raFrame, if_neg (by rw [hm]; decide), hn]
    dsimp only
    rw [State.raOps_one]
    rfl

end Sys2Proof.Machine
end

section
/-!
PROOFS. Tally's gaps, sweeps and engine counters (spec/19: R395 to R399).
-/

namespace Sys2Proof.Machine

open Sys2Proof

/-! ### Gaps of a Host Event Log -/

/-- A session's log once the raises counted in a gap are an entry. -/
def HostLog.counted (log : HostLog) (n k t : Nat) (d : W32) (now : Nat) : HostLog :=
  { log.add (mkEntry n (min 255 k) t d) with gaps := NMap.set log.gaps n (now, 0, 0, 0#32) }

theorem HostLog.counted_eq (log : HostLog) (n k t : Nat) (d : W32) (now : Nat) :
    log.counted n k t d now =
      let e := log.entries ++ [mkEntry n (min 255 k) t d]
      { entries := if e.length > 256 then e.tail else e, total := log.total + 1
        gaps := NMap.set log.gaps n (now, 0, 0, 0#32) } := by
  unfold HostLog.counted HostLog.add
  dsimp only
  rw [List.drop_one]

theorem exec_hostEventGapExpiry {s : State} {sid n : Nat} {log : HostLog} {g : Nat × Nat × Nat × W32} (hk : s.hostOk = true)
    (hl : NMap.get? s.bud.hostLog sid = some log) (hg : NMap.get? log.gaps n = some g) :
    exec (.hostEventGapExpiry sid n) s = .next ((s.gapEnd sid n g).done s) := by
  dsimp only [exec]
  unfold execHostEventGapExpiry
  rw [hl, Option.bind_some, hg]
  exact act_true hk _ _

theorem State.gapEnd_eq (s u : State) {sid n : Nat} {log : HostLog} (g : Nat × Nat × Nat × W32)
    (hu : u = s.until (g.1 + s.fld 0x0300001C 15 0 * 1000000)) (hl : NMap.get? s.bud.hostLog sid = some log) :
    s.gapEnd sid n g = if g.2.1 == 0 then
        { u with bud := { s.bud with hostLog := NMap.set s.bud.hostLog sid { log with gaps := NMap.erase log.gaps n } } }
      else State.tryAer sid { u with bud := { s.bud with
        hostLog := NMap.set s.bud.hostLog sid (log.counted n g.2.1 g.2.2.1 g.2.2.2 u.now) } } := by
  have hb : u.bud = s.bud := by rw [hu, State.bud_until]
  have hlog : NMap.getD s.bud.hostLog sid {} = log := by rw [NMap.getD, hl]
  unfold State.gapEnd
  rw [← hu]
  dsimp only
  rw [hb, hlog]
  rfl

/-! ### Sweeps -/

theorem exec_tallySweep {s : State} (ha : s.alive = true) (ho : s.on 0x04000000 = true) (hf : s.sap.flush = none) :
    exec .tallySweep s = .next (s.sweep.endWith s.sweepRegs s) :=
  actR_true (by rw [ha, ho, hf]; rfl) _ _ _

/-- The sweep's record at the head of the ring, which moves on. -/
def State.sweepIn (s u : State) : State :=
  { u with tally := { u.tally with
      sweeps := s.tally.sweeps + 1, sweepAt := u.now
      sweep := putWords s.tally.sweep (s.tally.sweepHead * s.sweepBytes) (leWords (s.sweepBytes / 4) u.sweepRecord)
      sweepHead := (s.tally.sweepHead + 1) % s.sweepRecs } }

/-- A sweep that is skipped and counted. -/
def State.sweepOver (s u : State) : State :=
  { u with tally := { u.tally with
      sweeps := s.tally.sweeps + 1, sweepAt := u.now, skipped := (s.tally.skipped + 1) % 65536 } }

theorem State.sweep_eq (s u : State) (hu : u = s.until (s.tally.sweepAt + max 1 (s.fld 0x04000004 19 0) * 1000)) :
    s.sweep = if s.ringFull then (if s.sweepSkipped then s.sweepOver u else s.sweepIn u).noteFull
      else if s.sweepSkipped then s.sweepOver u else s.sweepIn u := by
  have hf : u = { s with now := u.now, boughCycles := u.boughCycles, time := u.time, sap := u.sap } := by
    rw [hu]; exact State.until_frame _ _
  unfold State.sweep
  rw [← hu]
  rw [hf]
  rfl

theorem State.sweepRegs_room {s : State} (h : s.ringFull = false) : s.sweepRegs = s.regs := by
  rw [State.sweepRegs, h]
  rfl

theorem State.sweepRegs_skip {s : State} (h : s.sweepSkipped = true) : s.sweepRegs = s.regs := by
  rw [State.sweepRegs, h, Bool.not_true, Bool.and_false]
  rfl

theorem State.noteFull_cases (s : State) :
    s.noteFull = s ∨ (s.noteFull = State.raise0 0 16 { s with tally := { s.tally with fullAt := some s.now } }
      ∧ ∀ t, s.tally.fullAt = some t → t + 1000000000 ≤ s.now) := by
  unfold State.noteFull
  split
  next h => exact .inl rfl
  next h =>
    refine .inr ⟨rfl, fun t ht => ?_⟩
    rw [ht, Option.any_some, decide_eq_true_eq] at h
    omega

/-! ### Engine counters -/

theorem exec_engineCounterWrap {s : State} {e n : Nat} (ha : s.alive = true) (he : e < 64) (hn : n < 6)
    (hc : s.cycleCounter e n = true) :
    exec (.engineCounterWrap e n) s
      = .next (((s.engStart e n (NMap.set s.tally.eng (e * 8 + n) 0)).engWrap 6 e n).done s) :=
  act_true (by rw [show (Instr.engineCounterWrap e n).wf = true by simp [Instr.wf, engineIndex, he, hn], ha, hc]; rfl) _ _

theorem State.engWrap_last (s : State) (fuel e n : Nat) (h : (n < 5 && s.flag (engCfg e n) 30) = false) :
    s.engWrap (fuel + 1) e n
      = State.raise (evSrc 0 18) (w32 (e + n * 256))
        { s with tally := { s.tally with ovf := insertAsc (e * 8 + n) s.tally.ovf } } := by
  rw [State.engWrap, h]
  rfl

theorem State.engWrap_chained (s : State) (fuel e n : Nat) (hn : n < 5) (h : s.flag (engCfg e n) 30 = true)
    (he : s.flag (engCfg e (n + 1)) 31 = true) (hv : NMap.getD s.tally.eng (e * 8 + n + 1) 0 + 1 < 2 ^ 48) :
    s.engWrap (fuel + 1) e n = { s with tally := { s.tally with
      eng := NMap.set s.tally.eng (e * 8 + n + 1) (NMap.getD s.tally.eng (e * 8 + n + 1) 0 + 1) } } := by
  rw [State.engWrap, h, decide_eq_true hn, Bool.and_self, if_pos rfl]
  dsimp only
  rw [if_pos he, if_neg (by omega), Nat.mod_eq_of_lt hv]

/-! ### The statement's clauses -/

theorem gap_over (s : State) (sid n last t : Nat) (d : W32) (log : HostLog) (hk : s.hostOk = true)
    (hl : NMap.get? s.bud.hostLog sid = some log) (hg : NMap.get? log.gaps n = some (last, 0, t, d)) :
    let u := s.until (last + s.fld 0x0300001C 15 0 * 1000000)
    exec (.hostEventGapExpiry sid n) s = .next (State.done { u with
      bud := { s.bud with hostLog := NMap.set s.bud.hostLog sid { log with gaps := NMap.erase log.gaps n } } } s) := by
  intro u
  rw [exec_hostEventGapExpiry hk hl hg, State.gapEnd_eq s u _ rfl hl]
  rfl

theorem gap_counted (s : State) (sid n last k t : Nat) (d : W32) (log : HostLog) (hk : s.hostOk = true)
    (hl : NMap.get? s.bud.hostLog sid = some log) (hg : NMap.get? log.gaps n = some (last, k + 1, t, d)) :
    let u := s.until (last + s.fld 0x0300001C 15 0 * 1000000)
    let e := log.entries ++ [{ time := t, source := n, count := min 255 (k + 1), scope := scopeOf n, detail := d,
                               page := pageOf n }]
    let log2 : HostLog := { entries := if e.length > 256 then e.tail else e, total := log.total + 1
                            gaps := NMap.set log.gaps n (u.now, 0, 0, 0#32) }
    exec (.hostEventGapExpiry sid n) s = .next ((State.tryAer sid { u with
      bud := { s.bud with hostLog := NMap.set s.bud.hostLog sid log2 } }).done s) := by
  intro u e log2
  rw [exec_hostEventGapExpiry hk hl hg, State.gapEnd_eq s u _ rfl hl, HostLog.counted_eq]
  rfl

theorem sweep_room (s : State) (ha : s.alive = true) (ho : s.on 0x04000000 = true) (hf : s.sap.flush = none)
    (hr : s.ringFull = false) :
    let u := s.until (s.tally.sweepAt + max 1 (s.fld 0x04000004 19 0) * 1000)
    exec .tallySweep s = .next ((s.sweepIn u).done s) := by
  intro u
  have hs : s.sweepSkipped = false := by rw [State.sweepSkipped, hr]; rfl
  have hw : s.sweep = s.sweepIn u := by
    rw [State.sweep_eq s u rfl, if_neg (by rw [hr]; decide), if_neg (by rw [hs]; decide)]
  rw [exec_tallySweep ha ho hf, State.sweepRegs_room hr, hw]
  rfl

theorem sweep_skipped (s : State) (ha : s.alive = true) (ho : s.on 0x04000000 = true) (hf : s.sap.flush = none)
    (hr : s.ringFull = true) (hm : s.flag 0x04000008 31 = true ∨ s.sweepRecs = 0) :
    let u := s.until (s.tally.sweepAt + max 1 (s.fld 0x04000004 19 0) * 1000)
    exec .tallySweep s = .next ((s.sweepOver u).noteFull.done s) := by
  intro u
  have hs : s.sweepSkipped = true := by
    rw [State.sweepSkipped, hr, Bool.true_and, Bool.or_eq_true, beq_iff_eq]
    exact hm
  have hw : s.sweep = (s.sweepOver u).noteFull := by rw [State.sweep_eq s u rfl, if_pos hr, if_pos hs]
  rw [exec_tallySweep ha ho hf, State.sweepRegs_skip hs, hw]
  rfl

theorem sweep_overwrites (s : State) (ha : s.alive = true) (ho : s.on 0x04000000 = true) (hf : s.sap.flush = none)
    (hr : s.ringFull = true) (hm : s.flag 0x04000008 31 = false) (hn : s.sweepRecs ≠ 0) :
    let u := s.until (s.tally.sweepAt + max 1 (s.fld 0x04000004 19 0) * 1000)
    exec .tallySweep s = .next ((s.sweepIn u).noteFull.endWith
      (s.regs.put 0x04000014 (w32 ((s.fld 0x04000014 23 0 + 1) % s.sweepRecs))) s) := by
  intro u
  have hs : s.sweepSkipped = false := by
    rw [State.sweepSkipped, hr, hm, Bool.true_and, Bool.false_or, beq_eq_false_iff_ne]
    exact hn
  have hw : s.sweep = (s.sweepIn u).noteFull := by
    rw [State.sweep_eq s u rfl, if_pos hr, if_neg (by rw [hs]; decide)]
  rw [exec_tallySweep ha ho hf, State.sweepRegs, hr, hs, hw]
  rfl

theorem counter_wraps (s : State) (e n : Nat) (ha : s.alive = true) (he : e < 64) (hn : n < 6)
    (hc : s.cycleCounter e n = true) (hl : n = 5 ∨ s.flag (engCfg e n) 30 = false) :
    exec (.engineCounterWrap e n) s = .next ((State.raise (evSrc 0 18) (w32 (e + n * 256)) { s with tally := { s.tally with
      eng := NMap.set s.tally.eng (e * 8 + n) 0, engFrom := NMap.set s.tally.engFrom (e * 8 + n) (s.cycles8 e)
      ovf := insertAsc (e * 8 + n) s.tally.ovf } }).done s) := by
  have hq : (n < 5 && (s.engStart e n (NMap.set s.tally.eng (e * 8 + n) 0)).flag (engCfg e n) 30) = false := by
    obtain rfl | hl := hl
    · rfl
    · show (n < 5 && s.flag (engCfg e n) 30) = false
      rw [hl, Bool.and_false]
  rw [exec_engineCounterWrap ha he hn hc, State.engWrap_last _ _ _ _ hq]
  rfl

theorem counter_chained (s : State) (e n : Nat) (ha : s.alive = true) (he : e < 64) (hn : n < 5)
    (hc : s.cycleCounter e n = true) (hl : s.flag (engCfg e n) 30 = true) (hb : s.flag (engCfg e (n + 1)) 31 = true)
    (hv : NMap.getD s.tally.eng (e * 8 + n + 1) 0 + 1 < 2 ^ 48) :
    exec (.engineCounterWrap e n) s = .next (State.done { s with tally := { s.tally with
      eng := NMap.set (NMap.set s.tally.eng (e * 8 + n) 0) (e * 8 + n + 1)
        (NMap.getD s.tally.eng (e * 8 + n + 1) 0 + 1)
      engFrom := NMap.set s.tally.engFrom (e * 8 + n) (s.cycles8 e) } } s) := by
  have hg : NMap.getD (NMap.set s.tally.eng (e * 8 + n) 0) (e * 8 + n + 1) 0 = NMap.getD s.tally.eng (e * 8 + n + 1) 0 :=
    NMap.getD_set_other _ _ _ _ _ (by omega)
  have hw := State.engWrap_chained (s.engStart e n (NMap.set s.tally.eng (e * 8 + n) 0)) 5 e n hn hl hb
    (by show NMap.getD (NMap.set s.tally.eng (e * 8 + n) 0) (e * 8 + n + 1) 0 + 1 < 2 ^ 48; rw [hg]; exact hv)
  rw [exec_engineCounterWrap ha he (by omega) hc, hw]
  dsimp only [State.engStart]
  rw [hg]

/-- Settles O30. -/
theorem hostEventsAndSweeps : Obligations.HostEventsAndSweeps :=
  ⟨⟨gap_over, gap_counted⟩, sweep_room, sweep_skipped, sweep_overwrites, State.noteFull_cases, counter_wraps,
    counter_chained⟩

end Sys2Proof.Machine
end

section
/-!
PROOFS. DRAM errors and scrubbing (spec/18: R388) and the sideband target (spec/20: R418).
-/

namespace Sys2Proof.Machine

open Sys2Proof

/-! ### DRAM -/

theorem exec_dramError {s : State} (ue : Bool) (ch rank : Nat) (a : W64) (use : DramUse) (h : s.dram.enabled = true) :
    exec (.dramError ue ch rank a use) s = .next ((s.dramErr ue ch rank a use).done s) :=
  act_true (by rw [h, Bool.and_true]; rfl) _ _

theorem State.dramErr_ce (s : State) (ch rank : Nat) (a : W64) (use : DramUse) :
    s.dramErr false ch rank a use = ((s.recordError false ch rank a).count 118 0 1).noteCe := rfl

theorem State.dramErr_ue (s : State) (ch rank : Nat) (a : W64) (use : DramUse) :
    s.dramErr true ch rank a use = (((s.recordError true ch rank a).count 118 1 1).raise0 7 29).poison use := rfl

theorem State.scrubbed_eq (s u : State) (hu : u = s.until (s.dram.scrubAt + max 1 (s.fld 0x18000010 15 8) * 3600000000000)) :
    s.scrubbed = State.count { u with dram := { s.dram with scrubAt := u.now } } 118 2 1 := by
  have hd : u.dram = s.dram := by rw [hu, State.until_frame]
  suffices hf : ∀ f, f = State.scrubbed → f s = State.count { u with dram := { s.dram with scrubAt := u.now } } 118 2 1 from
    hf State.scrubbed rfl
  intro f hf
  delta State.scrubbed at hf
  subst hf
  dsimp -zeta only
  rw [← hu]
  dsimp only
  rw [hd]

theorem exec_scrubPassDone {s : State} (h : s.dram.enabled = true) (hf : s.flag 0x18000010 0 = true) :
    exec .scrubPassDone s = .next (s.scrubbed.done s) :=
  act_true (by rw [h, hf]; rfl) _ _

theorem poison_ring (s : State) (off : Nat) :
    (s.poison (.ring true off)).tally.trace = NMap.set s.tally.trace (off / 4 * 4) 0#32
      ∧ (s.poison (.ring false off)).tally.sweep = NMap.set s.tally.sweep (off / 4 * 4) 0#32 :=
  ⟨rfl, rfl⟩

/-! ### The sideband target -/

theorem State.sidebandByte_past (s : State) {o : Nat} (h : 0xC < o) : s.sidebandByte o = 0 := by
  unfold State.sidebandByte
  dsimp only
  split <;> try omega
  rw [if_neg (by simp; omega)]

/-- Settles O31. -/
theorem dramAndSideband : Obligations.DramAndSideband := by
  refine ⟨⟨fun s ch rank a use h => ?_, fun s ch rank a use h => ?_, fun s seq => ⟨rfl, rfl⟩, poison_ring,
    fun s h hf => ?_⟩, fun s => rfl, fun s b => rfl, fun s b c l => rfl, fun s a => rfl,
    fun s => ⟨rfl, fun o h => s.sidebandByte_past h⟩⟩
  · intro u
    rw [exec_dramError _ _ _ _ _ h, State.dramErr_ce]
    rfl
  · intro u
    rw [exec_dramError _ _ _ _ _ h, State.dramErr_ue]
    rfl
  · intro u
    rw [exec_scrubPassDone h hf, State.scrubbed_eq s u rfl]

end Sys2Proof.Machine
end

section
/-!
PROOFS. What becomes of a frame that arrives (spec/09: R220, R221; spec/10: R242 to R244).
-/

namespace Sys2Proof.Machine

open Sys2Proof

/-! ### The indications of a frame touch its port and the counters only -/

/-- `t` agrees with `s` but for ports, MMAC and counters. -/
def Indicated (s t : State) : Prop := t = { s with ports := t.ports, mmac := t.mmac, tally := t.tally }

theorem Indicated.refl (s : State) : Indicated s s := rfl

theorem Indicated.trans {s t u : State} (h : Indicated s t) (k : Indicated t u) : Indicated s u := by
  unfold Indicated at *
  rw [k, h]

theorem indicated_noteCarrier (s : State) (p : Nat) : Indicated s (s.noteCarrier p) := by
  unfold State.noteCarrier
  split <;> rfl

theorem indicated_indicate (s : State) (p k : Nat) : Indicated s (s.indicate p k) := by
  unfold State.indicate
  dsimp only
  split
  · rfl
  · split <;> rfl

theorem indicated_indicateAll (ks : List Nat) : ∀ (s : State) (p : Nat), Indicated s (s.indicateAll p ks) := by
  induction ks with
  | nil => exact fun s _ => .refl s
  | cons k ks ih => exact fun s p => (indicated_indicate s p k).trans (ih _ p)

/-- The state once what the PHY saw of a frame is counted. -/
def State.seen (s : State) (p : Nat) (f : Frame) : State := (s.noteCarrier p).indicateAll p (phyKinds p f)

theorem indicated_seen (s : State) (p : Nat) (f : Frame) : Indicated s (s.seen p f) :=
  (indicated_noteCarrier s p).trans (indicated_indicateAll _ _ p)

theorem State.noteCarrier_other (s : State) {p : Nat} (h : p ≠ 34) : s.noteCarrier p = s := by
  rw [State.noteCarrier, if_neg]
  simp [h]

theorem State.seen_other (s : State) {p : Nat} (f : Frame) (h : p ≠ 34) : s.seen p f = s.indicateAll p (phyKinds p f) := by
  rw [State.seen, s.noteCarrier_other h]

/-! ### Arrival -/

theorem exec_frameReceive {s : State} {p : Nat} (f : Frame) (hp : p < 35) (ha : s.canArrive p = true) :
    exec (.frameReceive p f) s = .next ((s.arrive p f).done s) := by
  have hf : framePoint p = true := decide_eq_true (by omega)
  have h35 : (p == 35) = false := beq_eq_false_iff_ne.2 (by omega)
  dsimp only [exec]
  unfold execFrameReceive
  rw [act_true (by rw [hf, ha]; rfl), h35]
  rfl

theorem State.arrive_short (s : State) (p : Nat) (f : Frame) (h : lengthKinds f ≠ []) :
    s.arrive p f = ((s.seen p f).indicateAll p (lengthKinds f)).checkDrop := by
  have he : (!(lengthKinds f).isEmpty) = true := by
    rw [Bool.not_eq_true', List.isEmpty_eq_false_iff]
    exact h
  unfold State.arrive
  rw [if_pos he]
  rfl

/-- A frame of sound length that is no MAC control frame: its address, its headers, its port and its policer decide. -/
theorem State.arrive_sound (s : State) (p : Nat) (f : Frame) (h : lengthKinds f = []) (hc : f.ethertype ≠ 0x8808#16) :
    s.arrive p f = if !(s.seen p f).macAccepts p f then (s.seen p f).indicate p 11
      else if !(headerKinds f).isEmpty then ((s.seen p f).indicateAll p (headerKinds f)).checkDrop
      else if (s.seen p f).portClass p == 0 then (s.seen p f).checkDrop
      else match (s.seen p f).police p f.len with
        | (false, s) => s
        | (true, s) => s.classify p f := by
  unfold State.arrive
  rw [h, List.isEmpty_nil, Bool.not_true, if_neg (by decide), beq_eq_false_iff_ne.2 hc, if_neg (by decide)]
  rfl

theorem Indicated.macAccepts {s t : State} (h : Indicated s t) (p : Nat) (f : Frame) : t.macAccepts p f = s.macAccepts p f := by
  rw [h]; rfl

theorem Indicated.portClass {s t : State} (h : Indicated s t) (p : Nat) : t.portClass p = s.portClass p := by
  rw [h]; rfl

theorem Indicated.policer {s t : State} (h : Indicated s t) (p : Nat) : t.policer p = s.policer p := by
  rw [h]; rfl

theorem Indicated.regs {s t : State} (h : Indicated s t) : t.regs = s.regs := by rw [h]

theorem State.police_open (s : State) {p : Nat} (len : Nat) (h : (s.policer p).rate = 0) : s.police p len = (true, s) := by
  unfold State.police
  dsimp only
  rw [h]
  exact if_pos (by rw [beq_self_eq_true, Bool.or_true])

/-- A frame that is admitted is classified once what its PHY saw is counted. -/
theorem Admitted.exec_eq {s : State} {p : Nat} {f : Frame} (h : Admitted s p f) :
    exec (.frameReceive p f) s = .next (((s.seen p f).classify p f).done s) := by
  obtain ⟨hp, ha, hl, hc, hm, hh, ho, hu⟩ := h
  have hi := indicated_seen s p f
  rw [exec_frameReceive f hp ha, State.arrive_sound s p f hl hc, hi.macAccepts, hm, hh, hi.portClass,
    beq_eq_false_iff_ne.2 ho, State.police_open _ _ (by rw [hi.policer]; exact hu)]
  rfl

/-! ### Classification (Table 9.2) -/

theorem isAhnath_congr {s t : State} (h : t.regs = s.regs) (f : Frame) : t.isAhnath f = s.isAhnath f := by
  unfold State.isAhnath State.fld State.reg
  rw [h]

theorem stationEp_congr {s t : State} (h : t.regs = s.regs) : t.stationEp = s.stationEp := by
  unfold State.stationEp State.reg
  rw [h]

theorem flag_congr {s t : State} (h : t.regs = s.regs) (a i : Nat) : t.flag a i = s.flag a i := by
  unfold State.flag State.reg
  rw [h]

theorem State.classify_ahnath (s : State) (p : Nat) (f : Frame) {q : Pkt} (hf : s.isAhnath f = true) (hb : f.body = .ahnath q)
    (hn : (p = 32 ∨ p = 33) → q.op ≠ 8#4) :
    s.classify p f = if (p == 32 || p == 33) && s.flag 0x1300000C 31 && q.srcEp == s.stationEp then
        (s.raise0 6 7).count 105 7 1
      else if q.dstEp == s.stationEp then s.toHold p f
      else if p != 34 then s.transit p f q
      else s.count 105 0 1 := by
  have hr : ((p == 32 || p == 33) && q.op == 8#4) = false := by
    rw [Bool.and_eq_false_iff, Bool.or_eq_false_iff, beq_eq_false_iff_ne, beq_eq_false_iff_ne, beq_eq_false_iff_ne]
    by_cases h : p = 32 ∨ p = 33
    · exact .inr (hn h)
    · exact .inl (not_or.1 h)
  unfold State.classify
  rw [hf, hb, if_pos rfl]
  dsimp only
  rw [hr]
  rfl

theorem State.classify_plain (s : State) (p : Nat) (f : Frame) (h : s.isAhnath f = false) :
    s.classify p f =
      if f.ethertype == 0x88B5#16 && p == 34 then s.toCtrl p f false
      else if f.ethertype == 0x88F7#16 || f.udp.any fun u => u.dport == 319#16 || u.dport == 320#16 then s.toCtrl p f true
      else if f.body == .control && s.admitsControl p f then s.toCtrl p f false
      else s.count 105 0 1 := by
  unfold State.classify
  rw [h]
  rfl

/-! ### The statement's clauses -/

/-- The discard rule for a frame of the station's own lets the packet by. -/
theorem notLooped {s : State} {p : Nat} {q : Pkt}
    (h : (p = 32 ∨ p = 33) → q.op ≠ 8#4 ∧ (s.flag 0x1300000C 31 = false ∨ q.srcEp ≠ s.stationEp)) :
    ((p == 32 || p == 33) && s.flag 0x1300000C 31 && q.srcEp == s.stationEp) = false := by
  rw [Bool.and_assoc, Bool.and_eq_false_iff, Bool.and_eq_false_iff, Bool.or_eq_false_iff, beq_eq_false_iff_ne,
    beq_eq_false_iff_ne, beq_eq_false_iff_ne]
  by_cases hp : p = 32 ∨ p = 33
  · exact .inr (h hp).2
  · exact .inl (not_or.1 hp)

/-- An Ahnath packet that did not come round the ring: it is for the station, in transit, or discarded. -/
theorem Admitted.exec_ahnath {s : State} {p : Nat} {f : Frame} {q : Pkt} (h : Admitted s p f) (hf : s.isAhnath f = true)
    (hb : f.body = .ahnath q)
    (hr : (p = 32 ∨ p = 33) → q.op ≠ 8#4 ∧ (s.flag 0x1300000C 31 = false ∨ q.srcEp ≠ s.stationEp)) :
    exec (.frameReceive p f) s = .next ((if q.dstEp == s.stationEp then (s.seen p f).toHold p f
      else if p != 34 then (s.seen p f).transit p f q else (s.seen p f).count 105 0 1).done s) := by
  have hs := (indicated_seen s p f).regs
  rw [h.exec_eq, State.classify_ahnath _ p f (by rw [isAhnath_congr hs]; exact hf) hb fun hp => (hr hp).1, flag_congr hs,
    stationEp_congr hs, notLooped hr]
  rfl

theorem Admitted.exec_looped {s : State} {p : Nat} {f : Frame} {q : Pkt} (h : Admitted s p f) (hf : s.isAhnath f = true)
    (hb : f.body = .ahnath q) (hp : p = 32 ∨ p = 33) (ho : q.op ≠ 8#4) (hl : s.flag 0x1300000C 31 = true)
    (he : q.srcEp = s.stationEp) :
    exec (.frameReceive p f) s = .next (((State.raise0 6 7 (s.indicateAll p (phyKinds p f))).count 105 7 1).done s) := by
  have hs := (indicated_seen s p f).regs
  have hr : (p == 32 || p == 33) = true := by rw [Bool.or_eq_true, beq_iff_eq, beq_iff_eq]; exact hp
  rw [h.exec_eq, State.classify_ahnath _ p f (by rw [isAhnath_congr hs]; exact hf) hb fun _ => ho, flag_congr hs,
    stationEp_congr hs, hr, hl, he, Bool.and_self, beq_self_eq_true, Bool.and_self, if_pos rfl,
    s.seen_other f (by omega)]

/-- A frame that is no Ahnath packet, by what it is. -/
theorem Admitted.exec_plain {s : State} {p : Nat} {f : Frame} (h : Admitted s p f) (hf : s.isAhnath f = false) :
    exec (.frameReceive p f) s = .next ((
      if f.ethertype == 0x88B5#16 && p == 34 then (s.seen p f).toCtrl p f false
      else if f.ethertype == 0x88F7#16 || f.udp.any fun u => u.dport == 319#16 || u.dport == 320#16 then
        (s.seen p f).toCtrl p f true
      else if f.body == .control && (s.seen p f).admitsControl p f then (s.seen p f).toCtrl p f false
      else (s.seen p f).count 105 0 1).done s) := by
  rw [h.exec_eq, State.classify_plain _ p f (by rw [isAhnath_congr (indicated_seen s p f).regs]; exact hf)]

theorem isAhnath_of_noUdp (s : State) {f : Frame} (h : f.udp = none) : s.isAhnath f = false := by
  rw [State.isAhnath, h]
  rfl

theorem exec_fromPith {s : State} {f : Frame} {out : Nat} {stamp : Bool} (hs : s.on 0x13000000 = true)
    (hf : s.isAhnath f = false) (hp : f.pith = some (out, stamp)) (ho : out < 35) :
    let tc := match f.vlan with | v :: _ => v.toNat / 2 ^ 13 | [] => Config.plainTc.toNat
    exec (.frameReceive 35 f) s
      = .next ((s.enqueue out tc { frame := f, tc := tc, answer := true, since := s.now, stamp := stamp }).done s) := by
  intro tc
  have he : s.fromCtrl f = s.enqueue out tc { frame := f, tc := tc, answer := true, since := s.now, stamp := stamp } := by
    unfold State.fromCtrl
    rw [hf, hp]
    exact if_pos ho
  rw [← he]
  exact act_true (by rw [State.canArrive, if_pos (beq_self_eq_true _), hs]; rfl) _ _

/-- Settles O32. -/
theorem framesAreClassified : Obligations.FramesAreClassified := by
  refine ⟨fun s p f hp ha hl => ?_, fun s p f hp ha hl hc hm hh ho => ?_, fun s p f hp ha hl hc hm => ?_,
    fun s p f q h hf hb hd hr => ?_, fun s p f q h hf hb hd hp hr => ?_, fun s p f q h hf hb hp ho hl he => ?_,
    fun s f q h hf hb hd => ?_, fun s f h hf he => ?_, fun s p f h hf he => ?_, fun s p f b h hf hb h1 h2 => ?_,
    fun s f out stamp hs hf hp ho => exec_fromPith hs hf hp ho⟩
  · intro u
    rw [exec_frameReceive f hp ha, State.arrive_short s p f hl]
    rfl
  · have hi := indicated_seen s p f
    rw [exec_frameReceive f (by omega) ha, State.arrive_sound s p f hl hc, hi.macAccepts, hm, hh, hi.portClass, ho,
      s.seen_other f (by omega)]
    rfl
  · rw [exec_frameReceive f hp ha, State.arrive_sound s p f hl hc, (indicated_seen s p f).macAccepts, hm]
    rfl
  · rw [h.exec_ahnath hf hb hr, if_pos (beq_iff_eq.2 hd)]
    rfl
  · rw [h.exec_ahnath hf hb hr, if_neg (by rw [beq_iff_eq]; exact hd), if_pos (bne_iff_ne.2 hp), s.seen_other f hp]
  · exact h.exec_looped hf hb hp ho hl he
  · rw [h.exec_ahnath hf hb (by omega), if_neg (by rw [beq_iff_eq]; exact hd)]
    rfl
  · rw [h.exec_plain hf, he]
    rfl
  · rw [h.exec_plain hf, he]
    rfl
  · rw [h.exec_plain (isAhnath_of_noUdp s hf), hb, hf, beq_eq_false_iff_ne.2 h1, beq_eq_false_iff_ne.2 h2]
    rfl

end Sys2Proof.Machine
end

section
/-!
PROOFS. PAUSE frames (spec/10: R243), heartbeats and neighbours (spec/13: R289, R290), bypass and pass-through (R293).
-/

namespace Sys2Proof.Machine

open Sys2Proof

/-! ### PAUSE frames -/

theorem exec_pauseFrameReceive {s : State} {p : Nat} (opcode : BitVec 16) (hp : p < 35) (ha : s.canArrive p = true) :
    exec (.pauseFrameReceive p opcode) s = .next ((s.indicateAll p (pauseKind p opcode.toNat).toList).done s) :=
  act_true (by rw [show arrivalPoint p = true from decide_eq_true hp, ha]; rfl) _ _

theorem pauseKind_port {p : Nat} (opcode : BitVec 16) (hp : p < 34) :
    pauseKind p opcode.toNat = some (if opcode = 1#16 then 8 else if opcode = 0x101#16 then 9 else 10) := by
  have h34 : (p == 34) = false := beq_eq_false_iff_ne.2 (by omega)
  have hn (k : Nat) (hk : k < 2 ^ 16) : (opcode.toNat = k) ↔ opcode = BitVec.ofNat 16 k := by
    rw [← BitVec.toNat_inj, BitVec.toNat_ofNat, Nat.mod_eq_of_lt hk]
  simp only [pauseKind, h34, beq_iff_eq, hn 1 (by decide), hn 0x101 (by decide), Bool.false_eq_true, if_false]

/-! ### Neighbours -/

theorem State.nbr_setNbr_same (s : State) (w : Bool) (n : Nbr) : (s.setNbr w n).ring.nbr w = n := by cases w <;> rfl

theorem State.nbr_setNbr_not (s : State) (w : Bool) (n : Nbr) : (s.setNbr w n).ring.nbr (!w) = s.ring.nbr (!w) := by
  cases w <;> rfl

/-- The state after a heartbeat of `station` whose neighbour record is noted, before its events. -/
def State.nbrNoted (s : State) (west : Bool) (station state : BitVec 16) : State :=
  s.setNbr west { live := true, state := state, station := station, known := true
                  conflict := station.toNat == s.stationId, lastHb := s.now }

/-- The state with nbr.found raised where `found` says so. -/
def State.raisedIf (s : State) (c : Bool) (n : Nat) : State := if c then s.raise0 1 n else s

theorem steady_raisedIf (s : State) (c : Bool) (n : Nat) : Steady s (s.raisedIf c n) := by
  unfold State.raisedIf
  split
  · exact steady_raise0 1 n s
  · exact .refl s

theorem State.pend_raisedIf (s : State) (n : Nat) : ((s.raisedIf true n).src (evSrc 1 n)).pend = true :=
  State.pend_raise0_same 1 n s

theorem State.heartbeat_eq (s : State) (west : Bool) (station state : BitVec 16) :
    s.heartbeat west station state
      = ((s.nbrNoted west station state).raisedIf
          (!(s.ring.nbr west).known || !(s.ring.nbr west).live || (s.ring.nbr west).station != station) (20 + b2n west)).raisedIf
          (station.toNat == s.stationId) (22 + b2n west) := rfl

theorem exec_heartbeatReceive {s : State} {west : Bool} (station state : BitVec 16) (hm : s.ringMode = 1 ∨ s.ringMode = 2)
    (ha : s.canArrive (32 + b2n west) = true) :
    exec (.heartbeatReceive west station state) s = .next ((s.heartbeat west station state).done s) :=
  act_true (by rw [ha, Bool.and_true, Bool.or_eq_true, beq_iff_eq, beq_iff_eq]; exact hm) _ _

theorem runs_heartbeatReceive (s : State) (west : Bool) (station state : BitVec 16) (hm : s.ringMode = 1 ∨ s.ringMode = 2)
    (ha : s.canArrive (32 + b2n west) = true) :
    Runs (.heartbeatReceive west station state) s fun t =>
      t.ring.nbr west = { live := true, state := state, station := station, known := true
                          conflict := station.toNat == s.stationId, lastHb := s.now }
        ∧ t.ring.nbr (!west) = s.ring.nbr (!west)
        ∧ (((s.ring.nbr west).known = false ∨ (s.ring.nbr west).live = false) → (t.src (evSrc 1 (20 + b2n west))).pend = true)
        ∧ (station.toNat = s.stationId → (t.src (evSrc 1 (22 + b2n west))).pend = true) := by
  refine ⟨_, exec_heartbeatReceive station state hm ha, ?_⟩
  dsimp only
  rw [State.heartbeat_eq]
  generalize hu : s.nbrNoted west station state = u
  generalize hf : (!(s.ring.nbr west).known || !(s.ring.nbr west).live || (s.ring.nbr west).station != station) = found
  have h1 := steady_raisedIf u found (20 + b2n west)
  have h2 := steady_raisedIf (u.raisedIf found (20 + b2n west)) (station.toNat == s.stationId) (22 + b2n west)
  have hr : (State.done ((u.raisedIf found (20 + b2n west)).raisedIf (station.toNat == s.stationId) (22 + b2n west)) s).ring
      = u.ring := (Still.done _ s).ring.trans (h1.trans h2).ring
  have hd := (Calm.refl
    ((u.raisedIf found (20 + b2n west)).raisedIf (station.toNat == s.stationId) (22 + b2n west))).done s
  refine ⟨?_, ?_, fun h => ?_, fun h => ?_⟩
  · rw [hr, ← hu]
    exact State.nbr_setNbr_same _ _ _
  · rw [hr, ← hu]
    exact State.nbr_setNbr_not _ _ _
  · have ht : found = true := by
      rw [← hf]
      obtain h | h := h <;> simp [h]
    refine hd.pend _ (h2.calm.pend _ ?_)
    rw [ht]
    exact State.pend_raisedIf u _
  · refine hd.pend _ ?_
    rw [show (station.toNat == s.stationId) = true from beq_iff_eq.2 h]
    exact State.pend_raisedIf _ _

theorem State.loseNbr_eq (s u : State) (west : Bool)
    (hu : u = s.until ((s.ring.nbr west).lastHb + s.fld 0x15200004 23 16 * s.hbPeriod)) :
    s.loseNbr west = (u.setNbr west { s.ring.nbr west with live := false }).raise0 1 (18 + b2n west) := by
  rw [hu]
  rfl

theorem exec_neighbourLost {s : State} {west : Bool} (hm : s.ringMode = 1 ∨ s.ringMode = 2) (hl : (s.ring.nbr west).live = true) :
    exec (.neighbourLost west) s = .next ((s.loseNbr west).done s) :=
  act_true (by rw [hl, Bool.and_true, Bool.or_eq_true, beq_iff_eq, beq_iff_eq]; exact hm) _ _

theorem runs_neighbourLost (s : State) (west : Bool) (hm : s.ringMode = 1 ∨ s.ringMode = 2)
    (hl : (s.ring.nbr west).live = true) :
    Runs (.neighbourLost west) s fun t =>
      t.now = max s.now ((s.ring.nbr west).lastHb + s.fld 0x15200004 23 16 * s.hbPeriod)
        ∧ t.ring.nbr west = { s.ring.nbr west with live := false } ∧ t.ring.nbr (!west) = s.ring.nbr (!west)
        ∧ (t.src (evSrc 1 (18 + b2n west))).pend = true := by
  refine ⟨_, exec_neighbourLost hm hl, ?_⟩
  dsimp only
  rw [State.loseNbr_eq s _ west rfl]
  generalize hu : s.until ((s.ring.nbr west).lastHb + s.fld 0x15200004 23 16 * s.hbPeriod) = u
  have hn : u.now = max s.now ((s.ring.nbr west).lastHb + s.fld 0x15200004 23 16 * s.hbPeriod) := by
    rw [← hu, State.until_now]
  have hr : u.ring = s.ring := by rw [← hu, State.until_frame]
  have hs := steady_raise0 1 (18 + b2n west) (u.setNbr west { s.ring.nbr west with live := false })
  have hd := Still.done ((u.setNbr west { s.ring.nbr west with live := false }).raise0 1 (18 + b2n west)) s
  refine ⟨(hd.now.trans hs.now).trans hn, ?_, ?_, ?_⟩
  · rw [hd.ring.trans hs.ring]
    exact State.nbr_setNbr_same _ _ _
  · rw [hd.ring.trans hs.ring, State.nbr_setNbr_not, hr]
  · exact ((Calm.refl _).done s).pend _ (State.pend_raise0_same _ _ _)

/-! ### Heartbeats out -/

theorem State.joined_congr {s t : State} (h : t.regs = s.regs) (p : Nat) : t.joined p = s.joined p := by
  unfold State.joined State.joinBit State.ringMode State.fld
  rw [flag_congr h, State.reg, State.reg, h]

/-- A joined port's heartbeat takes the next number; nothing but the switch's queues and the number changes. -/
theorem State.sendHeartbeat_keeps (s : State) (p : Nat) :
    (s.sendHeartbeat p).now = s.now ∧ (s.sendHeartbeat p).regs = s.regs ∧
      (s.sendHeartbeat p).ring.hbSeq = if s.joined p then (s.ring.hbSeq + 1) % 2 ^ 32 else s.ring.hbSeq := by
  unfold State.sendHeartbeat
  cases hj : s.joined p
  · exact ⟨rfl, rfl, rfl⟩
  · have h := still_enqueue { s with ring := { s.ring with hbSeq := (s.ring.hbSeq + 1) % 2 ^ 32 } } p (s.fld 0x15200004 26 24)
      { frame := s.heartbeatFrame p, tc := s.fld 0x15200004 26 24, answer := true, since := s.now }
    exact ⟨h.now, h.regs, congrArg Ring.hbSeq h.ring⟩

theorem runs_heartbeatSend (s : State) (h : s.canHeartbeat = true) :
    Runs .heartbeatSend s fun t => t.now = s.now + s.hbPeriod
      ∧ t.ring.hbSeq = (s.ring.hbSeq + b2n (s.joined 32) + b2n (s.joined 33)) % 2 ^ 32 := by
  refine ⟨_, act_true h s.heartbeats s, ?_⟩
  have hd := Still.done s.heartbeats s
  have ha : (s.advance s.hbPeriod).regs = s.regs := rfl
  obtain ⟨hn1, hr1, hq1⟩ := State.sendHeartbeat_keeps (s.advance s.hbPeriod) 32
  obtain ⟨hn2, -, hq2⟩ := State.sendHeartbeat_keeps ((s.advance s.hbPeriod).sendHeartbeat 32) 33
  refine ⟨(hd.now.trans hn2).trans hn1, (congrArg Ring.hbSeq hd.ring).trans (hq2.trans ?_)⟩
  rw [State.joined_congr (hr1.trans ha), hq1, State.joined_congr ha]
  show (if s.joined 33 = true then
    ((if s.joined 32 = true then (s.ring.hbSeq + 1) % 2 ^ 32 else s.ring.hbSeq) + 1) % 2 ^ 32
    else if s.joined 32 = true then (s.ring.hbSeq + 1) % 2 ^ 32 else s.ring.hbSeq) = _
  have hj : (s.joined 32 || s.joined 33) = true := by
    rw [State.canHeartbeat, Bool.and_eq_true] at h
    exact h.1
  cases h32 : s.joined 32 <;> cases h33 : s.joined 33
  · rw [h32, h33] at hj
    cases hj
  · rfl
  · rfl
  · show ((s.ring.hbSeq + 1) % 2 ^ 32 + 1) % 2 ^ 32 = (s.ring.hbSeq + 1 + 1) % 2 ^ 32
    omega

/-! ### Links that go down, bypass -/

theorem State.up_setPort (s : State) (p q : Nat) (x : Port) :
    ((s.setPort p x).port q).up = if q = p then x.up else (s.port q).up := by
  unfold State.port State.setPort
  dsimp only
  split
  next h => rw [h, NMap.getD_set_same]
  next h => rw [NMap.getD_set_other _ _ _ _ _ h]

theorem State.up_indicate (s : State) (p k q : Nat) : ((s.indicate p k).port q).up = (s.port q).up := by
  unfold State.indicate
  dsimp only
  split
  · rfl
  · split
    · rw [State.port, (still_count _ _ _ _).ports, ← State.port, State.up_setPort]
      split
      next h => rw [h]
      next h => rfl
    · rfl

/-- A sub-port that goes down: no other does, and the RING block and the time stay. -/
theorem State.linkDown_keeps (s : State) (p : Nat) :
    (s.linkDown p).now = s.now ∧ (s.linkDown p).ring = s.ring ∧ ((s.linkDown p).port p).up = false
      ∧ ∀ q, (s.port q).up = false → ((s.linkDown p).port q).up = false := by
  unfold State.linkDown
  cases h : (s.port p).up
  · exact ⟨rfl, rfl, h, fun q hq => hq⟩
  · rw [if_pos rfl]
    have hr := still_raise0 (portGroup p) (8 + portSub p) (s.setPort p { s.port p with up := false })
    have hi := indicated_indicate ((s.setPort p { s.port p with up := false }).raise0 (portGroup p) (8 + portSub p)) p 7
    have hu (q : Nat) : ((((s.setPort p { s.port p with up := false }).raise0 (portGroup p) (8 + portSub p)).indicate p 7).port
        q).up = if q = p then false else (s.port q).up := by
      rw [State.up_indicate, State.port, hr.ports, ← State.port, State.up_setPort]
    refine ⟨?_, ?_, ?_, fun q hq => ?_⟩
    · rw [hi]
      exact hr.now
    · rw [hi]
      exact hr.ring
    · rw [hu, if_pos rfl]
    · rw [hu, hq, ite_self]

/-- The ring ports once the bypass has settled. -/
def State.bypassed (s u : State) : State := State.linksDown [32, 33] { u with ring := { s.ring with held := true } }

theorem State.bypassed_keeps (s u : State) :
    (s.bypassed u).now = u.now ∧ (s.bypassed u).ring = { s.ring with held := true }
      ∧ ((s.bypassed u).port 32).up = false ∧ ((s.bypassed u).port 33).up = false := by
  obtain ⟨hn1, hr1, hd1, -⟩ := State.linkDown_keeps { u with ring := { s.ring with held := true } } 32
  obtain ⟨hn2, hr2, hd2, ho2⟩ := State.linkDown_keeps (State.linkDown 32 { u with ring := { s.ring with held := true } }) 33
  exact ⟨hn2.trans hn1, hr2.trans hr1, ho2 32 hd1, hd2⟩

theorem exec_bypassSettled {s : State} (u : State) {at_ : Nat} (h : s.ring.byp = some at_) (hh : s.ring.held = false)
    (hu : u = s.until (at_ + s.fld 0x1520000C 15 8 * 1000000)) :
    exec .bypassSettled s = .next ((s.bypassed u).done s) := by
  have hr : u.ring = s.ring := by rw [hu, State.until_frame]
  dsimp only [exec]
  unfold execBypassSettled
  rw [h]
  dsimp only
  rw [← hu, hr, act_true (by rw [hh]; rfl)]
  rfl

theorem runs_bypassSettled (s : State) (at_ : Nat) (h : s.ring.byp = some at_) (hh : s.ring.held = false) :
    Runs .bypassSettled s fun t => t.ring = { s.ring with held := true } ∧ (t.port 32).up = false ∧ (t.port 33).up = false
      ∧ t.now = max s.now (at_ + s.fld 0x1520000C 15 8 * 1000000) := by
  obtain ⟨u, hu⟩ : ∃ u, u = s.until (at_ + s.fld 0x1520000C 15 8 * 1000000) := ⟨_, rfl⟩
  have hn : u.now = max s.now (at_ + s.fld 0x1520000C 15 8 * 1000000) := by rw [hu, State.until_now]
  refine ⟨_, exec_bypassSettled u h hh hu, ?_⟩
  rw [← hn]
  obtain ⟨kn, kr, k32, k33⟩ := State.bypassed_keeps s u
  have hd := Still.done (s.bypassed u) s
  have hp (q : Nat) : ((s.bypassed u).done s).port q = (s.bypassed u).port q := by
    rw [State.port, hd.ports]
    rfl
  exact ⟨hd.ring.trans kr, by rw [hp]; exact k32, by rw [hp]; exact k33, hd.now.trans kn⟩

/-- Settles O33. -/
theorem ringAndPauseFrames : Obligations.RingAndPauseFrames := by
  refine ⟨⟨fun s p opcode hp ha => ?_, fun s ha => ?_, runs_heartbeatReceive⟩, runs_heartbeatSend, runs_neighbourLost,
    runs_bypassSettled, fun s hp hh hn => ?_⟩
  · rw [exec_pauseFrameReceive opcode (by omega) ha, pauseKind_port opcode hp]
    rfl
  · exact exec_pauseFrameReceive 1#16 (by decide) ha
  · exact act_true (by rw [hp, hh, hn]; rfl) _ _

end Sys2Proof.Machine
end

section
/-!
PROOFS. The forwarding and path windows (spec/09: R224, R235) and the shaper window (spec/12: R278, R283).
-/

namespace Sys2Proof.Machine

open Sys2Proof

/-! ### Forwarding entries -/

theorem State.dropFwd_of (s : State) {ep : Nat} {e : Fwd} (h : NMap.get? s.crown.fwd ep = some e) :
    s.dropFwd ep = { s with crown := { s.crown with
      fwd := NMap.erase s.crown.fwd ep
      paths := if e.learned then NMap.erase s.crown.paths e.path else s.crown.paths } } := by
  unfold State.dropFwd
  rw [h]

theorem NMap.has_of {α : Type} {m : NMap α} {k : Nat} {v : α} (h : NMap.get? m k = some v) : NMap.has m k = true := by
  rw [NMap.has, h]
  rfl

theorem NMap.has_of_none {α : Type} {m : NMap α} {k : Nat} (h : NMap.get? m k = none) : NMap.has m k = false := by
  rw [NMap.has, h]
  rfl

theorem State.writeFwd_invalid (s : State) (ep w : W32) (h : (fwdOf w).ok = false) : s.writeFwd ep w = s.fwdDone 3 := by
  unfold State.writeFwd
  dsimp only
  rw [h]
  rfl

/-- A valid entry of no key that the table holds, into a set with room. -/
theorem State.writeFwd_room (s : State) (ep w : W32) (h : (fwdOf w).ok = true) (hv : bit w 31 = true)
    (hn : NMap.get? s.crown.fwd ep.toNat = none) (hr : (s.setOf ep).length < 8) :
    s.writeFwd ep w = { s with crown := { s.crown with fwd := NMap.set s.crown.fwd ep.toNat (fwdOf w), fwdResult := 0 } } := by
  unfold State.writeFwd
  dsimp only
  rw [h, hv, NMap.has_of_none hn, Bool.not_true, if_neg (by decide), if_neg (by decide), if_neg (by decide), if_pos hr]
  rfl

theorem exec_fwdEntryRead_hit {s : State} {e : Fwd} (h : NMap.get? s.crown.fwd (s.reg 0x13000200).toNat = some e) :
    exec .fwdEntryRead s = .next ((s.fwdDone 0).endWith (s.regs.put 0x13000204 e.word) s) := by
  dsimp only [exec]
  unfold execFwdEntryRead
  rw [h]
  exact actR_true rfl _ _ _

theorem exec_fwdEntryRead_miss {s : State} (h : NMap.get? s.crown.fwd (s.reg 0x13000200).toNat = none) :
    exec .fwdEntryRead s = .next ((s.fwdDone 1).done s) := by
  dsimp only [exec]
  unfold execFwdEntryRead
  rw [h]
  exact act_true rfl _ _

theorem exec_fwdEntryDelete_miss {s : State} (h : NMap.get? s.crown.fwd (s.reg 0x13000200).toNat = none) :
    exec .fwdEntryDelete s = .next ((s.fwdDone 1).done s) := by
  dsimp only [exec]
  unfold execFwdEntryDelete
  dsimp only
  rw [NMap.has_of_none h]
  exact act_true rfl _ _

theorem exec_fwdEntryDelete_hit {s : State} {e : Fwd} (h : NMap.get? s.crown.fwd (s.reg 0x13000200).toNat = some e) :
    exec .fwdEntryDelete s = .next (((s.dropFwd (s.reg 0x13000200).toNat).fwdDone 0).done s) := by
  dsimp only [exec]
  unfold execFwdEntryDelete
  dsimp only
  rw [NMap.has_of h]
  exact act_true rfl _ _

theorem exec_learnedEntryAgeOut {s : State} {ep : W32} {e : Fwd} (h : NMap.get? s.crown.fwd ep.toNat = some e)
    (hl : e.learned = true) :
    exec (.learnedEntryAgeOut ep) s
      = .next (((s.until (e.refreshed + s.fld 0x13000014 15 0 * 1000000000)).dropFwd ep.toNat).done s) := by
  dsimp only [exec]
  unfold execLearnedEntryAgeOut
  rw [h]
  exact act_true hl _ _

/-- An aged learned entry goes, with its path record. -/
theorem State.dropFwd_aged (s u : State) {ep t : Nat} {e : Fwd} (hu : u = s.until t) (h : NMap.get? s.crown.fwd ep = some e)
    (hl : e.learned = true) :
    u.dropFwd ep = { u with crown := { s.crown with
      fwd := NMap.erase s.crown.fwd ep, paths := NMap.erase s.crown.paths e.path } } := by
  have hc : u.crown = s.crown := by rw [hu, State.until_frame]
  rw [u.dropFwd_of (by rw [hc]; exact h), hc, if_pos hl]

/-! ### Shapers -/

theorem State.shaperSel_sess {s : State} (h : s.flag 0x12000020 31 = false) : s.shaperSel = true := by
  rw [State.shaperSel, h]
  rfl

theorem State.shaperSel_ns {s : State} (h : s.fld 0x12000020 13 0 < 4096) : s.shaperSel = true := by
  rw [State.shaperSel, decide_eq_true h, Bool.or_true]

theorem State.shaperWrite_sess {s : State} (h : s.flag 0x12000020 31 = false) :
    s.shaperWrite
      = s.writeSessShaper true (s.fld 0x12000020 13 0) (s.fld 0x12000024 31 16) (s.fld 0x12000024 15 0) := by
  unfold State.shaperWrite
  rw [State.shaperSel_sess h, h]
  rfl

theorem State.shaperWrite_ns {s : State} (h : s.flag 0x12000020 31 = true) (hi : s.fld 0x12000020 13 0 < 4096) :
    s.shaperWrite = s.writeNsShaper (s.fld 0x12000020 13 0) (s.fld 0x12000024 31 16) (s.fld 0x12000024 15 0) := by
  unfold State.shaperWrite
  rw [State.shaperSel_ns hi, h]
  rfl

theorem exec_shaperWrite {s : State} (h : s.shaperSel = true) : exec .shaperWrite s = .next (s.shaperWrite.done s) :=
  act_true h _ _

theorem clamped_between {lo hi : Nat} (h : lo ≤ hi) (x : Nat) : lo ≤ max lo (min hi x) ∧ max lo (min hi x) ≤ hi := by omega

theorem bne_toNat_eq_zero {a b : Nat} : b2n (a != b) = 0 ↔ a = b := by
  unfold b2n
  split
  next h => rw [bne_iff_ne] at h; simp [h]
  next h => rw [bne_iff_ne, Decidable.not_not] at h; simp [h]

/-- RATE and BURST stay within their bounds, and the clamps are counted (R278). -/
theorem State.clampQos_bounds (s : State) (rate burst : Nat) (hb : s.fld 0x12000008 15 0 ≤ s.fld 0x12000008 31 16)
    (hc : s.fld 0x1200000C 15 0 ≤ s.fld 0x1200000C 31 16) :
    let x := s.clampQos rate burst
    (rate = 0 → x.1 = 0) ∧ (rate ≠ 0 → s.fld 0x12000008 15 0 ≤ x.1 ∧ x.1 ≤ s.fld 0x12000008 31 16)
      ∧ s.fld 0x1200000C 15 0 ≤ x.2.1 ∧ x.2.1 ≤ s.fld 0x1200000C 31 16
      ∧ (x.2.2 = 0 ↔ x.1 = rate ∧ x.2.1 = burst) := by
  have hk := clamped_between hc burst
  have hn : (s.clampQos rate burst).2.2 = 0 ↔ (s.clampQos rate burst).1 = rate ∧ (s.clampQos rate burst).2.1 = burst := by
    show b2n _ + b2n _ = 0 ↔ _
    rw [Nat.add_eq_zero_iff, bne_toNat_eq_zero, bne_toNat_eq_zero]
    rfl
  refine ⟨fun h => ?_, fun h => ?_, hk.1, hk.2, hn⟩
  · show (if rate == 0 then 0 else _) = 0
    rw [h]
    rfl
  · have hr : (s.clampQos rate burst).1 = max (s.fld 0x12000008 15 0) (min (s.fld 0x12000008 31 16) rate) := by
      show (if rate == 0 then 0 else _) = _
      rw [beq_eq_false_iff_ne.2 h]
      rfl
    rw [hr]
    exact clamped_between hb rate

/-- Settles O35. -/
theorem forwardingAndShaperWindows : Obligations.ForwardingAndShaperWindows := by
  refine ⟨⟨fun s e h => exec_fwdEntryRead_hit h, fun s h => ⟨exec_fwdEntryRead_miss h, exec_fwdEntryDelete_miss h⟩,
    fun s => ?_, fun s h => ?_, fun s e h => ?_, fun s => rfl, fun s ep e h hl => ?_⟩, fun s h => ?_, fun s h => ?_,
    fun s h hi => ?_, State.clampQos_bounds⟩
  · intro e h hv hn hr
    rw [← State.writeFwd_room s _ _ h hv hn hr]
    exact act_true rfl _ _
  · rw [show (State.done { s with crown := { s.crown with fwdResult := 3 } } s) = (s.fwdDone 3).done s from rfl,
      ← State.writeFwd_invalid s (s.reg 0x13000200) _ h]
    exact act_true rfl _ _
  · rw [exec_fwdEntryDelete_hit h, s.dropFwd_of h]
    rfl
  · intro u
    rw [exec_learnedEntryAgeOut h hl, State.dropFwd_aged s u rfl h hl]
  · exact actR_true h _ _ _
  · intro x i
    rw [exec_shaperWrite (State.shaperSel_sess h), State.shaperWrite_sess h]
    rfl
  · intro x
    rw [exec_shaperWrite (State.shaperSel_ns hi), State.shaperWrite_ns h hi]
    rfl

end Sys2Proof.Machine
end

section
/-!
PROOFS. Links, the Timebase's operations and gate edges (spec/10: R240, R248, R251, R252).
-/

namespace Sys2Proof.Machine

open Sys2Proof

/-! ### Links -/

theorem exec_linkUp {s : State} {p : Nat} (h : s.canLink p = true) : exec (.linkUp p) s = .next ((s.linkUp p).done s) :=
  act_true h _ _

theorem State.linkDown_up {s : State} {p : Nat} (h : (s.port p).up = true) :
    s.linkDown p
      = ((s.setPort p { s.port p with up := false }).raise0 (portGroup p) (8 + portSub p)).indicate p 7 := if_pos h

theorem exec_linkDown {s : State} {p : Nat} (pcs : Bool) (hp : p < 34) (h : (s.port p).up = true) :
    exec (.linkDown p pcs) s = .next ((if pcs then (s.linkDown p).indicate p 6 else s.linkDown p).done s) :=
  act_true (by rw [show linkPoint p = true from decide_eq_true hp, h]; rfl) _ _

theorem portGroup_fabric {p : Nat} (h : p < 32) : portGroup p = 12 + p / 4 ∧ portSub p = p % 4 := ⟨if_pos h, if_pos h⟩

/-! ### The Timebase -/

/-- A time in ns that is within the Timebase's range is loaded as it is. -/
theorem State.loadTime_ns (s : State) {t : Nat} (h : t < 2 ^ 48 * 1000000000) :
    (s.loadTime t).time.sec * 1000000000 + (s.loadTime t).time.ns = t ∧ (s.loadTime t).time.ns < 1000000000
      ∧ (s.loadTime t).time = { s.time with sec := (s.loadTime t).time.sec, ns := (s.loadTime t).time.ns } := by
  refine ⟨?_, Nat.mod_lt _ (by decide), rfl⟩
  show t / 1000000000 % 2 ^ 48 * 1000000000 + t % 1000000000 = t
  have hq : t / 1000000000 < 2 ^ 48 := (Nat.div_lt_iff_lt_mul (by decide)).2 h
  rw [Nat.mod_eq_of_lt hq]
  exact Nat.div_add_mod' _ _

theorem State.timeSet_eq (s : State) {t : Nat}
    (ht : t = (s.fld 0x1700001C 15 0 * 2 ^ 32 + (s.reg 0x17000018).toNat) * 1000000000 + s.fld 0x17000014 29 0) :
    s.timeSet = { s with time := { s.time with sec := t / 1000000000 % 2 ^ 48, ns := t % 1000000000, frac := 0 } } := by
  unfold State.timeSet
  dsimp only
  rw [← ht]
  rfl

theorem exec_timebaseSet (s : State) :
    let t := (s.fld 0x1700001C 15 0 * 2 ^ 32 + (s.reg 0x17000018).toNat) * 1000000000 + s.fld 0x17000014 29 0
    exec .timebaseSet s = .next (State.done { s with time := { s.time with
      sec := t / 1000000000 % 2 ^ 48, ns := t % 1000000000, frac := 0 } } s) := by
  intro t
  rw [← State.timeSet_eq s (t := t) rfl]
  exact act_true rfl s.timeSet s

theorem State.timeStep_eq (s : State) {x : Int}
    (hx : ((s.time.sec * 1000000000 + s.time.ns : Nat) : Int) + sInt 32 (s.reg 0x17000024).toNat = x) :
    s.timeStep = s.loadTime (x % (2 ^ 48 * 1000000000)).toNat := by
  have hc : ((2 ^ 48 * 1000000000 : Nat) : Int) = 2 ^ 48 * 1000000000 := rfl
  unfold State.timeStep State.tbNs
  dsimp only
  rw [hx, hc]

theorem runs_timebaseStep (s : State) : Runs .timebaseStep s fun t =>
    ((t.time.sec * 1000000000 + t.time.ns : Nat) : Int)
        = (((s.time.sec * 1000000000 + s.time.ns : Nat) : Int) + sInt 32 (s.reg 0x17000024).toNat) % (2 ^ 48 * 1000000000)
      ∧ t.time.ns < 1000000000
      ∧ t.time = { s.time with sec := t.time.sec, ns := t.time.ns } := by
  refine ⟨_, act_true rfl s.timeStep s, ?_⟩
  dsimp only
  rw [(Still.done s.timeStep s).time]
  generalize hx : (((s.time.sec * 1000000000 + s.time.ns : Nat) : Int) + sInt 32 (s.reg 0x17000024).toNat) = x
  have hl : 0 ≤ x % (2 ^ 48 * 1000000000) ∧ x % (2 ^ 48 * 1000000000) < 2 ^ 48 * 1000000000 :=
    ⟨Int.emod_nonneg _ (by decide), Int.emod_lt_of_pos _ (by decide)⟩
  obtain ⟨hv, hn, hk⟩ := s.loadTime_ns (t := (x % (2 ^ 48 * 1000000000)).toNat) (by omega)
  rw [s.timeStep_eq hx]
  exact ⟨by rw [hv]; exact Int.toNat_of_nonneg hl.1, hn, hk⟩

theorem State.regs_untilTb (s : State) (t : Nat) : (s.untilTb t).regs = s.regs := by
  have h (d : Nat) : (s.advance d).regs = s.regs := rfl
  unfold State.untilTb
  rw [apply_ite State.regs, h, ite_self]

theorem State.ppsOut_eq (s u : State)
    (hu : u = s.untilTb ((if s.time.ns < s.fld 0x17000030 29 0 then s.time.sec else s.time.sec + 1) * 1000000000
      + s.fld 0x17000030 29 0)) :
    s.ppsOut = { u with time := { u.time with ppsHigh := some (u.now + s.fld 0x17000034 15 0 * 1000) } } := by
  have hr : u.regs = s.regs := by
    rw [hu, State.regs_untilTb]
  have hf : u.fld 0x17000034 15 0 = s.fld 0x17000034 15 0 := by
    unfold State.fld State.reg
    rw [hr]
  unfold State.ppsOut
  dsimp only
  rw [← hu, hf]

theorem exec_ppsOutPulse {s : State} (h : s.tbOn = true) (hf : s.flag 0x17000000 1 = true)
    (ho : s.fld 0x17000030 29 0 < 1000000000) : exec .ppsOutPulse s = .next (s.ppsOut.done s) :=
  act_true (by rw [h, hf, decide_eq_true ho]; rfl) _ _

theorem State.gateRuns_of {s : State} {p : Nat} {g : GateList} (h : s.tbOn = true) (hg : (s.port p).gate = some g)
    (hc : 0 < g.cycle) : s.gateRuns p = true := by
  rw [State.gateRuns, h, hg]
  exact decide_eq_true hc

theorem State.gateAdvance_of {s : State} {p : Nat} {g : GateList} (hg : (s.port p).gate = some g) :
    s.gateAdvance p = s.untilTb (s.tbNs + g.edge s.tbNs) := by
  unfold State.gateAdvance
  rw [hg]

theorem exec_gateEntryAdvance {s : State} {p : Nat} {g : GateList} (hp : p < 34) (h : s.tbOn = true)
    (hg : (s.port p).gate = some g) (hc : 0 < g.cycle) :
    exec (.gateEntryAdvance p) s = .next ((s.untilTb (s.tbNs + g.edge s.tbNs)).done s) := by
  rw [← State.gateAdvance_of hg]
  exact act_true (by rw [show linkPoint p = true from decide_eq_true hp, State.gateRuns_of h hg hc]; rfl) _ _

theorem exec_ppsInCapture {s : State} (h : s.seed.boot ≠ .reset) (hd : s.seed.boot ≠ .heldDead) :
    exec .ppsInCapture s = .next (s.ppsIn.done s) :=
  act_true (by rw [bne_iff_ne.2 h, bne_iff_ne.2 hd]; rfl) _ _

/-- Settles O36. -/
theorem linksAndTimebase : Obligations.LinksAndTimebase := by
  refine ⟨⟨fun s p h => exec_linkUp h, fun s p pcs hp h => ?_, fun p h => portGroup_fabric h, rfl, rfl⟩, exec_timebaseSet,
    runs_timebaseStep, fun s h hd => exec_ppsInCapture h hd, fun s h hf ho => ?_,
    fun s p g hp h hg hc => exec_gateEntryAdvance hp h hg hc⟩
  · intro u
    rw [exec_linkDown pcs hp h, State.linkDown_up h]
    rfl
  · intro off u
    rw [exec_ppsOutPulse h hf ho, State.ppsOut_eq s u rfl]

end Sys2Proof.Machine
end

section
/-!
PROOFS. The management port: MDIO, PHY polling and half duplex (spec/10: R255, R256; spec/20: R415).
-/

namespace Sys2Proof.Machine

open Sys2Proof

/-! ### MDIO and the PHY -/

theorem exec_phyAutoPoll {s : State} {r1 r4 r5 r9 r10 : BitVec 16} {sp : Nat} {full : Bool} (hp : s.portOn 34 = true)
    (ha : s.flag 0x16000000 1 = true ∨ s.seed.boot = .recovery) (hr : resolvePhy r1 r4 r5 r9 r10 = some (sp, full)) :
    exec (.phyAutoPoll r1 r4 r5 r9 r10) s
      = .next (State.done { s with mmac := { s.mmac with speed := sp, full := full } } s) := by
  have hauto : s.autoOn = true := by
    rw [State.autoOn, Bool.or_eq_true, beq_iff_eq]
    exact ha
  dsimp only [exec]
  unfold execPhyAutoPoll
  rw [hr]
  exact act_true (by rw [hp, hauto]; rfl) _ _

/-! ### Collisions -/

theorem State.attempting_of {s : State} {f : QFrame} (h : s.halfDuplex = true) (hc : s.mmac.cur = some f)
    (hb : s.mmac.backoff = none) : s.attempting = true := by
  rw [State.attempting, h, hc, hb]
  rfl

theorem State.mmac_indicate34 (s : State) (k : Nat) :
    ∃ ind, (s.indicate 34 k).mmac = { s.mmac with ind := ind } := ⟨_, rfl⟩

/-- The state after `n` bit times of an attempt that has collided: no carrier, kind 6 counted. -/
def State.collided (s : State) (n : Nat) : State :=
  State.indicate { s.advance (n * s.mgmtBit) with mmac := { s.mmac with carrier := false } } 34 6

theorem State.collided_keeps (s : State) (n : Nat) :
    (s.collided n).now = s.now + n * s.mgmtBit ∧ (s.collided n).mgmtBit = s.mgmtBit
      ∧ ∃ ind, (s.collided n).mmac = { s.mmac with carrier := false, ind := ind } :=
  ⟨rfl, rfl, _, rfl⟩

/-- A collision within 512 bit times backs off by a free number of slots below 2^min(n, 10). -/
theorem State.collide_backs (s : State) {n : Nat} (hn : n ≤ 512) (hc : s.mmac.collisions < 15) :
    s.collide n =
      let u := s.collided n
      let r := u.draw (2 ^ min (s.mmac.collisions + 1) 10)
      { r.2 with mmac := { r.2.mmac with
          collisions := s.mmac.collisions + 1, backoff := some (r.2.now + (32 + 512 * r.1) * r.2.mgmtBit) } } := by
  unfold State.collide
  dsimp only
  rw [if_neg (by omega), if_neg (by show ¬s.mmac.collisions + 1 ≥ 16; omega)]
  rfl

theorem State.collide_gives_up (s : State) {n : Nat} (hn : n ≤ 512) (hc : 15 ≤ s.mmac.collisions) :
    s.collide n = ((s.collided n).dropAttempt.indicate 34 8).raise0 7 24 := by
  unfold State.collide
  dsimp only
  rw [if_neg (by omega), if_pos (by show s.mmac.collisions + 1 ≥ 16; omega)]
  rfl

theorem State.draw_lt (s : State) {n : Nat} (h : 0 < n) : (s.draw n).1 < n := by
  unfold State.draw
  dsimp only
  rw [if_neg (by rw [beq_iff_eq]; omega)]
  exact Nat.mod_lt _ h

theorem exec_mgmtCollision {s : State} (n : Nat) (h : s.attempting = true) :
    exec (.mgmtCollision n) s = .next ((s.collide n).done s) := act_true h _ _

theorem runs_mgmtCollision (s : State) (n : Nat) (h : s.attempting = true) (hn : n ≤ 512) (hc : s.mmac.collisions < 15) :
    Runs (.mgmtCollision n) s fun t => t.mmac.collisions = s.mmac.collisions + 1 ∧ t.mmac.cur = s.mmac.cur
      ∧ ∃ k < 2 ^ min (s.mmac.collisions + 1) 10,
        t.mmac.backoff = some (s.now + n * s.mgmtBit + (32 + 512 * k) * s.mgmtBit) := by
  refine ⟨_, exec_mgmtCollision n h, ?_⟩
  dsimp only
  rw [(Still.done (s.collide n) s).mmac]
  obtain ⟨hnow, hbit, ind, hm⟩ := s.collided_keeps n
  have hcur : (s.collided n).mmac.cur = s.mmac.cur := by rw [hm]
  dsimp only
  rw [State.collide_backs s hn hc]
  refine ⟨rfl, hcur, _, State.draw_lt (s.collided n) (Nat.two_pow_pos _), ?_⟩
  rw [← hnow]
  rfl

theorem runs_mgmtCollision_16 (s : State) (n : Nat) (h : s.attempting = true) (hn : n ≤ 512) (hc : 15 ≤ s.mmac.collisions) :
    Runs (.mgmtCollision n) s fun t => t.mmac.cur = none ∧ t.mmac.backoff = none ∧ (t.src (evSrc 7 24)).pend = true := by
  refine ⟨_, exec_mgmtCollision n h, ?_⟩
  dsimp only
  rw [(Still.done (s.collide n) s).mmac, State.collide_gives_up s hn hc]
  have hr := still_raise0 7 24 ((s.collided n).dropAttempt.indicate 34 8)
  exact ⟨congrArg Mmac.cur hr.mmac, congrArg Mmac.backoff hr.mmac,
    ((Calm.refl _).done s).pend _ (State.pend_raise0_same 7 24 _)⟩

/-! ### The end of a back-off -/

theorem State.retryMgmt_sends (s u : State) {f : QFrame} {t : Nat} (hu : u = s.until t) (hb : s.mmac.backoff = some t)
    (hc : s.mmac.cur = some f) (hk : s.mmac.carrier = false) (ho : u.tooOld f.since = false) :
    s.retryMgmt = { u with
      mmac := { s.mmac with backoff := none, cur := some f, curAt := u.stampAt (s.tsCorr 34).1, carrier := true }
      out := { point := 34, frame := f.frame, time := u.now } :: s.out } := by
  have hf : u = { s with now := u.now, boughCycles := u.boughCycles, time := u.time, sap := u.sap } := by
    rw [hu]; exact State.until_frame _ _
  have hm : u.mmac = s.mmac := by rw [hf]
  have hout : u.out = s.out := by rw [hf]
  have hcorr : u.tsCorr 34 = s.tsCorr 34 := by rw [hf]; rfl
  unfold State.retryMgmt
  rw [hc, hb]
  dsimp only [Option.getD_some]
  rw [← hu, ho, if_neg (by decide), hm, hk, if_neg (by decide), ← hout, ← hcorr, ← hm]
  rfl

theorem State.retryMgmt_aged (s u : State) {f : QFrame} {t : Nat} (hu : u = s.until t) (hb : s.mmac.backoff = some t)
    (hc : s.mmac.cur = some f) (ho : u.tooOld f.since = true) :
    s.retryMgmt = u.dropAttempt.countAged 34 (34 * 8 + f.tc) := by
  unfold State.retryMgmt
  rw [hc, hb]
  dsimp only [Option.getD_some]
  rw [← hu, ho, if_pos rfl]

theorem exec_mgmtBackoffExpiry {s : State} {t : Nat} (h : s.mmac.backoff = some t) :
    exec .mgmtBackoffExpiry s = .next (s.retryMgmt.done s) := act_true (by rw [h]; rfl) _ _

/-! ### The carrier drops -/

theorem exec_carrierSenseDeassert {s : State} (lost : Bool) (h : s.halfDuplex = true) (hc : s.mmac.carrier = true)
    (hl : lost = true → s.attempting = true) :
    exec (.carrierSenseDeassert lost) s = .next ((s.carrierDrop lost).done s) := by
  refine act_true ?_ _ _
  rw [h, hc]
  cases lost
  · rfl
  · rw [hl rfl]
    rfl

theorem State.carrierDrop_idle {s : State} (h : s.attempting = false) :
    s.carrierDrop false = { s.advance (96 * s.mgmtBit) with mmac := { s.mmac with carrier := false } } := by
  unfold State.carrierDrop
  rw [h]
  rfl

/-- The end of MGMT's own attempt leaves its timestamp, where the frame asked for one. -/
def State.attemptSent (s : State) (f : QFrame) : State := if f.stamp then s.queueStamp 34 f.frame s.mmac.curAt else s

theorem State.carrierDrop_sent {s : State} {f : QFrame} (h : s.halfDuplex = true) (hc : s.mmac.cur = some f)
    (hb : s.mmac.backoff = none) :
    s.carrierDrop false =
      let u := (s.attemptSent f).dropAttempt
      { u.advance (96 * u.mgmtBit) with mmac := { u.mmac with carrier := false } } := by
  unfold State.carrierDrop
  dsimp only
  rw [State.attempting_of h hc hb, hc]
  rfl

/-- What the end of an attempt keeps, and its timestamp. -/
theorem State.attemptSent_keeps (s : State) (f : QFrame) :
    (s.attemptSent f).now = s.now ∧ (s.attemptSent f).mgmtBit = s.mgmtBit
      ∧ (f.stamp = false → (s.attemptSent f).time.txts = s.time.txts)
      ∧ (f.stamp = true → s.time.txts.length < 64 → (s.attemptSent f).time.txts.length = s.time.txts.length + 1) := by
  unfold State.attemptSent
  cases hf : f.stamp
  · exact ⟨rfl, rfl, fun _ => rfl, nofun⟩
  · rw [if_pos rfl]
    unfold State.queueStamp
    dsimp only
    by_cases hl : s.time.txts.length ≥ 64
    · rw [if_pos hl]
      have hs := still_raise0 7 17 s
      refine ⟨hs.now, ?_, nofun, fun _ h => absurd hl (by omega)⟩
      unfold State.mgmtBit State.autoOn State.flag State.fld State.reg
      rw [hs.regs, hs.mmac, hs.seed]
    · rw [if_neg hl]
      generalize hv : State.raise0 7 16 _ = v
      have hs := hv ▸ still_raise0 7 16 _
      refine ⟨hs.now, ?_, nofun, fun _ _ => ?_⟩
      · unfold State.mgmtBit State.autoOn State.flag State.fld State.reg
        rw [hs.regs, hs.mmac, hs.seed]
      · rw [hs.time]
        exact List.length_append

theorem State.txts_advance (s : State) (d : Nat) : (s.advance d).time.txts = s.time.txts := by
  show (if s.tbOn then s.time.run s.addend d else s.time).txts = s.time.txts
  split <;> rfl

theorem runs_carrierSenseDeassert (s : State) (f : QFrame) (h : s.halfDuplex = true) (hk : s.mmac.carrier = true)
    (hc : s.mmac.cur = some f) (hb : s.mmac.backoff = none) :
    Runs (.carrierSenseDeassert false) s fun t => t.mmac.cur = none ∧ t.mmac.carrier = false
      ∧ t.now = s.now + 96 * s.mgmtBit
      ∧ (f.stamp = false → t.time.txts = s.time.txts)
      ∧ (f.stamp = true → s.time.txts.length < 64 → t.time.txts.length = s.time.txts.length + 1) := by
  refine ⟨_, exec_carrierSenseDeassert false h hk nofun, ?_⟩
  have hd := Still.done (s.carrierDrop false) s
  dsimp only
  rw [hd.mmac, hd.now, hd.time, State.carrierDrop_sent h hc hb]
  obtain ⟨hnow, hbit, hn, hs⟩ := s.attemptSent_keeps f
  have ht : ((s.attemptSent f).dropAttempt.advance (96 * (s.attemptSent f).dropAttempt.mgmtBit)).time.txts
      = (s.attemptSent f).time.txts := State.txts_advance _ _
  refine ⟨rfl, rfl, ?_, fun h => ht.trans (hn h), fun h hl => (congrArg List.length ht).trans (hs h hl)⟩
  show (s.attemptSent f).now + 96 * (s.attemptSent f).mgmtBit = _
  rw [hnow, hbit]

theorem State.phyRelease_eq (s u : State) (hu : u = s.until s.mmac.phyHold) :
    s.phyRelease = { u with mmac := { s.mmac with phyRstN := true } } := by
  have hm : u.mmac = s.mmac := by rw [hu, State.until_frame]
  unfold State.phyRelease
  rw [← hu]
  dsimp only
  rw [hm]

/-- Settles O37. -/
theorem managementPort : Obligations.ManagementPort := by
  refine ⟨fun s hp hb => act_true (by rw [hp, hb]; rfl) _ _, fun s v hb => actR_true hb _ _ _,
    fun s r1 r4 r5 r9 r10 sp full hp ha hr => exec_phyAutoPoll hp ha hr, runs_mgmtCollision, runs_mgmtCollision_16,
    fun s f t hb hc hk => ?_, fun s f t hb hc => ?_, fun s h hc ha => ?_, runs_carrierSenseDeassert, fun s ha hc => ?_,
    fun s hp hb => ?_⟩
  · intro u ho
    rw [exec_mgmtBackoffExpiry hb, State.retryMgmt_sends s u rfl hb hc hk ho]
  · intro u ho
    rw [exec_mgmtBackoffExpiry hb, State.retryMgmt_aged s u rfl hb hc ho]
  · intro u
    rw [exec_carrierSenseDeassert false h hc nofun, State.carrierDrop_idle ha]
  · have hh : s.halfDuplex = true := by
      rw [State.attempting, Bool.and_eq_true, Bool.and_eq_true] at ha
      exact ha.1.1
    have hd : s.carrierDrop true = s.indicate 34 5 := by
      unfold State.carrierDrop
      rw [ha]
      rfl
    rw [exec_carrierSenseDeassert true hh hc fun _ => ha, hd]
  · intro u
    rw [← State.phyRelease_eq s u rfl]
    exact act_true (by rw [hp, bne_iff_ne.2 hb]; rfl) _ _

end Sys2Proof.Machine
end

section
/-!
PROOFS. Admin commands: reads and features (spec/03: R83 to R87; spec/18: R376, R377), sessions and keys (spec/03: R59, R78 to
R84; spec/11: R269, R270).
-/

namespace Sys2Proof.Machine

open Sys2Proof

/-! ### Taking up a command -/

theorem State.serveAdmin_of {s : State} {tag opc : Nat} {c : Cmd} (h : s.adminAt tag opc = some c) (sub : Cmd → Bool)
    (f : Cmd → State → State) (hs : sub c = true) : s.serveAdmin tag opc sub f = .next ((f c s).done s) := by
  unfold State.serveAdmin
  rw [h]
  exact act_true hs _ _

theorem State.serveAdminR_of {s : State} {tag opc : Nat} {c : Cmd} (h : s.adminAt tag opc = some c) (way : Cmd → Bool)
    (r : Cmd → Regs) (f : Cmd → State → State) (hs : way c = true) :
    s.serveAdminR tag opc way r f = .next ((f c s).endWith (r c) s) := by
  unfold State.serveAdminR
  rw [h]
  exact actR_true hs _ _ _

theorem Cmd.brought_hostData (c : Cmd) : c.brought c.hostData = true := beq_self_eq_true _

/-! ### Identify, log pages, features -/

theorem State.identify_of {s : State} {c : Cmd} {x : Session} (tag : Nat) (hx : s.sess? c.sid = some x) :
    s.identify tag c = (s.identifyData c x).elim (s.fail tag 0 2) fun l => s.pushAdmin tag l := by
  unfold State.identify
  rw [hx]
  dsimp only
  cases s.identifyData c x <;> rfl

theorem State.getLog_unknown {s : State} {c : Cmd} {x : Session} (tag : Nat) (hx : s.sess? c.sid = some x)
    (h : s.logPage (bits c.cdw10 7 0) c.sid x = none) : s.getLog tag c = s.fail tag 1 9 := by
  unfold State.getLog
  rw [hx]
  dsimp only
  rw [h]

theorem State.getLog_page {s u : State} {c : Cmd} {x : Session} {page : List Byte} (tag : Nat) (hx : s.sess? c.sid = some x)
    (h : s.logPage (bits c.cdw10 7 0) c.sid x = some (page, u))
    (ho : c.cdw12.toNat + c.cdw13.toNat * 2 ^ 32 ≤ page.length) :
    s.getLog tag c =
      let v := u.pushAdmin tag (slice page (c.cdw12.toNat + c.cdw13.toNat * 2 ^ 32) c.adminLen)
      if bit c.cdw10 15 then v else v.pageRead (bits c.cdw10 7 0) c.sid := by
  unfold State.getLog
  rw [hx]
  dsimp only
  rw [h]
  exact if_neg (by omega)

theorem State.getFeat_of {s : State} {c : Cmd} {x : Session} (tag : Nat) (hx : s.sess? c.sid = some x)
    (h : bits c.cdw10 10 8 < 2) :
    s.getFeat tag c = (s.getFeature c x (bits c.cdw10 10 8 == 1)).elim (s.fail tag 0 2) fun v =>
      s.finish tag { sct := 0, sc := 0, dw0 := v.1, dw1 := v.2 } := by
  unfold State.getFeat
  rw [hx]
  dsimp only
  rw [if_neg (by omega)]
  cases s.getFeature c x (bits c.cdw10 10 8 == 1) <;> rfl

/-- KATO (Table 3.12): 0 or 100 ms to an hour, rounded up to 100 ms. -/
theorem State.setFeat_kato {s : State} {c : Cmd} (tag : Nat) (h : bits c.cdw10 7 0 = 0x0F) :
    s.setFeat tag c = if c.cdw11.toNat = 0 ∨ (100 ≤ c.cdw11.toNat ∧ c.cdw11.toNat ≤ 3600000)
      then (s.modSess c.sid fun x => { x with kato := ceilDiv c.cdw11.toNat 100 * 100 }).finishOk tag
      else s.fail tag 0 2 := by
  have hf : s.setFeature c = if c.cdw11.toNat = 0 ∨ (100 ≤ c.cdw11.toNat ∧ c.cdw11.toNat ≤ 3600000)
      then some (s.modSess c.sid fun x => { x with kato := ceilDiv c.cdw11.toNat 100 * 100 }) else none := by
    unfold State.setFeature
    rw [h]
    simp only [Bool.or_eq_true, Bool.and_eq_true, beq_iff_eq, decide_eq_true_eq]
  unfold State.setFeat
  rw [hf]
  by_cases hc : c.cdw11.toNat = 0 ∨ (100 ≤ c.cdw11.toNat ∧ c.cdw11.toNat ≤ 3600000)
  · rw [if_pos hc, if_pos hc]
  · rw [if_neg hc, if_neg hc]

theorem State.featRegs_other {s : State} {c : Cmd} (h : bits c.cdw10 7 0 ≠ 0xC3) : s.featRegs c = s.regs :=
  if_neg (by rw [beq_iff_eq]; exact h)

/-! ### Register Read and Write -/

theorem State.regsWay_of {s : State} {c : Cmd}
    (h : c.regsOk = true → ∀ i < bits c.cdw11 8 0, s.bridges .admin (c.cdw10.toNat + 4 * i) = true) : s.regsWay c = true := by
  unfold State.regsWay
  cases hk : c.regsOk
  · rfl
  · exact List.all_eq_true.2 fun i hi => h hk i (List.mem_range.1 hi)

theorem State.regReads_ok {s : State} {c : Cmd} (h : c.regsOk = true) :
    s.regReads c = State.readSeq c.cdw10.toNat (bits c.cdw11 8 0) s := if_pos h

theorem State.regReads_bad {s : State} {c : Cmd} (h : c.regsOk = false) : s.regReads c = ([], s) :=
  if_neg (by rw [h]; decide)

theorem State.regRead_ok {s : State} {c : Cmd} (tag : Nat) (h : c.regsOk = true) :
    s.regRead tag c = (s.regReads c).2.pushAdmin tag ((s.regReads c).1.flatMap fun v => leBytes 4 v.toNat) :=
  if_neg (by rw [h]; decide)

theorem State.regRead_bad {s : State} {c : Cmd} (tag : Nat) (h : c.regsOk = false) : s.regRead tag c = s.fail tag 0 2 :=
  if_pos (by rw [h]; rfl)

theorem exec_registerRead {s : State} {tag : Nat} {c : Cmd} (h : s.adminAt tag 0xC4 = some c)
    (hw : c.regsOk = true → ∀ i < bits c.cdw11 8 0, s.bridges .admin (c.cdw10.toNat + 4 * i) = true) :
    exec (.registerRead tag) s = .next ((s.regRead tag c).endWith (s.regReads c).2.regs s) :=
  State.serveAdminR_of h _ _ _ (State.regsWay_of hw)

theorem exec_registerWrite {s : State} {tag : Nat} {c : Cmd} (h : s.adminAt tag 0xC5 = some c)
    (hw : c.regsOk = true → ∀ i < bits c.cdw11 8 0, s.bridges .admin (c.cdw10.toNat + 4 * i) = true) :
    exec (.registerWrite tag c.hostData) s
      = .next ((s.regWrite tag c.hostData c).endWith (s.regWrites c.hostData c).1.regs s) :=
  State.serveAdminR_of h _ _ _ (by rw [State.regsWay_of hw, c.brought_hostData]; rfl)

/-- A masked write that is rejected ends the command with 7/87, DW0 naming its word. -/
theorem State.regWrites_rejected {s : State} (data : List Byte) {c : Cmd} (h : c.regsOk = true) (hm : bit c.cdw11 31 = true)
    (hw : s.wrStatus .admin c.cdw10.toNat c.cdw12 (w32 c.cdw13.toNat) = 3) :
    (s.regWrites data c).2 = { sct := 7, sc := 0x87, dw0 := 0#32 } := by
  unfold State.regWrites State.writeSeq
  rw [h, hm]
  dsimp only [Bool.not_true]
  rw [if_neg (by decide), if_pos rfl, Nat.mul_zero, Nat.add_zero, hw]
  rfl

/-- Settles O52. -/
theorem adminReadsAndFeatures : Obligations.AdminReadsAndFeatures := by
  refine ⟨fun s tag c x h hx => ?_, fun s tag c x h hx hl => ?_, fun s u tag c x page h hx hl => ?_,
    fun s tag c x h hx hs => ?_, fun s tag c h hf => ?_, fun s tag c h => State.serveAdmin_of h _ _ rfl,
    fun s tag c h hn => ?_, fun s tag c h hn => ?_, fun s tag c h hk => ?_, fun s tag c h hk hw => ?_,
    fun s tag c h hw => exec_registerWrite h hw, fun s data c h hm hw => State.regWrites_rejected data h hm hw⟩
  · refine (State.serveAdmin_of h _ (fun c s => s.identify tag c) rfl).trans ?_
    rw [State.identify_of tag hx]
    cases s.identifyData c x <;> rfl
  · rw [← State.getLog_unknown tag hx hl]
    exact State.serveAdmin_of h _ _ rfl
  · intro off ho _ v
    rw [← State.getLog_page tag hx hl ho]
    exact State.serveAdmin_of h _ _ rfl
  · refine (State.serveAdmin_of h _ (fun c s => s.getFeat tag c) rfl).trans ?_
    rw [State.getFeat_of tag hx hs]
    cases s.getFeature c x (bits c.cdw10 10 8 == 1) <;> rfl
  · have hr : s.featRegs c = s.regs := State.featRegs_other (by rw [hf]; decide)
    rw [← State.setFeat_kato tag hf]
    refine (State.serveAdminR_of h _ _ _ rfl).trans ?_
    rw [hr]
    rfl
  · rw [show s.fail tag 1 5 = s.aer tag c from (if_pos hn).symm]
    exact State.serveAdmin_of h _ _ rfl
  · rw [show State.tryAer c.sid (s.begun tag .running) = s.aer tag c from (if_neg (by omega)).symm]
    exact State.serveAdmin_of h _ _ rfl
  · rw [exec_registerRead h (by rw [hk]; nofun), State.regRead_bad tag hk, State.regReads_bad hk]
  · intro r
    rw [exec_registerRead h fun _ => hw, State.regRead_ok tag hk, State.regReads_ok hk]

/-! ### Sessions and keys -/

theorem State.keyOp_cause {s : State} {data : List Byte} {c : Cmd} {k : Nat} (tag : Nat) (h : s.keyCause c data = some k) :
    s.keyOp tag data c = s.failCause tag k := by
  unfold State.keyOp
  dsimp only
  rw [h]

/-- A key goes into its slot, its station counter 0; the transmit slot changes, if it does, after the completion. -/
theorem State.keyOp_load {s : State} {data : List Byte} {c : Cmd} {k : BitVec 256 × BitVec 32} (tag : Nat)
    (h : s.keyCause c data = none) (hk : s.keyData c data = some k) (ho : c.keyOp < 2) :
    s.keyOp tag data c =
      let u := (s.putKey c.target c.keySlot (s.keyLimit c) k).finishOk tag
      u.selectKey c.target (if c.keyOp == 1 then c.keySlot else u.txOf c.target) := by
  unfold State.keyOp
  dsimp only
  rw [h, hk]
  dsimp only
  split
  next h3 => omega
  next h2 => omega
  next => rfl

theorem State.keyOp_select {s : State} {data : List Byte} {c : Cmd} (tag : Nat) (h : s.keyCause c data = none)
    (ho : c.keyOp = 2) : s.keyOp tag data c = (s.finishOk tag).selectKey c.target c.keySlot := by
  unfold State.keyOp
  rewrite [h, ho]
  rfl

theorem State.keyOp_clear {s : State} {data : List Byte} {c : Cmd} (tag : Nat) (h : s.keyCause c data = none)
    (ho : c.keyOp = 3) :
    s.keyOp tag data c = State.finishOk tag
      { s with bark := { s.bark with keys := NMap.erase s.bark.keys (2 * c.target + c.keySlot) } } := by
  unfold State.keyOp
  rewrite [h, ho]
  rfl

theorem exec_keyLoad {s : State} {tag : Nat} {c : Cmd} (h : s.adminAt tag 0xC8 = some c) (ho : c.keyOp = 0) :
    exec (.keyLoad tag c.hostData) s = .next ((s.keyOp tag c.hostData c).done s) :=
  State.serveAdmin_of h _ _ (by rw [ho, c.brought_hostData]; rfl)

theorem exec_keyLoadAndSelect {s : State} {tag : Nat} {c : Cmd} (h : s.adminAt tag 0xC8 = some c) (ho : c.keyOp = 1) :
    exec (.keyLoadAndSelect tag c.hostData) s = .next ((s.keyOp tag c.hostData c).done s) :=
  State.serveAdmin_of h _ _ (by rw [ho, c.brought_hostData]; rfl)

theorem State.sessClose_eq (s : State) (tag : Nat) (c : Cmd) :
    s.sessClose tag c = if s.closable c.target = false then s.fail tag 0 2
       else if c.target = c.sid then (s.finishOk tag).closeSession c.target none
       else (s.begun tag .running).closeSession c.target (some tag) := by
  unfold State.sessClose
  simp only [Bool.not_eq_true', beq_iff_eq]

theorem State.sessReset_open {s : State} {c : Cmd} {x : Session} (tag : Nat) (hx : s.sess? c.target = some x)
    (ho : x.st = .opened) : s.sessReset tag c = (s.finishOk tag).startReset c.target none := by
  unfold State.sessReset
  rw [hx, Option.any_some, ho]
  rfl

theorem exec_sessionOpen {s : State} {tag : Nat} {c : Cmd} (h : s.adminAt tag 0xC0 = some c) :
    exec (.sessionOpen tag) s = .next ((s.sessOpen tag c).done s) := State.serveAdmin_of h _ _ rfl

theorem exec_sessionQuery {s : State} {tag : Nat} {c : Cmd} (h : s.adminAt tag 0xC3 = some c) :
    exec (.sessionQuery tag) s = .next ((s.pushAdmin tag (s.queryBytes c.target)).done s) :=
  State.serveAdmin_of h anySub (fun c s => s.pushAdmin tag (s.queryBytes c.target)) rfl

theorem exec_keepAlive {s : State} {tag : Nat} {c : Cmd} (h : s.adminAt tag 0x18 = some c) :
    exec (.keepAlive tag) s = .next (((s.modSess c.sid fun x => { x with kaSince := s.now }).finishOk tag).done s) :=
  State.serveAdmin_of h _ _ rfl

/-- Settles O53. -/
theorem sessionAndKeyCommands : Obligations.SessionAndKeyCommands := by
  refine ⟨fun s tag c h => exec_sessionOpen h, fun s tag c h => ?_, fun s tag c x h hx ho => ?_,
    fun s tag c h => exec_sessionQuery h, fun s tag c h => exec_keepAlive h,
    fun s tag k c h hk => ⟨fun ho => ?_, fun ho => ?_⟩, fun s tag c k h hc hk => ?_,
    fun s sid slot lim k => NMap.get?_set_same _ _ _, fun s tag c h ho hc => ?_, fun s tag c h ho hc => ?_⟩
  · rw [← State.sessClose_eq]
    exact State.serveAdmin_of h _ _ rfl
  · rw [← State.sessReset_open tag hx ho]
    exact State.serveAdmin_of h _ _ rfl
  · rw [exec_keyLoad h ho, State.keyOp_cause tag hk]
  · rw [exec_keyLoadAndSelect h ho, State.keyOp_cause tag hk]
  · intro u
    refine ⟨fun ho => ?_, fun ho => ?_⟩
    · rw [exec_keyLoad h ho, State.keyOp_load tag hc hk (by omega), ho]
      rfl
    · rw [exec_keyLoadAndSelect h ho, State.keyOp_load tag hc hk (by omega), ho]
      rfl
  · rw [← State.keyOp_select tag hc ho]
    exact State.serveAdmin_of h _ _ (by rw [ho]; rfl)
  · rw [← State.keyOp_clear tag hc ho]
    exact State.serveAdmin_of h _ _ (by rw [ho]; rfl)

end Sys2Proof.Machine
end

section
/-!
PROOFS. Namespace management and attachment (spec/05: R115, R116, R429), the image in flash (spec/03: R80, R82; spec/16: R359,
R360).
-/

namespace Sys2Proof.Machine

open Sys2Proof

/-! ### Namespaces -/

theorem State.nsCreate_bad {s : State} {data : List Byte} {c : Cmd} (tag : Nat) (h : (nsOf data).ok = false) :
    s.nsCreate tag data c = s.fail tag 0 2 := by
  unfold State.nsCreate
  dsimp only
  rw [h]
  exact if_pos (Bool.or_true _)

/-- A create within its grove's capacity takes a free NSID. -/
theorem State.nsCreate_ok {s : State} {data : List Byte} {c : Cmd} {g : Grove} (tag : Nat) (hs : bits c.cdw10 3 0 = 0)
    (h : (nsOf data).ok = true) (hg : s.grove? (nsOf data).grove = some g)
    (hc : s.groveNcap (nsOf data).grove + (nsOf data).ncap ≤ g.usable) (hf : s.freeNsids ≠ []) :
    ∃ id ∈ s.freeNsids, s.nsCreate tag data c
      = ((s.draw s.freeNsids.length).2.modCmd tag fun c => { c with nsid := id, stage := .running }).append
          (nsOf data).grove id (.nsRecord 0 (some (nsOf data))) (.admin tag) := by
  have hk : (s.draw s.freeNsids.length).1 < s.freeNsids.length := State.draw_lt s (List.length_pos_iff.2 hf)
  refine ⟨s.freeNsids[(s.draw s.freeNsids.length).1], List.getElem_mem hk, ?_⟩
  unfold State.nsCreate
  dsimp only
  rw [h, hs, if_neg (by decide), hg]
  dsimp only
  rw [if_neg (by omega), List.getElem?_eq_getElem hk]

theorem exec_namespaceCreate {s : State} {tag : Nat} {c : Cmd} (h : s.adminAt tag 0x0D = some c) (hs : bits c.cdw10 3 0 = 0) :
    exec (.namespaceCreate tag c.hostData) s = .next ((s.nsCreate tag c.hostData c).done s) :=
  State.serveAdmin_of h _ (fun c' s => s.nsCreate tag c.hostData c') (by rw [hs, c.brought_hostData]; rfl)

theorem State.nsDelete_of {s : State} {c : Cmd} {n : Namespace} (tag : Nat) (h : NMap.get? s.heart.ns c.nsid = some n)
    (hd : n.deleting = false) :
    s.nsDelete tag c = (State.noteChanged c.nsid n.attached { s with heart := { s.heart with
      ns := NMap.set s.heart.ns c.nsid { n with attached := [], deleting := true, was := n.attached } } }).begun tag .running := by
  unfold State.nsDelete
  rw [h, Option.filter_some, hd]
  rfl

theorem State.deleteRecord_of {s : State} {nsid : Nat} {n : Namespace} (h : NMap.get? s.heart.ns nsid = some n) :
    ∃ who, s.deleteRecord nsid = s.append n.grove nsid (.nsRecord 1 (some n)) who
      ∧ (s.bud.cmds = [] → who = .none) := by
  unfold State.deleteRecord
  rw [h]
  refine ⟨_, rfl, fun hc => ?_⟩
  rw [hc]
  rfl

theorem exec_namespaceDeleteRecord {s : State} {nsid : Nat} (h : s.deleteDue nsid = true) :
    exec (.namespaceDeleteRecord nsid) s = .next ((s.deleteRecord nsid).done s) := act_true h _ _

theorem State.deleteDue_of {s : State} {nsid : Nat} {n : Namespace} (h : NMap.get? s.heart.ns nsid = some n)
    (hd : n.deleting = true) (hc : s.bud.cmds = []) (hr : s.nsRecords = []) : s.deleteDue nsid = true := by
  rw [State.deleteDue, State.nsIdle, h, hc, hr, Option.any_some, hd]
  rfl

/-! ### Attachment -/

/-- The set that an attach or a detach asks for. -/
def attachSet (attach : Bool) (n : Namespace) (ids : List Nat) : List Nat :=
  if attach then ids.foldl (fun l i => insertAsc i l) n.attached else n.attached.filter fun i => !ids.contains i

/-- What an attach or a detach of a live namespace does. -/
theorem State.nsAttach_of {s : State} {data : List Byte} {c : Cmd} {n : Namespace} {ids : List Nat} (tag : Nat)
    (hl : (NMap.get? s.heart.ns c.nsid).any (fun n => !n.deleting) = true) (hn : s.nsNewest c.nsid = some n)
    (hi : cntlIds data = some ids) (hs : bits c.cdw10 3 0 < 2) :
    s.nsAttach tag data c =
      if (bits c.cdw10 3 0 == 0) && ids.any n.attached.contains then s.fail tag 1 0x18
      else if !(bits c.cdw10 3 0 == 0) && ids.any (fun i => !n.attached.contains i) then s.fail tag 1 0x1A
      else (s.begun tag .running).append n.grove c.nsid
        (.nsRecord 3 (some { n with attached := attachSet (bits c.cdw10 3 0 == 0) n ids })) (.admin tag) := by
  unfold State.nsAttach
  dsimp only
  rw [hl, hn, hi, show (some n).filter (fun _ => true) = some n from rfl]
  dsimp only
  rw [if_neg (by omega)]
  rfl

theorem exec_namespaceAttach {s : State} {tag : Nat} {c : Cmd} (h : s.adminAt tag 0x15 = some c) (hs : bits c.cdw10 3 0 = 0) :
    exec (.namespaceAttach tag c.hostData) s = .next ((s.nsAttach tag c.hostData c).done s) :=
  State.serveAdmin_of h _ (fun c' s => s.nsAttach tag c.hostData c') (by rw [hs, c.brought_hostData]; rfl)

theorem exec_namespaceDetach {s : State} {tag : Nat} {c : Cmd} (h : s.adminAt tag 0x15 = some c) (hs : bits c.cdw10 3 0 = 1) :
    exec (.namespaceDetach tag c.hostData) s = .next ((s.nsAttach tag c.hostData c).done s) :=
  State.serveAdmin_of h _ (fun c' s => s.nsAttach tag c.hostData c') (by rw [hs, c.brought_hostData]; rfl)

theorem any_contains_eq_true {ids l : List Nat} : ids.any l.contains = true ↔ ∃ i ∈ ids, i ∈ l := by
  simp [List.any_eq_true]

theorem any_not_contains_eq_true {ids l : List Nat} : ids.any (fun i => !l.contains i) = true ↔ ∃ i ∈ ids, i ∉ l := by
  simp [List.any_eq_true]

/-- Settles O54. -/
theorem namespaceCommands : Obligations.NamespaceCommands := by
  refine ⟨fun s tag c h hs ho => ?_, fun s tag c g h hs ho hg hc hf => ?_, fun s tag c n h hs hn hd => ?_,
    fun s nsid n hn hd hc hr => ?_, fun s nsid n hn hd => ?_, fun s tag c n ids h hl hn hi => ⟨?_, ?_, ?_, ?_⟩⟩
  · rw [exec_namespaceCreate h hs, State.nsCreate_bad tag ho]
  · obtain ⟨id, hid, he⟩ := State.nsCreate_ok tag hs ho hg hc hf
    exact ⟨id, hid, by rw [exec_namespaceCreate h hs, he]⟩
  · intro u
    rw [← State.nsDelete_of tag hn hd]
    exact State.serveAdmin_of h _ (fun c s => s.nsDelete tag c) (beq_iff_eq.2 hs)
  · obtain ⟨who, he, hw⟩ := State.deleteRecord_of hn
    rw [exec_namespaceDeleteRecord (State.deleteDue_of hn hd hc hr), he, hw hc]
  · obtain ⟨who, he, -⟩ := State.deleteRecord_of hn
    exact ⟨who, by rw [exec_namespaceDeleteRecord hd, he]⟩
  · intro hs ha
    have hno : ids.any n.attached.contains = false := by
      rw [Bool.eq_false_iff, ne_eq, any_contains_eq_true]
      exact fun ⟨i, hi, hm⟩ => ha i hi hm
    rw [exec_namespaceAttach h hs, State.nsAttach_of tag hl hn hi (by omega), hs, hno]
    rfl
  · intro hs ha
    rw [exec_namespaceAttach h hs, State.nsAttach_of tag hl hn hi (by omega), hs, any_contains_eq_true.2 ha]
    rfl
  · intro hs ha
    have hno : ids.any (fun i => !n.attached.contains i) = false := by
      rw [Bool.eq_false_iff, ne_eq, any_not_contains_eq_true]
      exact fun ⟨i, hi, hm⟩ => hm (ha i hi)
    rw [exec_namespaceDetach h hs, State.nsAttach_of tag hl hn hi (by omega), hs, hno]
    rfl
  · intro hs ha
    rw [exec_namespaceDetach h hs, State.nsAttach_of tag hl hn hi (by omega), hs, any_not_contains_eq_true.2 ha]
    rfl

end Sys2Proof.Machine
end

section
/-!
PROOFS. The image in flash (spec/03: R80, R82; spec/16: R359, R360; spec/13: R302).
-/

namespace Sys2Proof.Machine

open Sys2Proof

/-! ### Firmware Commit -/

theorem State.commitFw_ca {s : State} {c : Cmd} (tag : Nat) (h : 3 < c.ca) : s.commitFw tag c = s.fail tag 1 7 := if_pos h

/-- A commit of a slot that may be written begins the flash write. -/
theorem State.commitFw_writes {s : State} {c : Cmd} (tag : Nat) (hc : c.ca ≤ 3) (hf : c.fs = 1 ∨ c.fs = 2)
    (hs : c.fs - 1 ≠ s.seed.slot) :
    s.commitFw tag c = s.startWrite tag (c.fs - 1) c.ca (if c.ca == 2 then [] else s.pith.imageBytes) := by
  have h1 : (c.fs != 1 && c.fs != 2) = false := by
    obtain h | h := hf <;> rw [h] <;> rfl
  unfold State.commitFw
  dsimp only
  rw [if_neg (by omega), h1, beq_eq_false_iff_ne.2 hs, Bool.and_false]
  rfl

theorem State.commitFw_running {s : State} {c : Cmd} (tag : Nat) (hc : c.ca = 0) (hs : c.fs - 1 = s.seed.slot) :
    s.commitFw tag c = s.fail tag 1 6 := by
  unfold State.commitFw
  dsimp only
  rw [if_neg (by omega), beq_iff_eq.2 hs, hc]
  exact ite_self _

section
variable {s : State} {tag : Nat} {c : Cmd} (h : s.adminAt tag 0x10 = some c) (hw : s.seed.write = none)

include h hw

theorem exec_firmwareCommitWrite (hc : c.ca = 0 ∨ 3 < c.ca) :
    exec (.firmwareCommitWrite tag) s = .next ((s.commitFw tag c).done s) := by
  refine State.serveAdmin_of h _ (fun c s => s.commitFw tag c) ?_
  rw [hw, Option.isNone_none, Bool.true_and, Bool.or_eq_true, beq_iff_eq, decide_eq_true_eq]
  exact hc

theorem exec_firmwareCommitWriteMark (hc : c.ca = 1) :
    exec (.firmwareCommitWriteMark tag) s = .next ((s.commitFw tag c).done s) :=
  State.serveAdmin_of h _ (fun c s => s.commitFw tag c) (by rw [hw, hc]; rfl)

theorem exec_firmwareCommitMark (hc : c.ca = 2) :
    exec (.firmwareCommitMark tag) s = .next ((s.commitFw tag c).done s) :=
  State.serveAdmin_of h _ (fun c s => s.commitFw tag c) (by rw [hw, hc]; rfl)

theorem exec_firmwareActivate (hc : c.ca = 3) :
    exec (.firmwareActivate tag) s = .next ((s.commitFw tag c).done s) :=
  State.serveAdmin_of h _ (fun c s => s.commitFw tag c) (by rw [hw, hc]; rfl)

end

/-! ### Save Configuration -/

theorem exec_saveConfiguration {s : State} {tag : Nat} {c : Cmd} (h : s.adminAt tag 0xC6 = some c) (hw : s.seed.write = none) :
    exec (.saveConfiguration tag) s = .next ((s.saveConfig tag).done s) :=
  State.serveAdmin_of h _ (fun _ s => s.saveConfig tag) (by rw [hw]; rfl)

/-! ### The end of a write -/

theorem exec_flashWriteDone {s : State} {tag slot ca : Nat} (ok : Bool) (h : s.seed.write = some (tag, slot, ca)) (hc : ca ≠ 3) :
    exec (.flashWriteDone ok) s = .next ((s.flashDone tag slot ca ok).done s) := by
  have hw : s.writeEnds = true := by
    unfold State.writeEnds
    rw [h]
    exact Bool.or_eq_true_iff.2 (.inl (bne_iff_ne.2 hc))
  dsimp only [exec]
  unfold execFlashWriteDone
  rw [h]
  exact act_true hw _ _

theorem NMap.get?_filter {α : Type} (m : NMap α) (p : Nat → Bool) {a : Nat} (h : p a = true) :
    NMap.get? (m.filter fun q => p q.1) a = NMap.get? m a := by
  induction m with
  | nil => rfl
  | cons q t ih =>
    obtain ⟨k, v⟩ := q
    rw [List.filter_cons]
    by_cases hk : k = a
    · rw [hk, if_pos h]
      simp [NMap.get?]
    · split <;> simp [NMap.get?, hk, ih]

/-- Bytes put at places from `base` on leave the others alone. -/
theorem get?_putFlash_other (l : List Byte) (base a : Nat) (m : NMap Byte) (h : a < base ∨ base + l.length ≤ a) :
    NMap.get? (putFlash m base l) a = NMap.get? m a := by
  unfold putFlash
  have hne : ∀ p ∈ l.zipIdx, a ≠ base + p.2 := fun p hp => by
    have := List.snd_lt_of_mem_zipIdx hp
    omega
  generalize l.zipIdx = z at hne
  induction z generalizing m with
  | nil => rfl
  | cons p z ih =>
    rw [List.foldl_cons, ih _ fun q hq => hne q (List.mem_cons_of_mem _ hq)]
    have ha := hne p List.mem_cons_self
    split
    · exact NMap.get?_erase_other _ _ _ ha
    · exact NMap.get?_set_other _ _ _ _ ha

/-- Programming a slot touches no byte of the flash outside it. -/
theorem State.programSlot_other (s : State) (slot : Nat) (img : List Byte) {a : Nat}
    (h : a < slotBase slot ∨ slotBase slot + slotSize ≤ a) :
    NMap.get? (s.programSlot slot img).media.flash a = NMap.get? s.media.flash a := by
  have hl : (img.take slotSize).length ≤ slotSize := List.length_take_le _ _
  unfold State.programSlot
  dsimp only
  rw [get?_putFlash_other _ _ _ _ (h.imp_right (by omega))]
  refine NMap.get?_filter s.media.flash (fun k => k < slotBase slot || slotBase slot + slotSize ≤ k) ?_
  rw [Bool.or_eq_true, decide_eq_true_eq, decide_eq_true_eq]
  exact h

/-- Settles O55. -/
theorem firmwareCommands : Obligations.FirmwareCommands := by
  refine ⟨fun s tag c h => State.serveAdmin_of h _ (fun c' s => s.download tag c.hostData c') c.brought_hostData,
    fun s tag c h hw hf hs => ?_, fun s tag c h hw => ⟨fun hc hs => ?_, fun hc => ?_⟩, fun s tag c h hw hd => ?_,
    fun s tag c h hw hd => ?_, fun s tag slot ca ok h hc => exec_flashWriteDone ok h hc,
    fun s slot img => ⟨rfl, fun a h => s.programSlot_other slot img h⟩⟩
  · intro t
    refine ⟨fun hc => ?_, fun hc => ?_, fun hc => ?_, fun hc => ?_⟩
    · rw [exec_firmwareCommitWrite h hw (.inl hc), State.commitFw_writes tag (by omega) hf hs, hc]
      rfl
    · rw [exec_firmwareCommitWriteMark h hw hc, State.commitFw_writes tag (by omega) hf hs, hc]
      rfl
    · rw [exec_firmwareCommitMark h hw hc, State.commitFw_writes tag (by omega) hf hs, hc]
      rfl
    · rw [exec_firmwareActivate h hw hc, State.commitFw_writes tag (by omega) hf hs, hc]
      rfl
  · rw [exec_firmwareCommitWrite h hw (.inl hc), State.commitFw_running tag hc hs]
  · rw [exec_firmwareCommitWrite h hw (.inr hc), State.commitFw_ca tag hc]
  · rw [exec_saveConfiguration h hw, State.saveConfig, if_pos hd]
  · rewrite [exec_saveConfiguration h hw, State.saveConfig, if_neg (by rw [hd]; decide)]
    generalize s.slotImage s.seed.slot = run
    generalize s.media.imageKey = key
    cases run <;> cases key <;> rfl

end Sys2Proof.Machine
end

section
/-!
PROOFS. Grove Management (spec/06: R137, R148 to R150; spec/07: R181, R183, R198, R202).
-/

namespace Sys2Proof.Machine

open Sys2Proof

/-! ### Create, Delete, spares, Release -/

theorem State.gmCreate_cause {s : State} {c : Cmd} {k : Nat} (tag : Nat) (ha : c.gmAction = 0) (h : s.createCause c = some k) :
    s.gmCreate tag c = s.failCause tag k := by
  unfold State.gmCreate
  rw [ha, h]
  rfl

theorem State.gmCreate_begins {s : State} {c : Cmd} (tag : Nat) (ha : c.gmAction = 0) (h : s.createCause c = none) :
    s.gmCreate tag c = ((s.begun tag .placed).sendFormats tag c.gmDrives).formatsDone tag := by
  unfold State.gmCreate
  rw [ha, h]
  rfl

theorem State.gmAdd_cause {s : State} {c : Cmd} {k : Nat} (tag : Nat) (h : s.spareCause c = some k) :
    s.gmAdd tag c = s.failCause tag k := by
  unfold State.gmAdd
  rw [h]

theorem State.gmAdd_begins {s : State} {c : Cmd} (tag : Nat) (h : s.spareCause c = none) :
    s.gmAdd tag c = ((s.begun tag .placed).sendFormats tag c.gmDrives).formatsDone tag := by
  unfold State.gmAdd
  rw [h]

theorem State.gmDelete_none {s : State} {c : Cmd} (tag : Nat) (h : s.grove? c.gmGrove = none) :
    s.gmDelete tag c = s.failCause tag 1 := by
  unfold State.gmDelete
  dsimp only
  rw [h]

theorem State.gmRemove_none {s : State} {c : Cmd} (tag : Nat) (h : ∀ d ∈ c.gmDrives, (s.drive d).spare = none) :
    s.gmRemove tag c = ((s.begun tag .running).labelsDone tag).checkVault := by
  have hf : (c.gmDrives.filter fun d => (s.drive d).spare.isSome && (s.memberOf d).isNone) = [] :=
    List.filter_eq_nil_iff.2 fun d hd => by rw [h d hd]; nofun
  unfold State.gmRemove
  rw [hf]
  rfl

theorem State.gmRelease_of {s : State} {c : Cmd} {g : Grove} (tag : Nat) (h : s.grove? c.gmGrove = some g) :
    s.gmRelease tag c = State.finishOk tag { s with heart := { s.heart with
      ns := s.heart.ns.map fun p => (p.1, if p.2.grove == c.gmGrove then { p.2 with notReady := false } else p.2) } } :=
  if_neg (by rw [h]; nofun)

/-! ### Rebuilds -/

theorem State.gmPause_none {s : State} {c : Cmd} (tag : Nat) (h : s.grove? c.gmGrove = none) :
    s.gmPause tag c = s.failCause tag 8 := by
  unfold State.gmPause
  rw [h]

theorem State.gmPause_of {s : State} {c : Cmd} {g : Grove} (tag : Nat) (h : s.grove? c.gmGrove = some g) :
    s.gmPause tag c = if g.running.1.isNone && g.running.2.isNone then s.failCause tag 3
      else (s.setGrove c.gmGrove { g with paused := true }).finishOk tag := by
  unfold State.gmPause
  rw [h]

theorem State.gmResume_none {s : State} {c : Cmd} (tag : Nat) (h : s.grove? c.gmGrove = none) :
    s.gmResume tag c = s.failCause tag 8 := by
  unfold State.gmResume
  rw [h]

theorem State.gmResume_of {s : State} {c : Cmd} {g : Grove} (tag : Nat) (h : s.grove? c.gmGrove = some g) :
    s.gmResume tag c = if !g.paused then s.failCause tag 4
      else (s.setGrove c.gmGrove { g with paused := false }).pump.finishOk tag := by
  unfold State.gmResume
  rw [h]

/-- Rebuild Now on a slot that the grove has, the grove being online. -/
theorem State.gmRebuild_of {s : State} {c : Cmd} {g : Grove} {m : Member} (tag : Nat) (h : s.grove? c.gmGrove = some g)
    (hs : c.gmSlot < g.n) (hm : g.members[c.gmSlot]? = some m) (ho : g.offline = false) :
    s.gmRebuild tag c = if m.st == .working then s.failCause tag 1
      else if m.st == .rebuilding then s.failCause tag 9
      else if !(s.spares.contains c.gmDrive && s.serves c.gmDrive c.gmGrove g) then s.failCause tag 2
      else (s.takeSpare c.gmGrove c.gmSlot c.gmDrive).pump.finishOk tag := by
  have hk : slotCause g c = false := decide_eq_false (by omega)
  unfold State.gmRebuild
  rw [h]
  dsimp only
  rw [hm, hk, ho, if_neg (by decide)]
  rfl

theorem State.gmFail_of {s : State} {c : Cmd} {g : Grove} {m : Member} (tag : Nat) (h : s.grove? c.gmGrove = some g)
    (hs : c.gmSlot < g.n) (hm : g.members[c.gmSlot]? = some m) (ho : g.offline = false) :
    s.gmFail tag c = if m.st == .failed then s.failCause tag 12
      else if m.st == .working && g.down ≥ 2 then s.failCause tag 5
      else (s.failMember c.gmGrove c.gmSlot).finishOk tag := by
  have hk : slotCause g c = false := decide_eq_false (by omega)
  unfold State.gmFail
  rw [h]
  dsimp only
  rw [hm, hk, ho, if_neg (by decide)]
  rfl

theorem State.gmVerify_of {s : State} {c : Cmd} {g : Grove} (tag : Nat) (h : s.grove? c.gmGrove = some g) :
    s.gmVerify tag c = if g.offline then s.failCause tag 10
      else if g.resync.isSome then s.failCause tag 6
      else (s.startResync c.gmGrove 2 7
        (((g.holders.head?.bind fun d => NMap.get? s.media.intents d).elim [] Intent.stripes).filter
          fun n => NMap.has g.segs (n / 64))).finishOk tag := by
  unfold State.gmVerify
  rw [h]

/-! ### The commands -/

section
variable {s : State} {tag : Nat} {c : Cmd} (h : s.adminAt tag 0xC7 = some c)

include h

theorem exec_groveCreate (ha : c.gmAction = 0) : exec (.groveCreate tag) s = .next ((s.gmCreate tag c).done s) :=
  State.serveAdmin_of h _ (fun c s => s.gmCreate tag c) (by rw [ha]; rfl)

theorem exec_groveDelete (ha : c.gmAction = 1) : exec (.groveDelete tag) s = .next ((s.gmDelete tag c).done s) :=
  State.serveAdmin_of h _ (fun c s => s.gmDelete tag c) (by rw [ha]; rfl)

theorem exec_addSpares (ha : c.gmAction = 2) : exec (.addSpares tag) s = .next ((s.gmAdd tag c).done s) :=
  State.serveAdmin_of h _ (fun c s => s.gmAdd tag c) (by rw [ha]; rfl)

theorem exec_removeSpares (ha : c.gmAction = 3) : exec (.removeSpares tag) s = .next ((s.gmRemove tag c).done s) :=
  State.serveAdmin_of h _ (fun c s => s.gmRemove tag c) (by rw [ha]; rfl)

theorem exec_releaseNamespaces (ha : c.gmAction = 4) :
    exec (.releaseNamespaces tag) s = .next ((s.gmRelease tag c).done s) :=
  State.serveAdmin_of h _ (fun c s => s.gmRelease tag c) (by rw [ha]; rfl)

theorem exec_rebuildNow (ha : c.gmAction = 8) : exec (.rebuildNow tag) s = .next ((s.gmRebuild tag c).done s) :=
  State.serveAdmin_of h _ (fun c s => s.gmRebuild tag c) (by rw [ha]; rfl)

theorem exec_pauseRebuild (ha : c.gmAction = 9) : exec (.pauseRebuild tag) s = .next ((s.gmPause tag c).done s) :=
  State.serveAdmin_of h _ (fun c s => s.gmPause tag c) (by rw [ha]; rfl)

theorem exec_resumeRebuild (ha : c.gmAction = 10) : exec (.resumeRebuild tag) s = .next ((s.gmResume tag c).done s) :=
  State.serveAdmin_of h _ (fun c s => s.gmResume tag c) (by rw [ha]; rfl)

theorem exec_failMember (ha : c.gmAction = 11) : exec (.failMember tag) s = .next ((s.gmFail tag c).done s) :=
  State.serveAdmin_of h _ (fun c s => s.gmFail tag c) (by rw [ha]; rfl)

theorem exec_verify (ha : c.gmAction = 12) : exec (.verify tag) s = .next ((s.gmVerify tag c).done s) :=
  State.serveAdmin_of h _ (fun c s => s.gmVerify tag c) (by rw [ha]; rfl)

end

/-- Settles O56. -/
theorem groveManagement : Obligations.GroveManagement := by
  refine ⟨fun s tag k c h => ⟨fun ha hc => ?_, fun ha hc => ?_, fun ha hc => ?_, fun ha hc => ?_, fun ha hg => ?_, fun ha hd => ?_,
      fun ha hg => ?_, fun ha hg => ?_⟩,
    fun s tag c g h hg => ⟨fun ha => exec_groveDelete h ha, fun ha => ?_, fun ha hr => ?_, fun ha hr => ?_, fun ha hp => ?_,
      fun ha hp => ?_, fun ha ho => ?_, fun ha ho hr => ?_, fun ha ho hr => ?_⟩,
    fun s tag c g m h hg hs hm ho => ⟨fun ha hst hp hv => ?_, fun ha hst => ?_, fun ha hst => ?_, fun ha hst => ?_,
      fun ha hst hd => ?_, fun ha hst hd => ?_⟩⟩
  · rw [exec_groveCreate h ha, State.gmCreate_cause tag ha hc]
  · rw [exec_groveCreate h ha, State.gmCreate_begins tag ha hc]
  · rw [exec_addSpares h ha, State.gmAdd_cause tag hc]
  · rw [exec_addSpares h ha, State.gmAdd_begins tag hc]
  · rw [exec_groveDelete h ha, State.gmDelete_none tag hg]
  · rw [exec_removeSpares h ha, State.gmRemove_none tag hd]
  · rw [exec_pauseRebuild h ha, State.gmPause_none tag hg]
  · rw [exec_resumeRebuild h ha, State.gmResume_none tag hg]
  · rw [exec_releaseNamespaces h ha, State.gmRelease_of tag hg]
  · have hn : ¬(g.running.1.isNone && g.running.2.isNone) = true := by
      rw [Bool.and_eq_true, Decidable.not_and_iff_not_or_not, Option.isNone_iff_eq_none, Option.isNone_iff_eq_none, ← ne_eq, ← ne_eq,
        ← Option.isSome_iff_ne_none, ← Option.isSome_iff_ne_none]
      exact hr
    rw [exec_pauseRebuild h ha, State.gmPause_of tag hg, if_neg hn]
  · rw [exec_pauseRebuild h ha, State.gmPause_of tag hg, hr, if_pos (by rfl)]
  · rw [exec_resumeRebuild h ha, State.gmResume_of tag hg, hp, if_neg (by decide)]
  · rw [exec_resumeRebuild h ha, State.gmResume_of tag hg, hp, if_pos (by decide)]
  · rw [exec_verify h ha, State.gmVerify_of tag hg, if_pos ho]
  · rw [exec_verify h ha, State.gmVerify_of tag hg, ho, if_neg (by decide), if_pos hr]
  · rw [exec_verify h ha, State.gmVerify_of tag hg, ho, if_neg (by decide), hr, if_neg (by decide)]
  · rw [exec_rebuildNow h ha, State.gmRebuild_of tag hg hs hm ho, hst, hp, hv, if_neg (by decide), if_neg (by decide),
      if_neg (by decide)]
  · rw [exec_rebuildNow h ha, State.gmRebuild_of tag hg hs hm ho, hst, if_pos (by decide)]
  · rw [exec_rebuildNow h ha, State.gmRebuild_of tag hg hs hm ho, hst, if_neg (by decide), if_pos (by decide)]
  · rw [exec_failMember h ha, State.gmFail_of tag hg hs hm ho, hst, if_pos (by decide)]
  · rw [exec_failMember h ha, State.gmFail_of tag hg hs hm ho, hst, decide_eq_true hd, if_neg (by decide), if_pos (by decide)]
  · rw [exec_failMember h ha, State.gmFail_of tag hg hs hm ho, hst, decide_eq_false (by omega), if_neg (by decide),
      if_neg (by decide)]

end Sys2Proof.Machine
end

section
/-!
PROOFS. I/O commands (spec/03: R107, R108; spec/04: R101; spec/05: R126, R129; spec/06: R134, R153; spec/08: R208).
-/

namespace Sys2Proof.Machine

open Sys2Proof

/-! ### What raising an event keeps of the commands -/

/-- A command of `s` is in `t` too, but for its status: an event request that an event answers ends. -/
def KeepsCmds (s t : State) : Prop := ∀ tag c, s.cmd? tag = some c → ∃ st, t.cmd? tag = some { c with status := st }

theorem KeepsCmds.refl (s : State) : KeepsCmds s s := fun _ c h => ⟨c.status, h⟩

theorem KeepsCmds.trans {a b c : State} (h : KeepsCmds a b) (k : KeepsCmds b c) : KeepsCmds a c := fun tag x hx => by
  obtain ⟨st, hb⟩ := h tag x hx
  obtain ⟨st', hc⟩ := k tag _ hb
  exact ⟨st', hc⟩

theorem KeepsCmds.of_eq {s t : State} (h : t.bud.cmds = s.bud.cmds) : KeepsCmds s t := fun tag c hc => by
  refine ⟨c.status, ?_⟩
  unfold State.cmd? at *
  rw [h]
  exact hc

theorem KeepsCmds.foldl {α : Type} (f : State → α → State) (hf : ∀ s a, KeepsCmds s (f s a)) (l : List α) (s : State) :
    KeepsCmds s (l.foldl f s) := by
  induction l generalizing s with
  | nil => exact .refl s
  | cons a l ih => exact (hf s a).trans (ih _)

theorem keepsCmds_setStatus (s : State) (t : Nat) (st : Option Status) : KeepsCmds s (s.modCmd t fun c => { c with status := st }) :=
  fun tag c hc => by
    rw [State.cmd?_modCmd]
    split
    · exact ⟨st, by rw [hc]; rfl⟩
    · exact ⟨c.status, hc⟩

theorem keepsCmds_tryAer (sid : Nat) (s : State) : KeepsCmds s (s.tryAer sid) := by
  unfold State.tryAer
  split
  · dsimp only
    split
    · exact .refl s
    · exact (keepsCmds_setStatus s _ _).trans (.of_eq rfl)
  · exact .refl s

theorem keepsCmds_tell (n cnt time : Nat) (d : W32) (s : State) (sid : Nat) : KeepsCmds s (State.tell n cnt time d s sid) := by
  unfold State.tell
  dsimp only
  split
  · split
    · exact .of_eq rfl
    · exact .trans (by exact .of_eq rfl) (keepsCmds_tryAer _ _)
  · exact .trans (by exact .of_eq rfl) (keepsCmds_tryAer _ _)

theorem keepsCmds_raise (n : Nat) (d : W32) (s : State) : KeepsCmds s (s.raise n d) := by
  unfold State.raise State.deliver
  dsimp only
  split
  · exact .trans (by exact .of_eq rfl) (.foldl _ (keepsCmds_tell _ _ _ _) _ _)
  · exact .of_eq rfl

theorem keepsCmds_engWrap (fuel e n : Nat) (s : State) : KeepsCmds s (s.engWrap fuel e n) := by
  induction fuel generalizing n s with
  | zero => exact .refl s
  | succ fuel ih =>
    unfold State.engWrap
    dsimp only
    split
    · split
      · split
        · exact .trans (by exact .of_eq rfl) (ih _ _)
        · exact .of_eq rfl
      · exact .refl s
    · exact .trans (by exact .of_eq rfl) (keepsCmds_raise _ _ _)

theorem keepsCmds_engAdd (e n k : Nat) (s : State) : KeepsCmds s (s.engAdd e n k) := by
  unfold State.engAdd
  dsimp only
  split
  · exact .trans (by exact .of_eq rfl) (keepsCmds_engWrap _ _ _ _)
  · exact .of_eq rfl

theorem keepsCmds_engEvent (e code k : Nat) (c : Option Cmd) (s : State) : KeepsCmds s (s.engEvent e code k c) := by
  unfold State.engEvent
  refine .foldl _ (fun s n => ?_) _ _
  dsimp only
  split
  · exact keepsCmds_engAdd _ _ _ _
  · exact .refl _

/-! ### Starting a command -/

theorem State.startable_opc {s : State} {tag opc : Nat} {c : Cmd} (h : s.startable tag opc = true) (hc : s.cmd? tag = some c) :
    c.opc = opc := by
  rw [State.startable, hc, Option.any_some] at h
  simp only [Bool.and_eq_true, beq_iff_eq] at h
  exact h.1.1.1.2

/-- A command in stage `running` whose fields but stage, status and trace are `c`'s. -/
def Cmd.startedAs (c d : Cmd) : Prop :=
  d.stage = .running ∧ d.opc = c.opc ∧ d.slba = c.slba ∧ d.nlb = c.nlb

theorem startedAs_stamp {s : State} {tag i : Nat} {c d : Cmd} (h : s.cmd? tag = some d) (hd : c.startedAs d) :
    ∃ x, (s.stamp tag i).cmd? tag = some x ∧ c.startedAs x := by
  unfold State.stamp
  rw [State.cmd?_modCmd, if_pos rfl, h]
  refine ⟨_, rfl, ?_⟩
  dsimp only
  split
  · exact hd
  · split
    · exact hd
    · exact hd

theorem startedAs_running {s u : State} {tag : Nat} {c : Cmd} (h : s.cmd? tag = some c) (hk : KeepsCmds s u) :
    ∃ d, ((u.modCmd tag fun c => { c with stage := .running }).stamp tag 4).cmd? tag = some d ∧ c.startedAs d := by
  obtain ⟨st, hs⟩ := hk tag c h
  refine startedAs_stamp (d := { c with status := st, stage := .running }) ?_ ⟨rfl, rfl, rfl, rfl⟩
  rw [State.cmd?_modCmd, if_pos rfl, hs]
  rfl

theorem State.start_runs {s : State} {tag : Nat} {c : Cmd} (h : s.cmd? tag = some c) :
    ∃ d, (s.start tag).cmd? tag = some d ∧ c.startedAs d := by
  unfold State.start
  rw [h]
  dsimp only
  cases c.engine with
  | none => exact startedAs_running h (.refl s)
  | some e => exact startedAs_running h (.trans (by exact .of_eq rfl) (keepsCmds_engEvent _ _ _ _ _))

theorem exec_write_start {s : State} {tag : Nat} (h : s.startable tag 1 = true) :
    exec (.write tag) s = .next (((s.start tag).pull tag).done s) := by
  dsimp only [exec]
  unfold execWrite
  rw [if_pos h]
  exact act_true rfl _ _

theorem exec_write_stalled {s : State} {tag : Nat} {c : Cmd} (h : s.startable tag 1 = false) (hc : s.cmd? tag = some c)
    (hs : c.stalled = true) (hn : c.status = none) : exec (.write tag) s = .next ((s.pull tag).done s) := by
  dsimp only [exec]
  unfold execWrite
  rw [if_neg (by rw [h]; decide), hc]
  exact act_true (by rw [Option.any_some, hs, hn]; rfl) _ _

theorem exec_compare {s : State} {tag : Nat} {c : Cmd} (h : s.startable tag 5 = true) (hc : (s.start tag).cmd? tag = some c) :
    exec (.compare tag) s = .next (((s.start tag).pullData tag 0 ((s.start tag).xferLen c)).done s) := by
  dsimp only [exec]
  unfold execCompare
  rw [act_true h]
  dsimp only
  rw [hc]

/-- A journalled command appends its record, or ends where it changes nothing. -/
theorem State.runJournalled_of {s : State} {tag : Nat} {c : Cmd} (body : Cmd → Option RecBody)
    (hc : (s.start tag).cmd? tag = some c) (ho : (s.start tag).nsOffline c.nsid = false) :
    s.runJournalled tag body = (body c).elim ((s.start tag).finishOk tag)
      fun b => (s.start tag).append ((s.start tag).groveOf c.nsid) c.nsid b (.command tag) := by
  unfold State.runJournalled
  dsimp only
  rw [hc]
  dsimp only
  rw [ho, if_neg (by decide)]
  cases body c <;> rfl

theorem exec_writeZeroes {s : State} {tag : Nat} (h : s.startable tag 8 = true) :
    exec (.writeZeroes tag) s
      = .next ((s.runJournalled tag fun c => some (.zero (c.fseq.getD 0) c.slba c.nlb (bit c.cdw12 25))).done s) := act_true h _ _

theorem exec_datasetManagement {s : State} {tag : Nat} (h : s.startable tag 9 = true) :
    exec (.datasetManagement tag) s
      = .next ((s.runJournalled tag fun c =>
          if bit c.cdw11 2 && !c.ranges.isEmpty then some (.deallocate (c.fseq.getD 0) c.ranges) else none).done s) :=
  act_true h _ _

/-! ### Translation -/

/-- Does the engine's Bough reach Root? -/
theorem engine_reaches {s : State} {c : Cmd} (h : ∀ e, c.engine = some e → s.flows (engineDie e) 5 = true) :
    (c.engine.all fun e => s.flows (engineDie e) 5) = true := by
  cases he : c.engine with
  | none => rfl
  | some e => exact h e he

theorem exec_translationDone {s : State} {tag : Nat} {c : Cmd} (hc : s.cmd? tag = some c) (ht : c.translating = true)
    (ho : s.on 0x07000000 = true) (hf : ∀ e, c.engine = some e → s.flows (engineDie e) 5 = true) :
    exec (.translationDone tag) s
      = .next (((s.pagesMissing c).head?.elim (s.translated tag c) fun k => s.readPage c.nsid k).done s) := by
  dsimp only [exec]
  unfold execTranslationDone
  rw [hc, Option.filter_some, if_pos ht]
  dsimp only
  rw [engine_reaches hf, ho]
  cases (s.pagesMissing c).head? with
  | none => exact act_true rfl _ _
  | some k => exact act_true rfl _ _

theorem State.translated_lost {s : State} {tag lba : Nat} {c : Cmd} (hn : c.nlb = 1) (hl : c.slba = lba)
    (h : (s.lookups c).loc c.nsid lba = .lost) :
    s.translated tag c = (s.lookups c).finish tag { sct := 7, sc := 0x84, dw0 := w32 lba } := by
  unfold State.translated
  rw [hn, hl]
  dsimp only
  rw [show (List.range 1).map (fun i => (i, (s.lookups c).loc c.nsid (lba + i)))
    = [(0, (s.lookups c).loc c.nsid lba)] from rfl, h]
  rfl

theorem State.pull_offline {s : State} {tag : Nat} {c : Cmd} (hc : s.cmd? tag = some c) (ho : s.nsOffline c.nsid = true) :
    s.pull tag = s.fail tag 2 0x80 := by
  unfold State.pull
  rw [hc]
  exact if_pos ho

theorem exec_shootLingerExpiry {s : State} {n : Nat} {x : Piece} (hx : s.piece? n = some x) (hs : x.shoot = true)
    (ha : x.attachable = true) (hd : x.done = true) :
    exec (.shootLingerExpiry n) s = .next (((s.until (x.doneAt + x.lingerUs * 1000)).endAttach n).done s) := by
  dsimp only [exec]
  unfold execShootLingerExpiry
  rw [hx, Option.filter_some, if_pos (by rw [hs, ha, hd]; rfl)]
  exact act_true rfl _ _

/-- Settles O57. -/
theorem ioCommandsRun : Obligations.IoCommandsRun := by
  refine ⟨⟨fun s tag h => act_true h _ _, fun s tag h => exec_write_start h,
    fun s tag c h hc hs hn => exec_write_stalled h hc hs hn, fun s tag h => act_true h _ _,
    fun s tag c h hc => exec_compare h hc, fun s tag c h hc ho => ?_, fun s tag c h hc ho => ?_, fun s tag opc c h hc => ?_⟩,
    fun s tag k c hc ht ho hf hm => ?_, fun s tag c hc ht ho hf hm => ?_,
    fun s tag lba c hn hl h => State.translated_lost hn hl h, fun s tag c hc ho => State.pull_offline hc ho,
    fun s n x hx hs ha hd => exec_shootLingerExpiry hx hs ha hd⟩
  · rw [exec_writeZeroes h, State.runJournalled_of _ hc ho]
    rfl
  · rw [exec_datasetManagement h, State.runJournalled_of _ hc ho]
    split <;> rfl
  · obtain ⟨d, hd, hr, he, hs, hn⟩ := State.start_runs hc
    exact ⟨d, hd, hr, he.trans (State.startable_opc h hc), hs, hn⟩
  · rw [exec_translationDone hc ht ho hf, hm]
    rfl
  · rw [exec_translationDone hc ht ho hf, hm]
    rfl

end Sys2Proof.Machine
end

section
/-!
PROOFS. The Rootlets: a drive comes up (spec/14: R309, R315, R318, R319).
-/

namespace Sys2Proof.Machine

open Sys2Proof

/-! ### Drives -/

theorem NMap.set_set {α : Type} (m : NMap α) (k : Nat) (v w : α) : NMap.set (NMap.set m k v) k w = NMap.set m k w := by
  induction m with
  | nil => simp [NMap.set]
  | cons p t ih =>
    obtain ⟨j, x⟩ := p
    by_cases h1 : k < j
    · simp [NMap.set, h1]
    · by_cases h2 : k = j
      · simp [NMap.set, h2]
      · simp [NMap.set, h1, h2, ih]

theorem State.setDrive_setDrive (s : State) (d : Nat) (v w : Drive) : (s.setDrive d v).setDrive d w = s.setDrive d w := by
  unfold State.setDrive
  dsimp only
  rw [NMap.set_set]

theorem State.drive_until (s : State) (t d : Nat) : (s.until t).drive d = s.drive d := by rw [State.until_frame]; rfl

theorem State.drive_congr {s t : State} (h : t.drives = s.drives) (d : Nat) : t.drive d = s.drive d := by
  unfold State.drive
  rw [h]

theorem wf_drive {d : Nat} (h : d < 24) : driveIndex d = true := decide_eq_true h

theorem steady_checkVault (s : State) : Steady s s.checkVault := by
  unfold State.checkVault
  exact .foldl _ (fun s d => .ite _ (steady_raise0 _ _ s) (.refl s)) _ _

/-! ### Detect, power, training -/

theorem exec_drivePresent {s : State} {d : Nat} (hd : d < 24) (hp : (s.drive d).present = false) :
    exec (.drivePresent d) s = .next ((s.inserted d).done s) :=
  act_true (by rw [show (Instr.drivePresent d).wf = true from wf_drive hd, hp]; rfl) _ _

/-- A drive in an absent, enabled and powered port is debounced. -/
theorem State.inserted_detects {s : State} {d : Nat} (hs : (s.drive d).st = .absent) (ho : s.rootOn d = true)
    (hp : s.powerOff d = false) :
    s.inserted d = s.setDrive d { s.drive d with
        present := true, st := .debouncing, deadline := s.now + s.fld (rootBase d + 0xC) 15 0 * 1000000 } := by
  unfold State.inserted
  dsimp only
  generalize hu : s.setDrive d _ = u
  have hd : u.drive d = { s.drive d with present := true } := by rw [← hu]; exact State.drive_setDrive _ _ _
  have hr : u.rootOn d = true := by rw [← hu]; exact ho
  have hq : u.powerOff d = false := by rw [← hu]; exact hp
  rw [hd, hr, hq, hs, if_pos (by decide)]
  unfold State.detect
  rw [hd, ← hu, State.setDrive_setDrive]
  rfl

theorem runs_drivePresent (s : State) (d : Nat) (hd : d < 24) (hp : (s.drive d).present = false)
    (hs : (s.drive d).st = .absent) (ho : s.rootOn d = true) (hf : s.powerOff d = false) :
    Runs (.drivePresent d) s fun t => t.drive d = { s.drive d with
        present := true, st := .debouncing, deadline := s.now + s.fld (rootBase d + 0xC) 15 0 * 1000000 }
      ∧ ∀ e, e ≠ d → t.drive e = s.drive e := by
  refine ⟨_, exec_drivePresent hd hp, ?_⟩
  have hk := State.drive_congr (Still.done (s.inserted d) s).drives
  rw [State.inserted_detects hs ho hf] at hk ⊢
  exact ⟨(hk d).trans (State.drive_setDrive _ _ _), fun e he => (hk e).trans (State.drive_setDrive_other _ _ _ _ he)⟩

section
variable {s : State} {d : Nat} (hd : d < 24)

include hd

theorem exec_debounceExpiry (h : (s.drive d).st = .debouncing) :
    exec (.debounceExpiry d) s = .next (((s.until (s.drive d).deadline).powerUp d).done s) :=
  act_true (by rw [show (Instr.debounceExpiry d).wf = true from wf_drive hd, h]; rfl) _ _

theorem exec_powerDelayExpiry (h : (s.drive d).st = .powering) :
    exec (.powerDelayExpiry d) s = .next (((s.until (s.drive d).deadline).train d (s.maxGen d)).done s) :=
  act_true (by rw [show (Instr.powerDelayExpiry d).wf = true from wf_drive hd, h]; rfl) _ _

theorem exec_linkTrained {gen width : Nat} (h : s.canTrain d gen width = true) :
    exec (.linkTrained d gen width) s = .next ((s.linkTrained d gen width).done s) :=
  act_true (by rw [show (Instr.linkTrained d gen width).wf = true from wf_drive hd, h]; rfl) _ _

theorem exec_linkTrainTimeout {g : Nat} (h : (s.drive d).st = .training g) :
    exec (.linkTrainTimeout d) s = .next (((s.until (s.drive d).deadline).trainLower d).driven.done s) :=
  act_true (by rw [show (Instr.linkTrainTimeout d).wf = true from wf_drive hd, h]; rfl) _ _

theorem exec_linkEqualizationFail {g : Nat} (h : (s.drive d).st = .training g) :
    exec (.linkEqualizationFail d) s = .next ((s.trainLower d).driven.done s) :=
  act_true (by rw [show (Instr.linkEqualizationFail d).wf = true from wf_drive hd, h]; rfl) _ _

theorem exec_configWaitExpiry (h : (s.drive d).st = .waiting) :
    exec (.configWaitExpiry d) s = .next ((State.setDrive (s.until (s.drive d).deadline) d
      { (s.until (s.drive d).deadline).drive d with st := .initialising }).done s) :=
  act_true (by rw [show (Instr.configWaitExpiry d).wf = true from wf_drive hd, h]; rfl) _ _

theorem exec_driveInitDone (i : DriveInfo) (h : (s.drive d).st = .initialising) :
    exec (.driveInitDone d i) s = .next ((s.initDone d i).driven.done s) :=
  act_true (by rw [show (Instr.driveInitDone d i).wf = true from wf_drive hd, h]; rfl) _ _

theorem exec_driveInitTimeout (h : (s.drive d).st = .initialising) :
    exec (.driveInitTimeout d) s = .next ((s.settleFail d).driven.done s) :=
  act_true (by rw [show (Instr.driveInitTimeout d).wf = true from wf_drive hd, h]; rfl) _ _

end

theorem State.powerUp_until (s u : State) {d t : Nat} (hu : u = s.until t) :
    u.powerUp d = u.setDrive d { s.drive d with
      st := .powering, pwren := true, deadline := u.now + s.fld (rootBase d + 0xC) 31 16 * 1000000 } := by
  have hd : u.drive d = s.drive d := by rw [hu, State.drive_until]
  have hf : u.fld (rootBase d + 0xC) 31 16 = s.fld (rootBase d + 0xC) 31 16 := by rw [hu, State.until_frame]; rfl
  unfold State.powerUp
  rw [hd, hf]

theorem State.train_until (s u : State) {d t : Nat} (g : Nat) (hu : u = s.until t) :
    u.train d g = u.setDrive d { s.drive d with st := .training g, perstN := true, deadline := u.now + 100000000 } := by
  have hd : u.drive d = s.drive d := by rw [hu, State.drive_until]
  unfold State.train
  rw [hd]

theorem State.trainLower_of {s : State} {d g : Nat} (h : (s.drive d).st = .training g) :
    s.trainLower d = if g > 4 then s.train d (g - 1) else s.settleFail d := by
  unfold State.trainLower
  rw [h]

/-- The state of a port whose link is active, before its events. -/
def State.linkActive (s : State) (d gen width : Nat) : State :=
  s.setDrive d { s.drive d with st := .waiting, gen := gen, width := width, deadline := s.now + 100000000 }

theorem State.linkTrained_steady (s : State) (d gen width : Nat) :
    Steady (s.linkActive d gen width) (s.linkTrained d gen width)
      ∧ (gen < 6 ∨ width < 4 → ((s.linkTrained d gen width).src (evSrc (24 + d) 0)).pend = true) := by
  have hv (t : State) (c : Bool) : Steady t (if c then t.checkVault else t) := .ite _ (steady_checkVault t) (.refl t)
  have he : s.linkTrained d gen width =
      let u := if gen < 6 || width < 4 then (s.linkActive d gen width).raise0 (24 + d) 0 else s.linkActive d gen width
      if u.vault.contains d then u.checkVault else u := rfl
  rw [he]
  refine ⟨.trans (.ite _ (steady_raise0 _ _ _) (.refl _)) (hv _ _), fun h => ?_⟩
  have hc : (gen < 6 || width < 4) = true := by
    rw [Bool.or_eq_true, decide_eq_true_eq, decide_eq_true_eq]
    exact h
  rw [hc]
  exact (hv _ _).calm.pend _ (State.pend_raise0_same _ _ _)

theorem runs_linkTrained (s : State) (d gen width : Nat) (hd : d < 24) (h : s.canTrain d gen width = true) :
    Runs (.linkTrained d gen width) s fun t => t.drive d = { s.drive d with
        st := .waiting, gen := gen, width := width, deadline := s.now + 100000000 }
      ∧ ((gen < 6 ∨ width < 4) → (t.src (evSrc (24 + d) 0)).pend = true) := by
  obtain ⟨hs, hp⟩ := s.linkTrained_steady d gen width
  refine ⟨_, exec_linkTrained hd h, ?_, fun hg => ((Calm.refl _).done s).pend _ (hp hg)⟩
  rw [State.drive_congr (((Still.done (s.linkTrained d gen width) s).drives).trans hs.drives)]
  exact State.drive_setDrive _ _ _

/-! ### Qualify -/

/-- Issuing commands to drives changes the phase of none. -/
theorem State.st_pumpDrive (k d e : Nat) (s : State) : ((s.pumpDrive k d).drive e).st = (s.drive e).st := by
  induction k generalizing s with
  | zero => rfl
  | succ k ih =>
    unfold State.pumpDrive
    split
    · rfl
    · split
      · rfl
      · rw [ih, State.drive_congr (still_count _ _ _ _).drives]
        by_cases he : e = d
        · rw [he, State.drive_setDrive]
        · rw [State.drive_setDrive_other _ _ _ _ he]

theorem State.initDone_fatal {s : State} {d : Nat} {i : DriveInfo} (h : i.fatal = true) : s.initDone d i = s.contain d :=
  if_pos h

theorem State.initDone_st {s : State} {d : Nat} {i : DriveInfo} (h : i.fatal = false) :
    ((s.initDone d i).drive d).st = (if driveQualified i then .ready else .qualFail) := by
  have hr (t : State) (g b : Nat) : ((t.raise0 g b).drive d).st = (t.drive d).st := by
    rw [State.drive_congr (steady_raise0 g b t).drives]
  unfold State.initDone
  rw [if_neg (by rw [h]; decide)]
  dsimp only
  unfold State.kickDrive
  rw [State.st_pumpDrive, hr, apply_ite (fun t : State => (t.drive d).st), hr, ite_self, State.drive_setDrive]

theorem State.settleFail_ends (s : State) (d : Nat) :
    ((s.settleFail d).drive d).st = .qualFail ∧ ((s.settleFail d).drive d).pwren = false
      ∧ ((s.settleFail d).src (evSrc (24 + d) 3)).pend = true := by
  have hd : (s.settleFail d).drive d = (s.drive d).dark .qualFail :=
    (State.drive_congr (steady_raise0 _ _ _).drives d).trans (State.drive_setDrive _ _ _)
  rw [hd]
  exact ⟨rfl, rfl, State.pend_raise0_same _ _ _⟩

/-- Settles O50. -/
theorem drivesComeUp : Obligations.DrivesComeUp := by
  refine ⟨runs_drivePresent, fun s d hd h => ?_, fun s d hd h => ?_, runs_linkTrained, fun s d g hd h => ?_, fun s d hd h => ?_,
    fun s d i hd h => ⟨exec_driveInitDone hd i h, exec_driveInitTimeout hd h⟩, fun s d i h => State.initDone_fatal h,
    fun s d i h => State.initDone_st h, State.settleFail_ends⟩
  · intro u
    rw [exec_debounceExpiry hd h, State.powerUp_until s u rfl]
  · intro u
    rw [exec_powerDelayExpiry hd h, State.train_until s u _ rfl]
  · intro u
    have hu : (u.drive d).st = .training g := by rw [State.drive_until]; exact h
    exact ⟨by rw [exec_linkTrainTimeout hd h, State.trainLower_of hu],
      by rw [exec_linkEqualizationFail hd h, State.trainLower_of h]⟩
  · intro u
    rw [exec_configWaitExpiry hd h, State.drive_until]

end Sys2Proof.Machine
end

section
/-!
PROOFS. The Rootlets: drives that leave service (spec/14: R313 to R316, R322).
-/

namespace Sys2Proof.Machine

open Sys2Proof

/-! ### The commands -/

section
variable {s : State} {d : Nat} (hd : d < 24)

include hd

theorem exec_surpriseRemoval (h : (s.drive d).present = true) :
    exec (.surpriseRemoval d) s = .next ((s.removed d).driven.done s) :=
  act_true (by rw [show (Instr.surpriseRemoval d).wf = true from wf_drive hd, h]; rfl) _ _

theorem exec_aerCorrectable (h : (s.drive d).linked = true) :
    exec (.aerCorrectable d) s = .next ((s.count (78 + d) 3 1).done s) :=
  act_true (by rw [show (Instr.aerCorrectable d).wf = true from wf_drive hd, h]; rfl) _ _

theorem exec_aerFatal (h : (s.drive d).linked = true) : exec (.aerFatal d) s = .next ((s.contain d).driven.done s) :=
  act_true (by rw [show (Instr.aerFatal d).wf = true from wf_drive hd, h]; rfl) _ _

theorem exec_aerNonfatal {k : Nat} {c : DriveCmd} (h : s.cmdAt d k = some c) :
    exec (.aerNonfatal d k) s = .next ((s.nonFatal d c).driven.done s) := by
  dsimp only [exec]
  unfold execAerNonfatal
  rw [h]
  exact act_true (wf_drive hd) _ _

theorem exec_inboundViolation {w : Bool} {a : W64} {n : Nat} (h : (s.drive d).linked = true)
    (ho : (s.drive d).inboundOk w a.toNat n = false) :
    exec (.inboundViolation d w a n) s = .next ((s.contain d).driven.done s) :=
  act_true (by rw [show (Instr.inboundViolation d w a n).wf = true from wf_drive hd, h, ho]; rfl) _ _

theorem exec_containmentRelease (h : (s.drive d).st = .contained) :
    exec (.containmentRelease d) s = .next ((s.release_ d).driven.done s) :=
  act_true (by rw [show (Instr.containmentRelease d).wf = true from wf_drive hd, h]; rfl) _ _

theorem exec_driveCommandTimeout {k : Nat} {c : DriveCmd} (h : s.cmdAt d k = some c) (ha : c.abortAt = none)
    (hr : (s.drive d).resetting = false) :
    exec (.driveCommandTimeout d k) s = .next ((s.cmdTimeout d c).done s) := by
  dsimp only [exec]
  unfold execDriveCommandTimeout
  rw [h, Option.filter_some, if_pos (by rw [ha]; rfl)]
  exact act_true (by rw [show (Instr.driveCommandTimeout d k).wf = true from wf_drive hd, hr]; rfl) _ _

theorem exec_abortWaitExpiry {k t : Nat} {c : DriveCmd} (h : s.cmdAt d k = some c) (ha : c.abortAt = some t)
    (hr : (s.drive d).resetting = false) :
    exec (.abortWaitExpiry d k) s = .next ((s.ctrlReset d c).driven.done s) := by
  dsimp only [exec]
  unfold execAbortWaitExpiry
  rw [h, Option.filter_some, if_pos (by rw [ha]; rfl)]
  exact act_true (by rw [show (Instr.abortWaitExpiry d k).wf = true from wf_drive hd, hr]; rfl) _ _

theorem exec_controllerResetDone (ok : Bool) (h : (s.drive d).resetting = true) :
    exec (.controllerResetDone d ok) s = .next ((s.resetDone d ok).driven.done s) :=
  act_true (by rw [show (Instr.controllerResetDone d ok).wf = true from wf_drive hd, h]; rfl) _ _

theorem exec_rootletDisableWaitExpiry (h : (s.drive d).disabling = true) :
    exec (.rootletDisableWaitExpiry d) s = .next (((s.until (s.drive d).deadline).driveOff d).driven.done s) :=
  act_true (by rw [show (Instr.rootletDisableWaitExpiry d).wf = true from wf_drive hd, h]; rfl) _ _

end

/-! ### What they do -/

theorem State.removed_disabled {s : State} {d : Nat} (h : s.rootOn d = false) :
    s.removed d = (s.advance 1000000).setDrive d { s.drive d with present := false } := by
  suffices hf : ∀ f, f = State.removed d → f s = (s.advance 1000000).setDrive d { s.drive d with present := false } from
    hf _ rfl
  intro f hf
  delta State.removed at hf
  subst hf
  dsimp -zeta only
  have hd (n : Nat) : (s.advance n).drive d = s.drive d := rfl
  have hr (n : Nat) (v : Drive) : ((s.advance n).setDrive d v).rootOn d = s.rootOn d := rfl
  dsimp only
  rw [hr, h, hd]
  exact if_pos rfl

/-- No slot open: nothing above the windows of Table 14.2 is allowed. -/
theorem Drive.inboundOk_past {v : Drive} (w : Bool) {a n : Nat} (hv : v.atDrive = []) (ha : 0x10000000000 ≤ a) (hn : 0 < n) :
    v.inboundOk w a n = false := by
  have h1 : ¬(0xF000000000 ≤ a && a + n ≤ 0xF000400000) = true := by
    rw [Bool.and_eq_true, decide_eq_true_eq, decide_eq_true_eq]
    omega
  have h2 : ¬(0xFEE00000 ≤ a && a + n ≤ 0xFEE01000) = true := by
    rw [Bool.and_eq_true, decide_eq_true_eq, decide_eq_true_eq]
    omega
  unfold Drive.inboundOk
  rw [if_neg h1, if_neg h2, hv, List.any_nil, ite_self]

theorem State.release_retrains {s u : State} {d : Nat} (hu : u = s.until (s.drive d).deadline) (hp : (s.drive d).present = true)
    (ho : s.rootOn d = true) : s.release_ d = u.train d (s.maxGen d) := by
  have hd : u.drive d = s.drive d := by rw [hu, State.drive_until]
  have hr : u.rootOn d = s.rootOn d := by rw [hu, State.until_frame]; rfl
  have hm : u.maxGen d = s.maxGen d := by rw [hu, State.until_frame]; rfl
  unfold State.release_
  dsimp only
  rw [← hu, hd, hr, hm, hp, ho]
  rfl

theorem State.cmdTimeout_eq {s u : State} {d : Nat} {c : DriveCmd} (hu : u = s.until (c.issuedAt + c.cmdMs * 1000000)) :
    s.cmdTimeout d c = (State.raise0 (24 + d) 7 (u.setDrive d { s.drive d with atDrive := (s.drive d).atDrive.map fun x =>
      if x.id == c.id then { x with abortAt := some u.now } else x })).count (78 + d) 4 1 := by
  have hd : u.drive d = s.drive d := by rw [hu, State.drive_until]
  unfold State.cmdTimeout
  dsimp only
  rw [← hu, hd]

theorem State.ctrlReset_eq {s u : State} {d t : Nat} {c : DriveCmd} (ha : c.abortAt = some t)
    (hu : u = s.until (t + c.abortMs * 1000000)) :
    s.ctrlReset d c =
      let l := ((s.drive d).resets.filter fun t => u.now < t + 3600000000000) ++ [u.now]
      let v := (State.raise0 (24 + d) 8 (u.setDrive d { s.drive d with resetting := true, resets := l })).count (78 + d) 5 1
      if l.length > s.fld (rootBase d + 0x18) 23 16 then v.contain d else v := by
  have hd : u.drive d = s.drive d := by rw [hu, State.drive_until]
  have hr (w : Drive) : ((State.raise0 (24 + d) 8 (u.setDrive d w)).count (78 + d) 5 1).fld (rootBase d + 0x18) 23 16
      = s.fld (rootBase d + 0x18) 23 16 := by
    unfold State.fld State.reg
    rw [(still_count _ _ _ _).regs, (still_raise0 _ _ _).regs, show (u.setDrive d w).regs = u.regs from rfl, hu,
      State.until_frame]
  unfold State.ctrlReset
  dsimp only
  rw [ha, Option.getD_some, ← hu, hd, hr]

theorem State.resetDone_failed (s : State) (d : Nat) : s.resetDone d false = s.contain d := rfl

/-- Settles O51. -/
theorem drivesLeaveService : Obligations.DrivesLeaveService := by
  refine ⟨fun s d hd h => exec_surpriseRemoval hd h, fun s d h => State.removed_disabled h,
    fun s d hd h => ⟨exec_aerCorrectable hd h, exec_aerFatal hd h⟩, fun s d k c hd h => exec_aerNonfatal hd h,
    fun s d w a n hd h ho => exec_inboundViolation hd h ho,
    fun v a n hv ha hn => ⟨Drive.inboundOk_past true hv ha hn, Drive.inboundOk_past false hv ha hn⟩,
    fun s d hd h => exec_containmentRelease hd h, fun s d hp ho => State.release_retrains rfl hp ho,
    fun s d k c hd h ha hr => ?_, fun s d k t c hd h ha hr => ?_, fun s d hd h => ⟨exec_controllerResetDone hd true h, ?_⟩,
    fun s d hd h => exec_rootletDisableWaitExpiry hd h⟩
  · intro u
    rw [exec_driveCommandTimeout hd h ha hr, State.cmdTimeout_eq (u := u) rfl]
  · intro u l v
    rw [exec_abortWaitExpiry hd h ha hr, State.ctrlReset_eq (u := u) ha rfl]
  · rw [exec_controllerResetDone hd false h, State.resetDone_failed]

end Sys2Proof.Machine
end

section
/-!
PROOFS. The power-fail flush (spec/06: R155): what its Seal phase may lose.
-/

namespace Sys2Proof.Machine

open Sys2Proof

/-- A flush in its Vault phase with one vault drive, whose queue holds a read under the number that the Rootlet gives out next. -/
def numberTaken : State where
  sap := { flush := some .vault }
  sapw := { vaultSet := [0] }
  drives := [(0, { st := .ready, limit := 8, queue := [{ id := 0, purpose := .piece 0 0, isWrite := false, lba := 0, nb := 1 }] })]

/-- Issuing the read takes every waiting command of its number from the queue, the sealed header among them. -/
theorem numberTaken_seal :
    (numberTaken.seal.drive 0).all.any (fun c => match c.purpose with | .vaultHdr _ => true | _ => false) = false := by
  decide +kernel

/-- Refutes O29: in `numberTaken` the sealed header is queued beside a read of the same number, and goes with it when the read is
issued: no header is then at the drive or waits for it. The statement lacks the premise that a Rootlet's next number is above
those of its commands. -/
theorem not_flushPhases : ¬ Obligations.FlushPhases := by
  rintro ⟨-, -, -, hvault, -⟩
  obtain ⟨t, ht, -, -, -, hhdr⟩ := hvault numberTaken rfl (by decide +kernel)
  obtain ⟨c, hc, e, -, -, hp, -⟩ := hhdr 0 (by decide +kernel)
  have hx : exec .vaultWriteDone numberTaken = .next (numberTaken.seal.done numberTaken) := act_true (by decide +kernel) _ _
  rw [hx] at ht
  injection ht with ht
  rw [← ht, State.drive_congr (Still.done _ _).drives] at hc
  have hf := List.any_eq_false.1 numberTaken_seal c hc
  rw [hp] at hf
  exact hf rfl

end Sys2Proof.Machine
end

section
/-!
PROOFS. What the data path never touches: the registers, time, the power states of Sap, parked engines, and sources that are
pending (spec/04 to spec/08 change none of them; R332, R329, R391).
-/

namespace Sys2Proof.Machine

open Sys2Proof

/-- From `s` to `t` no register, no power state and no parked engine has changed, no time has passed, and no pending source has
been cleared. Only the idle times of Sap's resources may have. -/
structure Unmoved (s t : State) : Prop where
  regs : t.regs = s.regs
  now : t.now = s.now
  alertFixed : t.alertFixed = s.alertFixed
  sap : { t.sap with res := [] } = { s.sap with res := [] }
  sp : ∀ k, (t.resSt k).sp = (s.resSt k).sp
  exiting : ∀ k, (t.resSt k).exiting = (s.resSt k).exiting
  parked : ∀ e, (t.twig e).parked = (s.twig e).parked
  pend : ∀ n, (s.src n).pend = true → (t.src n).pend = true

/-- The parts of a state that `Unmoved` speaks of. -/
def State.watched (s : State) : Regs × Nat × List Bool × Sap × NMap Twig × NMap Src :=
  (s.regs, s.now, s.alertFixed, s.sap, s.twigs, s.evt)

namespace Unmoved

variable {s t u : State}

theorem refl (s : State) : Unmoved s s := ⟨rfl, rfl, rfl, rfl, fun _ => rfl, fun _ => rfl, fun _ => rfl, fun _ h => h⟩

theorem trans (h : Unmoved s t) (k : Unmoved t u) : Unmoved s u :=
  ⟨k.regs.trans h.regs, k.now.trans h.now, k.alertFixed.trans h.alertFixed, k.sap.trans h.sap,
    fun n => (k.sp n).trans (h.sp n), fun n => (k.exiting n).trans (h.exiting n), fun e => (k.parked e).trans (h.parked e),
    fun n p => k.pend n (h.pend n p)⟩

theorem still (h : Unmoved s t) (k : Still t u) (c : Calm t u) : Unmoved s u := by
  have hres : ∀ n, u.resSt n = t.resSt n := fun n => by simp only [State.resSt, k.sap]
  have htwig : ∀ e, u.twig e = t.twig e := fun e => by simp only [State.twig, k.twigs]
  exact h.trans ⟨k.regs, k.now, k.alertFixed, by rw [k.sap], fun n => by rw [hres], fun n => by rw [hres],
    fun e => by rw [htwig], c.pend⟩

/-- What changes none of the parts that `Unmoved` speaks of; the engines are parked or not as they were. -/
theorem frameTwigs (h : Unmoved s t) (ht : ∀ e, (u.twig e).parked = (t.twig e).parked)
    (he : { u with twigs := t.twigs : State }.watched = t.watched) : Unmoved s u := by
  simp only [State.watched, Prod.mk.injEq] at he
  obtain ⟨hr, hn, ha, hs, -, he⟩ := he
  have hres : ∀ n, u.resSt n = t.resSt n := fun n => by simp only [State.resSt, hs]
  exact h.trans ⟨hr, hn, ha, by rw [hs], fun n => by rw [hres], fun n => by rw [hres], ht,
    fun n p => by rw [State.src, he]; exact p⟩

/-- What changes none of the parts that `Unmoved` speaks of, nor the engines. -/
theorem frame (h : Unmoved s t) (he : u.watched = t.watched) : Unmoved s u := by
  simp only [State.watched, Prod.mk.injEq] at he
  obtain ⟨hr, hn, ha, hs, ht, he⟩ := he
  exact h.frameTwigs (fun e => by simp only [State.twig, ht]) (by simp only [State.watched, hr, hn, ha, hs, he])

theorem foldl {α : Type} {f : State → α → State} {l : List α} (h : Unmoved s t)
    (hf : ∀ u a, Unmoved s u → Unmoved s (f u a)) : Unmoved s (l.foldl f t) := by
  induction l generalizing t with
  | nil => exact h
  | cons a l ih => exact ih (hf t a h)

theorem foldl_snd {α β : Type} {f : β × State → α → β × State} {l : List α} {x : β × State} (h : Unmoved s x.2)
    (hf : ∀ x a, Unmoved s x.2 → Unmoved s (f x a).2) : Unmoved s (l.foldl f x).2 := by
  induction l generalizing x with
  | nil => exact h
  | cons a l ih => exact ih (hf x a h)

theorem ite {c : Prop} [Decidable c] (h : Unmoved s t) (k : Unmoved s u) : Unmoved s (if c then t else u) := by
  split
  · exact h
  · exact k

/-! ### State operations -/

theorem restFrom (h : Unmoved s t) {k : Nat} : Unmoved s (t.restFrom k) := by
  have hres : ∀ n, (t.restFrom k).resSt n = if n = k then { t.resSt k with idle := t.now } else t.resSt n := by
    intro n
    split
    · next e => rw [e]; exact NMap.getD_set_same _ _ _ _
    · next e => exact NMap.getD_set_other _ _ _ _ _ e
  refine h.trans ⟨rfl, rfl, rfl, rfl, fun n => ?_, fun n => ?_, fun _ => rfl, fun _ p => p⟩
  all_goals
    rw [hres]
    split
    · next e => rw [e]
    · rfl

theorem count (h : Unmoved s t) {b c k : Nat} : Unmoved s (t.count b c k) := h.frame rfl
theorem setDrive (h : Unmoved s t) {d : Nat} {v : Drive} : Unmoved s (t.setDrive d v) := h.frame rfl
theorem setGrove (h : Unmoved s t) {g : Nat} {v : Grove} : Unmoved s (t.setGrove g v) := h.frame rfl
theorem modGrove (h : Unmoved s t) {g : Nat} {f : Grove → Grove} : Unmoved s (t.modGrove g f) := h.frame rfl
theorem setCmd (h : Unmoved s t) {i : Nat} {c : Cmd} : Unmoved s (t.setCmd i c) := h.frame rfl
theorem modCmd (h : Unmoved s t) {i : Nat} {f : Cmd → Cmd} : Unmoved s (t.modCmd i f) := h.frame rfl
theorem modDesc (h : Unmoved s t) {r : Nat} {f : Desc → Desc} : Unmoved s (t.modDesc r f) := h.frame rfl
theorem modPiece (h : Unmoved s t) {p : Nat} {f : Piece → Piece} : Unmoved s (t.modPiece p f) := h.frame rfl
theorem stamp (h : Unmoved s t) {i n : Nat} : Unmoved s (t.stamp i n) := h.frame rfl
theorem raise (h : Unmoved s t) {n : Nat} {d : W32} : Unmoved s (t.raise n d) := h.still (still_raise n d t) (calm_raise n d t)
theorem raise0 (h : Unmoved s t) {g b : Nat} : Unmoved s (t.raise0 g b) := h.raise
theorem closePiece (h : Unmoved s t) {p : Nat} : Unmoved s (t.closePiece p) := h.still (still_closePiece p t) (calm_closePiece p t)
theorem retain (h : Unmoved s t) {i n : Nat} {b : Bool} : Unmoved s (t.retain i b n) :=
  h.still (still_retain i b n t) (calm_retain i b n t)
theorem openDesc (h : Unmoved s t) {d : Desc} : Unmoved s (t.openDesc d) := h.still (still_openDesc d t) (calm_openDesc d t)
theorem noteCredits (h : Unmoved s t) : Unmoved s t.noteCredits := h.still (still_noteCredits t) (calm_noteCredits t)
theorem tryPost (h : Unmoved s t) {i : Nat} : Unmoved s (t.tryPost i) := h.still (still_tryPost i t) (calm_tryPost i t)
theorem settle (h : Unmoved s t) : Unmoved s t.settle := h.still (still_settle t) (calm_settle t)

/-! ### Engine counters (R399) -/

theorem engWrap (h : Unmoved s t) {k e n : Nat} : Unmoved s (State.engWrap k e n t) := by
  induction k generalizing n t with
  | zero => exact h
  | succ k ih =>
    unfold State.engWrap
    split
    · dsimp only
      split
      · exact Unmoved.ite (ih (h.frame (by rfl))) (h.frame (by rfl))
      · exact h
    · exact Unmoved.raise (h.frame (by rfl))

theorem engAdd (h : Unmoved s t) {e n k : Nat} : Unmoved s (t.engAdd e n k) :=
  Unmoved.ite (Unmoved.engWrap (h.frame (by rfl))) (h.frame (by rfl))

theorem engEvent (h : Unmoved s t) {e code k : Nat} {c : Option Cmd} : Unmoved s (t.engEvent e code k c) :=
  h.foldl fun _ _ k => Unmoved.ite k.engAdd k

/-! ### The ledger and the end of a command (R91 to R97) -/

theorem request (h : Unmoved s t) {d : Desc} : Unmoved s (t.request d) := Unmoved.ite h.openDesc (h.frame (by rfl))

theorem freeDesc (h : Unmoved s t) {r : Nat} : Unmoved s (t.freeDesc r) := by
  unfold State.freeDesc
  dsimp only
  split
  · split
    · split
      · exact Unmoved.openDesc (h.frame (by rfl))
      · exact h.frame rfl
    · exact h.frame rfl
  · exact h.frame rfl

theorem closeShoots (h : Unmoved s t) : Unmoved s t.closeShoots := h.foldl fun _ _ k => k.closePiece

theorem dropUnsent (h : Unmoved s t) {i : Nat} : Unmoved s (t.dropUnsent i) :=
  closeShoots (Unmoved.foldl (h.frame (by rfl)) fun _ _ k => k.freeDesc)

theorem enterLedger (h : Unmoved s t) {i : Nat} : Unmoved s (t.enterLedger i) := by
  unfold State.enterLedger
  split
  · exact h
  · exact Unmoved.ite (Unmoved.stamp (Unmoved.stamp (h.frame (by rfl)))) (Unmoved.stamp (h.frame (by rfl)))

theorem runIntake (h : Unmoved s t) {k : Nat} : Unmoved s (State.runIntake k t) := by
  induction k generalizing t with
  | zero => exact h
  | succ k ih =>
    unfold State.runIntake
    split
    · exact h
    · exact Unmoved.ite h (Unmoved.ite (ih h.enterLedger) (Unmoved.ite h (Unmoved.raise0 (h.frame (by rfl)))))

theorem intake (h : Unmoved s t) : Unmoved s t.intake := h.runIntake

theorem release (h : Unmoved s t) {i : Nat} : Unmoved s (t.release i) := Unmoved.foldl (h.frame (by rfl)) fun _ _ k => k.stamp

theorem dropStaged (h : Unmoved s t) {i : Nat} : Unmoved s (t.dropStaged i) := h.frame rfl

/-- Engines that change otherwise are parked or not as they were. -/
theorem parked_map (f : Nat × Twig → Nat × Twig) (hk : ∀ p, (f p).1 = p.1) (hp : ∀ p, (f p).2.parked = p.2.parked) (e : Nat)
    (l : NMap Twig) : (NMap.getD (l.map f) e {}).parked = (NMap.getD l e {}).parked := by
  induction l with
  | nil => rfl
  | cons p l ih =>
    simp only [NMap.getD, NMap.get?, List.map_cons, hk] at ih ⊢
    by_cases hc : (p.1 == e) = true
    · rw [if_pos hc, if_pos hc]
      exact hp p
    · rw [if_neg hc, if_neg hc]
      exact ih

/-- An engine that a command leaves (R397): what `unplace` does to it. -/
def leaveTwig (t : State) (i : Nat) (p : Nat × Twig) : Nat × Twig :=
  if p.2.deque.contains i || p.2.started.contains i
  then
    let x := { p.2 with deque := without p.2.deque i, started := without p.2.started i }
    (p.1, if x.parked && x.deque.isEmpty && x.started.isEmpty && x.cycHeld.isNone
          then { x with cycHeld := some (t.cycles8 p.1) } else x)
  else p

theorem fst_leaveTwig (t : State) (i : Nat) (p : Nat × Twig) : (leaveTwig t i p).1 = p.1 := by
  unfold leaveTwig
  split <;> rfl

theorem parked_leaveTwig (t : State) (i : Nat) (p : Nat × Twig) : (leaveTwig t i p).2.parked = p.2.parked := by
  unfold leaveTwig
  split
  · dsimp only
    split <;> rfl
  · rfl

theorem unplace (h : Unmoved s t) {i : Nat} : Unmoved s (t.unplace i) := by
  unfold State.unplace
  dsimp only
  have hu := h.frameTwigs (u := { t with twigs := t.twigs.map (leaveTwig t i) })
    (fun e => parked_map _ (fst_leaveTwig t i) (parked_leaveTwig t i) e _) rfl
  exact Unmoved.ite hu.restFrom hu

theorem finish (h : Unmoved s t) {i : Nat} {st : Status} : Unmoved s (t.finish i st) := by
  unfold State.finish
  split
  · exact h
  · split
    · exact h
    · dsimp only
      refine Unmoved.tryPost (Unmoved.intake (Unmoved.release (Unmoved.ite ?_ (Unmoved.dropStaged (Unmoved.dropUnsent ?_)))))
      all_goals
        split
        · exact h.setCmd.unplace.engEvent
        · exact h.setCmd.unplace

theorem finishOk (h : Unmoved s t) {i : Nat} : Unmoved s (t.finishOk i) := h.finish
theorem fail (h : Unmoved s t) {i sct sc : Nat} : Unmoved s (t.fail i sct sc) := h.finish

/-! ### Heartwood and Cambium (spec/05) -/

theorem usePage (h : Unmoved s t) {k : Nat} : Unmoved s (t.usePage k) := by
  unfold State.usePage
  dsimp only
  split
  · split
    · exact h.frame rfl
    · exact h.frame rfl
  · exact h.frame rfl

theorem dirtyPage (h : Unmoved s t) {k n : Nat} : Unmoved s (t.dirtyPage k n) := h.usePage.frame rfl

theorem useTag (h : Unmoved s t) {n l : Nat} : Unmoved s (t.useTag n l) := by
  unfold State.useTag
  split
  · exact h
  · exact h.frame rfl

theorem dropPage (h : Unmoved s t) {k : Nat} : Unmoved s (t.dropPage k) := h.frame rfl

theorem setLoc (h : Unmoved s t) {n l q : Nat} {x : Loc} : Unmoved s (t.setLoc n l q x) := by
  unfold State.setLoc
  dsimp only
  have hp : ∀ m, Unmoved s (State.useTag n l (State.tcPrune n l { t with heart := { t.heart with map := m } })) :=
    fun _ => Unmoved.useTag (h.frame (by rfl))
  exact Unmoved.ite (Unmoved.dirtyPage (Unmoved.ite (hp _).dirtyPage (Unmoved.ite (hp _).dropPage (hp _))))
    (Unmoved.ite (hp _).dirtyPage (Unmoved.ite (hp _).dropPage (hp _)))

theorem setRun (h : Unmoved s t) {n l k q : Nat} {keep : Nat → Loc → Bool} {f : Nat → Loc} :
    Unmoved s (t.setRun n l k q keep f) :=
  h.foldl fun _ _ k => Unmoved.ite k.setLoc k

theorem putRec (h : Unmoved s t) {g n k : Nat} {b : RecBody} {c : Cont} : Unmoved s (t.putRec g n k b c) := h.frame rfl

theorem pushRec (h : Unmoved s t) {g n : Nat} {b : RecBody} {c : Cont} : Unmoved s (t.pushRec g n b c) := by
  unfold State.pushRec
  dsimp only
  have hp : Unmoved s (if t.padUnits (recUnits b) == 0 then t else t.putRec 0 0 (t.padUnits (recUnits b)) .pad .none) :=
    Unmoved.ite h h.putRec
  have last : ∀ v, Unmoved s v → ∀ q : Bool, Unmoved s (if q then
      State.raise0 5 16 { State.putRec g n (recUnits b) b c v with camb :=
        { (State.putRec g n (recUnits b) b c v).camb with compacting := true } } else State.putRec g n (recUnits b) b c v) :=
    fun v k q =>
      have hv : Unmoved s (State.putRec g n (recUnits b) b c v) := k.putRec
      Unmoved.ite (Unmoved.raise0 (hv.frame (by rfl))) hv
  cases b
  case checkpoint => exact last _ (hp.frame (by rfl)) _
  all_goals exact last _ hp _

theorem noteStall (h : Unmoved s t) : Unmoved s t.noteStall :=
  Unmoved.ite h (Unmoved.ite (Unmoved.raise0 (h.frame (by rfl))) (h.frame (by rfl)))

theorem pushHeld (h : Unmoved s t) {g n : Nat} {b : RecBody} {c : Cont} : Unmoved s (t.pushHeld g n b c) := by
  unfold State.pushHeld
  dsimp only
  split
  · split
    · exact h.modGrove
    · exact h
  · exact h.pushRec

theorem append (h : Unmoved s t) {g n : Nat} {b : RecBody} {c : Cont} : Unmoved s (t.append g n b c) :=
  Unmoved.ite h.pushHeld (Unmoved.noteStall (h.frame (by rfl)))

/-! ### Drives' queues (spec/14) -/

theorem pumpDrive (h : Unmoved s t) {k d : Nat} : Unmoved s (State.pumpDrive k d t) := by
  induction k generalizing t with
  | zero => exact h
  | succ k ih =>
    unfold State.pumpDrive
    split
    · exact h
    · split
      · exact h
      · exact ih h.setDrive.count

theorem kickDrive (h : Unmoved s t) {d : Nat} : Unmoved s (t.kickDrive d) := h.pumpDrive
theorem toDrive (h : Unmoved s t) {d : Nat} {c : DriveCmd} : Unmoved s (t.toDrive d c) := h.setDrive.kickDrive

end Unmoved
end Sys2Proof.Machine
end

section
/-!
PROOFS. Pieces, stripes, flushes and rebuilds leave the registers, time, power states, parked engines and pending sources alone
(spec/04, spec/06 to spec/08).
-/

namespace Sys2Proof.Machine.Unmoved

open Sys2Proof

variable {s t u : State}

/-- A step that is made or not. -/
theorem iteOf {c : Prop} [Decidable c] (h : Unmoved s t) (k : Unmoved s t → Unmoved s u) : Unmoved s (if c then u else t) :=
  Unmoved.ite (k h) h

/-- A step that is left out or not. -/
theorem iteNot {c : Prop} [Decidable c] (h : Unmoved s t) (k : Unmoved s t → Unmoved s u) : Unmoved s (if c then t else u) :=
  Unmoved.ite h (k h)

theorem sapwood (h : Unmoved s t) {x : Sapwood} : Unmoved s { t with sapw := x } := h.frame rfl

/-! ### Data to the hosts -/

theorem pushData (h : Unmoved s t) {i o : Nat} {b : List Byte} {sh : Option Nat} : Unmoved s (t.pushData i o b sh) := by
  unfold State.pushData
  split
  · exact h
  · next c _ =>
    dsimp only
    refine foldl_snd (Unmoved.stamp ?_) fun _ _ k => k.request
    split
    · exact h.engEvent
    · exact h

theorem tryCompare (h : Unmoved s t) {i : Nat} : Unmoved s (t.tryCompare i) := by
  unfold State.tryCompare
  split
  · exact h
  · exact Unmoved.ite h (Unmoved.ite h.finishOk h.fail)

theorem gotBlocks (h : Unmoved s t) {i : Nat} {l : List (Nat × List Byte)} : Unmoved s (t.gotBlocks i l) := by
  unfold State.gotBlocks
  dsimp only
  split
  · exact h.modCmd
  · split
    · exact h.modCmd
    · exact Unmoved.ite h.modCmd.finish h.modCmd

theorem serve (h : Unmoved s t) {i a : Nat} {b : List (List Byte)} {sh : Option Nat} : Unmoved s (t.serve i a b sh) := by
  unfold State.serve
  split
  · exact h
  · exact Unmoved.ite h (Unmoved.ite h.gotBlocks.tryCompare h.gotBlocks.pushData)

/-! ### Lost blocks (R181, R183) -/

theorem suspect (h : Unmoved s t) {g a : Nat} : Unmoved s (t.suspect g a) := h.modGrove
theorem logLost (h : Unmoved s t) {e : LostEntry} : Unmoved s (t.logLost e) := h.frame rfl

theorem markLost (h : Unmoved s t) {g c : Nat} {r : Nat × Nat × Nat × Nat × Nat} : Unmoved s (t.markLost g c r) :=
  h.append.logLost.modGrove.suspect.raise

theorem losePage (h : Unmoved s t) {g k : Nat} : Unmoved s (t.losePage g k) :=
  Unmoved.ite h.dirtyPage h.append.setRun.logLost.modGrove.usePage.raise0

/-! ### Staging (R132) -/

theorem queueEntry (h : Unmoved s t) {n : Nat} : Unmoved s (t.queueEntry n) := by
  unfold State.queueEntry
  split
  · exact h
  · exact h.modGrove

theorem newEntry (h : Unmoved s t) {e : Entry} : Unmoved s (t.newEntry e).2 := h.frame rfl

theorem stageOwn (h : Unmoved s t) {e : Entry} : Unmoved s (t.stageOwn e) := Unmoved.ite h.newEntry.queueEntry (h.frame (by rfl))

theorem stageQueued (h : Unmoved s t) {k : Nat} : Unmoved s (State.stageQueued k t) := by
  induction k generalizing t with
  | zero => exact h
  | succ k ih =>
    unfold State.stageQueued
    split
    · exact h
    · exact Unmoved.ite (ih (Unmoved.queueEntry (Unmoved.newEntry (h.frame (by rfl))))) h

theorem stageReloc (h : Unmoved s t) {g : Nat} {a : Bool} {l : List ((Nat × Nat × Nat × Nat) × List Byte)} :
    Unmoved s (t.stageReloc g a l) := Unmoved.ite h h.stageOwn

/-! ### Pieces (spec/08) -/

theorem refetched (h : Unmoved s t) {r : Nat} : Unmoved s (t.refetched r) := by
  unfold State.refetched
  dsimp only
  split
  · exact h.frame rfl
  · split
    · exact h
    · split
      · split
        · exact h.frame rfl
        · split
          · exact Unmoved.finish (h.frame (by rfl))
          · exact Unmoved.modDesc (h.frame (by rfl))
      · exact h.frame rfl

theorem feedPiece (h : Unmoved s t) {q : Nat} {p : Piece} : Unmoved s (t.feedPiece q p) := by
  unfold State.feedPiece
  split
  · exact h
  · next x _ =>
    dsimp only
    cases x.refetch
    · exact h.modPiece
    · exact h.modPiece.refetched

theorem serveRecip (h : Unmoved s t) {p : Piece} {sh : Option Nat} {r : Recip} : Unmoved s (t.serveRecip p sh r) := by
  unfold State.serveRecip
  split
  · exact h.feedPiece
  · exact h
  · dsimp only
    split
    · exact h.stamp
    · split
      · exact h.stamp.modCmd.gotBlocks
      · exact h.stamp.serve

theorem failTranslating (h : Unmoved s t) {k : Nat} : Unmoved s (t.failTranslating k) := h.foldl fun _ _ k => k.finish

theorem finishPiece (h : Unmoved s t) {p : Nat} : Unmoved s (t.finishPiece p) := by
  unfold State.finishPiece
  split
  · exact h
  · next x _ =>
    split
    · exact h
    · next g _ =>
      dsimp only
      generalize hv : (if x.copy then _ else _ : State) = v
      have hcopy : Unmoved s v := by
        rw [← hv]
        refine iteOf (Unmoved.foldl (modPiece (iteOf (iteNot h fun h => ?_) (·.suspect.raise))) fun _ _ k => k.serveRecip)
          (·.stageReloc)
        exact suspect (Unmoved.foldl (Unmoved.foldl h fun _ _ k => k.markLost) fun _ _ k => iteNot k (·.losePage))
      refine closePiece (iteOf ?_ (·.retain))
      clear hv
      split
      · refine refetched ?_
        split
        · exact Unmoved.ite hcopy.usePage (Unmoved.ite hcopy.failTranslating hcopy.losePage)
        · exact hcopy
      · split
        · exact Unmoved.ite hcopy.usePage (Unmoved.ite hcopy.failTranslating hcopy.losePage)
        · exact hcopy

theorem checkPiece (h : Unmoved s t) {p : Nat} : Unmoved s (t.checkPiece p) := by
  unfold State.checkPiece
  split
  · exact h
  · exact iteOf h (·.finishPiece)

theorem gotBlock (h : Unmoved s t) {p b : Nat} {l : List Byte} : Unmoved s (t.gotBlock p b l) := h.modPiece.checkPiece
theorem lostBlock (h : Unmoved s t) {p b : Nat} : Unmoved s (t.lostBlock p b) := h.modPiece.checkPiece

theorem solve (h : Unmoved s t) {p b : Nat} : Unmoved s (t.solve p b) := by
  unfold State.solve
  split
  · exact h
  · split
    · exact h
    · dsimp only
      generalize List.find? _ _ = o
      cases o
      · exact h.modPiece.lostBlock
      · exact h.modPiece.modPiece.gotBlock

theorem missBlock (h : Unmoved s t) {p b : Nat} {r : Bool} : Unmoved s (t.missBlock p b r) := by
  unfold State.missBlock
  split
  · exact h
  · split
    · exact h
    · split
      · exact h.gotBlock
      · exact iteOf (h.modPiece.foldl fun _ _ k => k.toDrive) (·.solve)

theorem startPiece (h : Unmoved s t) {x : Piece} {e : Option (Nat × Nat)} : Unmoved s (t.startPiece x e) := by
  unfold State.startPiece
  dsimp only
  split
  · exact h.frame rfl
  · refine Unmoved.ite (toDrive ?_) (Unmoved.foldl (h.frame (by rfl)) fun _ _ k => k.missBlock)
    split
    · exact Unmoved.stamp (Unmoved.engEvent (h.frame (by rfl)))
    · exact h.frame rfl

theorem readPage (h : Unmoved s t) {n k : Nat} : Unmoved s (t.readPage n k) := by
  unfold State.readPage
  dsimp only
  split
  · exact iteNot h (·.startPiece)
  · exact h

/-! ### Stripes (spec/06) -/

theorem segRecord (h : Unmoved s t) {g a n : Nat} {c : Cont} : Unmoved s (t.segRecord g a n c) := h.append

theorem zoneAll (h : Unmoved s t) {x : Grove} {g n a : Nat} : Unmoved s (x.zoneAll g n a t) :=
  h.foldl fun _ _ k => iteNot k (·.toDrive)

theorem sealSeg (h : Unmoved s t) {g a : Nat} : Unmoved s (t.sealSeg g a) := by
  unfold State.sealSeg
  split
  · exact h
  · split
    · exact h
    · exact iteNot h fun h => iteOf (iteNot h.setGrove.segRecord (·.stageOwn)) (·.zoneAll)

theorem closeCur (h : Unmoved s t) {g : Nat} {k : Stream} : Unmoved s (t.closeCur g k) := by
  unfold State.closeCur
  split
  · exact h
  · dsimp only
    split
    · exact h
    · exact iteOf h.setGrove (·.sealSeg)

theorem placeOne (h : Unmoved s t) {g : Nat} {k : Stream} : Unmoved s (t.placeOne g k) := by
  unfold State.placeOne
  split
  · exact h
  · dsimp only
    split
    · exact iteOf h.setGrove.sapwood (·.closeCur)
    · exact h

theorem fill (h : Unmoved s t) {f g : Nat} {k : Stream} : Unmoved s (State.fill f g k t) := by
  induction f generalizing t with
  | zero => exact h
  | succ f ih =>
    unfold State.fill
    split
    · exact h
    · exact iteOf h fun h => ih h.placeOne

theorem writeIntent (h : Unmoved s t) {g : Nat} {b : Nat × Nat × Nat} : Unmoved s (t.writeIntent g b) := by
  unfold State.writeIntent
  split
  · exact h
  · exact h.setGrove.foldl fun _ _ k => k.toDrive

theorem needIntent (h : Unmoved s t) {g n : Nat} {k : Stream} : Unmoved s (t.needIntent g n k) := by
  unfold State.needIntent
  split
  · exact h
  · exact iteNot h (·.writeIntent)

theorem issueChunk (h : Unmoved s t) {g n d : Nat} : Unmoved s (t.issueChunk g n d) := by
  unfold State.issueChunk
  split
  · exact h
  · split
    · exact h
    · next x _ =>
      refine iteOf (iteOf h.setGrove (·.raise)) fun k => toDrive ?_
      split
      · exact k.engEvent
      · exact k

theorem issueChunks (h : Unmoved s t) {g n : Nat} : Unmoved s (t.issueChunks g n) := by
  unfold State.issueChunks
  split
  · exact h
  · split
    · exact h
    · exact iteNot h fun h => iteNot h fun h => Unmoved.ite (modGrove (h.foldl fun _ _ k => k.issueChunk)) h.needIntent

theorem issueParity (h : Unmoved s t) {g n : Nat} : Unmoved s (t.issueParity g n) := by
  unfold State.issueParity
  split
  · exact h
  · split
    · exact h
    · exact iteNot h fun h => iteNot (iteNot h.setGrove (·.toDrive)) (·.toDrive)

theorem commitStripe (h : Unmoved s t) {g n : Nat} : Unmoved s (t.commitStripe g n) := by
  unfold State.commitStripe
  split
  · exact h
  · split
    · exact h
    · exact iteNot h fun h => Unmoved.ite (h.setGrove.foldl fun _ _ k => k.append) (iteOf h fun h => h.setGrove.raise)

theorem adopt (h : Unmoved s t) {g n : Nat} : Unmoved s (t.adopt g n) := by
  unfold State.adopt
  split
  · split
    · exact h
    · exact iteNot h fun h => setGrove (h.frame (by rfl))
  · exact h

theorem freeEntries (h : Unmoved s t) : Unmoved s t.freeEntries := h.frame rfl
theorem dropStripe (h : Unmoved s t) {g n : Nat} : Unmoved s (t.dropStripe g n) := sapwood h.modGrove

theorem leaveStripe (h : Unmoved s t) {g n : Nat} : Unmoved s (t.leaveStripe g n) := by
  unfold State.leaveStripe
  split
  · exact h
  · split
    · exact h
    · exact iteOf h fun h => iteOf h.dropStripe.freeEntries fun k => k.foldl fun _ _ k => k.restFrom

theorem abandonCheck (h : Unmoved s t) {g n : Nat} : Unmoved s (t.abandonCheck g n) := h.modGrove

theorem stepStripe (h : Unmoved s t) {g n : Nat} : Unmoved s (t.stepStripe g n) :=
  h.abandonCheck.adopt.issueChunks.issueParity.commitStripe.leaveStripe

theorem closeCovered (h : Unmoved s t) {g : Nat} : Unmoved s (t.closeCovered g) := by
  unfold State.closeCovered
  split
  · exact h
  · dsimp only
    split
    · exact h
    · exact iteOf h (·.closeCur)

theorem pumpGrove (h : Unmoved s t) {g : Nat} : Unmoved s (t.pumpGrove g) := by
  unfold State.pumpGrove
  split
  · exact h
  · refine iteNot h fun h => Unmoved.foldl (Unmoved.foldl (closeCovered (h.foldl fun _ _ k => k.fill)) ?_) ?_ <;>
      exact fun _ _ k => k.stepStripe

/-! ### Writes and flushes (R134, R152) -/

theorem landWrite (h : Unmoved s t) {i : Nat} : Unmoved s (t.landWrite i) := by
  unfold State.landWrite
  split
  · exact h
  · next c _ =>
    dsimp only
    generalize hq : List.foldl (fun s e => State.queueEntry e s) _ _ = v
    have hqueue : Unmoved s v := by
      rw [← hq]
      exact Unmoved.foldl (h.sapwood.foldl fun _ _ k => k.setLoc) fun _ _ k => k.queueEntry
    split
    · exact h.fail
    · refine Unmoved.ite h.fail (finishOk (release (sapwood (stamp (modCmd ?_)))))
      split
      · exact hqueue.engEvent
      · exact hqueue

theorem tryRelease (h : Unmoved s t) {i : Nat} : Unmoved s (t.tryRelease i) := by
  unfold State.tryRelease
  split
  · exact h
  · refine iteNot h fun h => ?_
    split
    · exact h.readPage
    · exact iteOf h (·.landWrite)

theorem tryReleases (h : Unmoved s t) : Unmoved s t.tryReleases := h.foldl fun _ _ k => k.tryRelease

theorem checkFlush (h : Unmoved s t) {i : Nat} : Unmoved s (t.checkFlush i) := by
  unfold State.checkFlush
  split
  · exact h
  · exact iteNot h fun h => Unmoved.ite (iteNot h fun h => Unmoved.ite h.fail h.finishOk) h.finishOk

theorem checkFlushes (h : Unmoved s t) : Unmoved s t.checkFlushes := h.foldl fun _ _ k => k.checkFlush

end Sys2Proof.Machine.Unmoved
end

section
/-!
PROOFS. Members, rebuilds, containment and Grove Management leave the registers, time, power states, parked engines and pending
sources alone (spec/06, spec/07, spec/14).
-/

namespace Sys2Proof.Machine.Unmoved

open Sys2Proof

variable {s t u : State}

/-! ### Labels, records and resynchronization (R160, R186) -/

theorem sendLabel (h : Unmoved s t) {d : Nat} {l : Label} {i : Option Nat} : Unmoved s (t.sendLabel d l i) := h.setDrive.toDrive

theorem writeLabels (h : Unmoved s t) {g : Nat} {i : Option Nat} : Unmoved s (t.writeLabels g i) := by
  unfold State.writeLabels
  split
  · exact h
  · exact h.setGrove.foldl fun _ _ k => iteOf k (·.sendLabel)

theorem cursorRecord (h : Unmoved s t) {g n : Nat} {r : Rebuild} : Unmoved s (t.cursorRecord g r n) := h.append

theorem resyncMove (h : Unmoved s t) {g n : Nat} {c : Nat → Option (List (List Byte))} : Unmoved s (t.resyncMove g n c) := by
  unfold State.resyncMove
  split
  · exact h
  · exact iteOf (suspect (stageReloc (Unmoved.foldl (h.foldl fun _ _ k => k.markLost) fun _ _ k => k.losePage))) (·.raise)

theorem resyncDone (h : Unmoved s t) {g : Nat} : Unmoved s (t.resyncDone g) := by
  unfold State.resyncDone
  split
  · exact h
  · exact h.setGrove.writeIntent.writeLabels.raise

theorem verified (h : Unmoved s t) {g n : Nat} : Unmoved s (t.verified g n) :=
  iteNot h fun h => iteOf h.modGrove (·.resyncDone)

theorem checkStripe (h : Unmoved s t) {g n : Nat} {c : Nat → Option (List (List Byte))} : Unmoved s (t.checkStripe g n c) := by
  unfold State.checkStripe
  split
  · exact h
  · exact iteNot h (·.resyncMove)

/-! ### Rebuilds (spec/07) -/

theorem rbWrites (h : Unmoved s t) {g : Nat} {x : Grove} {j : RbJob} {c : Nat → List (List Byte)} : Unmoved s (t.rbWrites g x j c) :=
  h.setGrove.foldl fun _ _ k => k.toDrive

theorem rbSolve (h : Unmoved s t) {g : Nat} : Unmoved s (t.rbSolve g) := by
  unfold State.rbSolve
  split
  · exact h
  · next x _ =>
    split
    · exact h
    · next j _ =>
      dsimp only
      generalize hv : (if x.resync.any fun r => r.todo.contains j.stripe then _ else _ : State) = v
      have hcheck : Unmoved s v := by
        rw [← hv]
        refine iteOf ?_ (·.checkStripe.verified)
        exact iteOf (iteOf (Unmoved.foldl (h.foldl fun _ _ k => k.markLost) fun _ _ k => k.losePage) (·.suspect)) (·.suspect.raise)
      split
      · exact hcheck
      · exact hcheck.rbWrites

theorem rbGot (h : Unmoved s t) {g j a b : Nat} {l : Option (List Byte)} : Unmoved s (t.rbGot g j a b l) := by
  unfold State.rbGot
  split
  · exact h
  · exact iteNot h fun h => iteOf h.modGrove (·.rbSolve)

theorem rbStart (h : Unmoved s t) {g a i : Nat} : Unmoved s (t.rbStart g a i) := by
  unfold State.rbStart
  split
  · exact h
  · dsimp only
    split
    · exact h.setGrove.rbWrites.verified
    · exact h.setGrove.foldl fun _ _ k => k.toDrive

theorem rebuilt (h : Unmoved s t) {g : Nat} {r : Rebuild} : Unmoved s (t.rebuilt g r) := by
  unfold State.rebuilt
  split
  · exact h
  · exact h.setGrove.cursorRecord.writeLabels.raise

theorem endPass (h : Unmoved s t) {g : Nat} : Unmoved s (t.endPass g) := by
  unfold State.endPass
  split
  · exact h
  · exact Unmoved.foldl (h.setGrove.foldl fun _ _ k => k.rebuilt) fun _ _ k => k.cursorRecord

theorem pumpRebuild (h : Unmoved s t) {k g : Nat} : Unmoved s (State.pumpRebuild k g t) := by
  induction k generalizing t with
  | zero => exact h
  | succ k ih =>
    unfold State.pumpRebuild
    split
    · exact h
    · refine iteNot h fun h => ?_
      split
      · exact ih h.endPass
      · exact iteNot h (·.rbStart)

theorem pump (h : Unmoved s t) : Unmoved s t.pump :=
  checkFlushes (h.stageQueued.tryReleases.foldl fun _ _ k => k.pumpGrove.pumpRebuild)

/-! ### Members and spares (R160, R176, R184) -/

theorem sendHeaders (h : Unmoved s t) {l : List Nat} {v : VaultHdr} : Unmoved s (t.sendHeaders l v) := h.foldl fun _ _ k => k.toDrive

theorem markOpen (h : Unmoved s t) {l : List Nat} : Unmoved s (t.markOpen l) := h.sendHeaders

theorem checkVault (h : Unmoved s t) : Unmoved s t.checkVault := h.foldl fun _ _ k => iteOf k (·.raise0)

theorem leaveSet (h : Unmoved s t) {g : Nat} {k : Stream} : Unmoved s (t.leaveSet g k) := by
  unfold State.leaveSet
  split
  · exact h
  · exact h.setGrove.foldl fun _ _ k => k.zoneAll

theorem takeSpare (h : Unmoved s t) {g a d : Nat} : Unmoved s (t.takeSpare g a d) := by
  unfold State.takeSpare
  split
  · exact h
  · dsimp only
    generalize hv : List.foldl _ t _ = v
    have hseal : Unmoved s v := by
      rw [← hv]
      refine h.foldl fun u a k => ?_
      split
      · exact k.closeCur.sealSeg.leaveSet
      · exact k.closeCur
    split
    · exact hseal
    · exact hseal.setGrove.setDrive.writeLabels.cursorRecord.raise.checkVault.pumpGrove

theorem autoTake (h : Unmoved s t) {g a : Nat} : Unmoved s (t.autoTake g a) := by
  unfold State.autoTake
  split
  · exact h.raise
  · exact iteOf h (·.takeSpare)

theorem missCmd (h : Unmoved s t) {c : DriveCmd} {r : Bool} : Unmoved s (t.missCmd c r) := by
  unfold State.missCmd
  split
  · split
    · exact h
    · exact h.foldl fun _ _ k => k.missBlock
  · exact iteOf h.modPiece (·.solve)
  · exact h.foldl fun _ _ k => k.rbGot
  · exact h

theorem failMember (h : Unmoved s t) {g a : Nat} : Unmoved s (t.failMember g a) := by
  unfold State.failMember
  split
  · exact h
  · split
    · exact h
    · refine iteNot h fun h => pump (checkVault (iteNot (iteOf (writeLabels ?_) (·.writeIntent.raise)) (·.autoTake)))
      exact (iteOf h.setGrove.setDrive.raise (·.raise)).foldl fun _ _ k => k.missCmd

theorem failDrive (h : Unmoved s t) {d : Nat} : Unmoved s (t.failDrive d) := by
  unfold State.failDrive
  split
  · exact h.failMember
  · exact h

/-! ### Drives that leave service (spec/14) -/

theorem contain (h : Unmoved s t) {d : Nat} : Unmoved s (t.contain d) :=
  pump (h.setDrive.raise0.failDrive.foldl fun _ _ k => k.missCmd)

theorem endAll (h : Unmoved s t) {d : Nat} : Unmoved s (t.endAll d) := h.setDrive.foldl fun _ _ k => k.missCmd

theorem driveOff (h : Unmoved s t) {d : Nat} : Unmoved s (t.driveOff d) := h.endAll.setDrive.checkVault.pump

theorem checkOff (h : Unmoved s t) {d : Nat} : Unmoved s (t.checkOff d) := iteOf h (·.driveOff)

theorem disableRoot (h : Unmoved s t) {d : Nat} : Unmoved s (t.disableRoot d) := h.failDrive.setDrive.checkOff

theorem enableRoot (h : Unmoved s t) {d : Nat} : Unmoved s (t.enableRoot d) :=
  Unmoved.ite h.setDrive.setDrive (iteOf h.setDrive (·.setDrive))

theorem setPowerOff (h : Unmoved s t) {d : Nat} {b : Bool} : Unmoved s (t.setPowerOff d b) :=
  Unmoved.ite h.setDrive.checkOff (iteNot h fun h => Unmoved.ite h.setDrive h.setDrive)

/-! ### Grove Management (Table 7.6) -/

theorem labelsDone (h : Unmoved s t) {i : Nat} : Unmoved s (t.labelsDone i) := iteNot h (·.finishOk)

theorem takeWaiting (h : Unmoved s t) : Unmoved s t.takeWaiting := by
  refine iteNot h fun h => h.foldl fun _ _ k => ?_
  split
  · exact k.takeSpare
  · exact k

theorem designate (h : Unmoved s t) {i : Nat} {c : Cmd} : Unmoved s (t.designate i c) :=
  takeWaiting (checkVault (markOpen (labelsDone (modCmd (h.foldl fun _ _ k => k.setDrive.sendLabel)))))

theorem buildGrove (h : Unmoved s t) {i : Nat} {c : Cmd} : Unmoved s (t.buildGrove i c) :=
  pump (checkVault (markOpen (labelsDone (writeLabels (modCmd (h.setGrove.foldl fun _ _ k => k.setDrive))))))

theorem formatsDone (h : Unmoved s t) {i : Nat} : Unmoved s (t.formatsDone i) := by
  unfold State.formatsDone
  split
  · exact h
  · refine iteNot h fun h => Unmoved.ite h.fail ?_
    split
    · exact h.finish
    · exact Unmoved.ite h.buildGrove h.designate

theorem adminDrives (h : Unmoved s t) : Unmoved s t.adminDrives := by
  refine h.foldl fun _ _ k => ?_
  split
  · exact k.formatsDone
  · exact k.labelsDone
  · exact iteNot k (·.finish)
  · exact k

end Sys2Proof.Machine.Unmoved
end

section
/-!
PROOFS. Power states move without a register or a pending source being touched (R332, R333, R339).
-/

namespace Sys2Proof.Machine

open Sys2Proof

/-- From `s` to `t` no register has changed, no time has passed, no pending source has been cleared, and of Sap only the power
states and what the engines' unparking needs may have changed. -/
structure Tuned (s t : State) : Prop where
  regs : t.regs = s.regs
  now : t.now = s.now
  alertFixed : t.alertFixed = s.alertFixed
  sap : { t.sap with res := [], unparking := [], selfRefresh := false }
    = { s.sap with res := [], unparking := [], selfRefresh := false }
  pend : ∀ n, (s.src n).pend = true → (t.src n).pend = true

theorem Unmoved.tuned {s t : State} (h : Unmoved s t) : Tuned s t :=
  ⟨h.regs, h.now, h.alertFixed, congrArg (fun x : Sap => { x with unparking := [], selfRefresh := false }) h.sap, h.pend⟩

/-- The parts of a state that `Tuned` speaks of. -/
def State.tuning (s : State) : Regs × Nat × List Bool × Sap × NMap Src :=
  (s.regs, s.now, s.alertFixed, { s.sap with res := [], unparking := [], selfRefresh := false }, s.evt)

namespace Tuned

variable {s t u : State}

theorem refl (s : State) : Tuned s s := (Unmoved.refl s).tuned

theorem trans (h : Tuned s t) (k : Tuned t u) : Tuned s u :=
  ⟨k.regs.trans h.regs, k.now.trans h.now, k.alertFixed.trans h.alertFixed, k.sap.trans h.sap, fun n p => k.pend n (h.pend n p)⟩

/-- A step that moves no power state. -/
theorem step (h : Tuned s t) (k : Unmoved t u) : Tuned s u := h.trans k.tuned

theorem foldl {α : Type} {f : State → α → State} {l : List α} (h : Tuned s t)
    (hf : ∀ u a, Tuned s u → Tuned s (f u a)) : Tuned s (l.foldl f t) := by
  induction l generalizing t with
  | nil => exact h
  | cons a l ih => exact ih (hf t a h)

theorem iteOf {c : Prop} [Decidable c] (h : Tuned s t) (k : Tuned s t → Tuned s u) : Tuned s (if c then u else t) := by
  split
  · exact k h
  · exact h

/-- A change of the power states, of the engines and of what the hosts' side holds. -/
theorem frame (h : Tuned s t) (he : u.tuning = t.tuning) : Tuned s u := by
  simp only [State.tuning, Prod.mk.injEq] at he
  obtain ⟨hr, hn, ha, hs, he⟩ := he
  exact h.trans ⟨hr, hn, ha, hs, fun n p => by rw [State.src, he]; exact p⟩

theorem count (h : Tuned s t) {b c k : Nat} : Tuned s (t.count b c k) := h.frame rfl
theorem setTwig (h : Tuned s t) {e : Nat} {x : Twig} : Tuned s (t.setTwig e x) := h.frame rfl
theorem setRes (h : Tuned s t) {r : Res} {x : ResSt} : Tuned s (t.setRes r x) := h.frame rfl
theorem refresh (h : Tuned s t) {b : Bool} : Tuned s { t with sap := { t.sap with selfRefresh := b } } := h.frame rfl
theorem unparks (h : Tuned s t) {l : List Nat} {b : Bool} :
    Tuned s { t with sap := { t.sap with unparking := l, selfRefresh := b } } := h.frame rfl
theorem raise0 (h : Tuned s t) {g b : Nat} : Tuned s (t.raise0 g b) := h.step (Unmoved.refl t).raise0

theorem park (h : Tuned s t) : Tuned s t.park :=
  step (refresh (h.foldl (l := parkSet) fun _ _ k => k.setTwig)) (Unmoved.refl _).noteCredits

theorem unparkBough (h : Tuned s t) {b : Nat} : Tuned s (t.unparkBough b) := h.foldl fun _ _ k => k.iteOf (·.setTwig)

theorem moveTo (h : Tuned s t) {r : Res} {n : Nat} : Tuned s (t.moveTo r n) := by
  unfold State.moveTo
  dsimp only
  split
  · exact h
  · split
    · exact iteOf h.setRes.count (·.park)
    · have hx : ∀ x, Tuned s (State.setRes r x (if r == .engines && t.realise r (t.res r).sp == 2 && t.realise r n < 2
          then { t.count 2 4 1 with sap := { (t.count 2 4 1).sap with unparking := List.range 4, selfRefresh := false } }
          else t.count 2 4 1)) := fun x => setRes (iteOf h.count (·.unparks))
      cases r
      · exact hx _
      · exact hx _
      · exact (hx _).step (Unmoved.refl _).kickDrive

theorem checkTol (h : Tuned s t) {r : Res} : Tuned s (t.checkTol r) := by
  unfold State.checkTol
  dsimp only
  split
  · exact h
  · exact iteOf h.setRes (·.raise0.count)

theorem checkTols (h : Tuned s t) : Tuned s t.checkTols := h.foldl fun _ _ k => k.iteOf (·.checkTol)

theorem applyTop (h : Tuned s t) {r : Res} : Tuned s (t.applyTop r) := by
  unfold State.applyTop
  split
  · exact h.moveTo
  · exact h.iteOf (·.moveTo)

theorem notePin (h : Tuned s t) {r : Res} {b : Bool} : Tuned s (t.notePin r b) := checkTols (applyTop (h.iteOf (·.raise0)))

theorem wakeAll (h : Tuned s t) : Tuned s t.wakeAll :=
  foldl (unparks (h.foldl fun _ _ k => k.iteOf (·.moveTo))) fun _ _ k => k.unparkBough

end Tuned
end Sys2Proof.Machine
end

section
/-!
PROOFS. Writes of a resource's pin, of ROOTLET_CTRL and of JOIN (R285, R315, R317, R333).
-/

namespace Sys2Proof.Machine

open Sys2Proof

/-- An ordinary register whose written bits are stored as they are: what follows the write starts from the register file after it,
and where it touches no register it is the whole effect. -/
theorem State.doWrite_stored {s : State} {ok : Bool} {a b o h : Nat} {d : RegDef} {data mask : W32} (hr : RegHere a b o d)
    (hd : d.Covers mask) (hh : s.home? a = some h) (ha : s.alive = true) (hb : s.bridges .pith a = true) (hok : ok = true)
    (hst : s.wrStatus .pith a data mask = 0) (hplain : ∀ (u : State) (wo : W32), u.opRegs .pith a wo = u.regs)
    (hk : (some (b, o) == some (20, 0) || some (b, o) == some (26, 8) || o == 0xFFC || some (b, o) == some (1, 0x10)
      || some (b, o) == some (1, 0x24)) = false) {t : State}
    (ht : s.writeFx { s with regs := s.regs.put h (mergeWord (s.reg h) data mask) } .pith a (s.reg h &&& (d.s ||| d.l))
      (mergeWord (s.reg h) data mask &&& (d.s ||| d.l)) (data &&& mask &&& d.wo) (data &&& mask &&& d.w1c) = t)
    (hq : t.regs = s.regs.put h (mergeWord (s.reg h) data mask)) :
    s.doWrite ok .pith a data mask = .next (t.endWith (s.regs.put h (mergeWord (s.reg h) data mask)) s) := by
  simp only [Bool.or_eq_false_iff] at hk
  obtain ⟨⟨⟨⟨h20, h26⟩, hc⟩, h1⟩, h2⟩ := hk
  have hn : s.newRegs .pith a data mask = s.regs.put h (mergeWord (s.reg h) data mask) := by
    rw [s.newRegs_done hr hst h20, hplain, hd.plainRegs hr.reg hh hr.canon h26]
  rw [s.doWrite_eq data mask ha hb hok, s.write1_done hr hst, s.writeBase_eq hr.canon hc (by rw [h1, h2]; rfl), hn, hd.rwWord hh,
    hd.written hh hr.canon h26, ht, State.with_regs_eq hq]

/-! ### Pins (R333) -/

/-- SAP_RES_CFG. -/
def resCfgDef : RegDef := ⟨0x24, 0#32, 0#32, 0#32, 0x80000003#32, 0#32, 0#32, 0#32⟩

theorem resCfg_here : RegHere 0x02000024 2 0x24 resCfgDef := ⟨by decide, by decide, by decide, by decide, by decide⟩

theorem resCfg_covers : resCfgDef.Covers 0x80000003#32 := ⟨rfl, by decide⟩

theorem State.wrStatus_pin (s : State) (data mask : W32) : s.wrStatus .pith 0x02000024 data mask = 0 := by
  rw [s.wrStatus_noS _ _ resCfg_here (s.recHides_pith _) rfl]
  rfl

theorem pin_inMask : ∀ (en : Bool) (sp : BitVec 2),
    w32 (b2n en * 2 ^ 31 + sp.toNat) &&& 0x80000003#32 = w32 (b2n en * 2 ^ 31 + sp.toNat) := by decide

theorem State.writeFx_pin (s u : State) (old new wo ones : W32) {r : Res} (hr : s.selRes = some r) :
    s.writeFx u .pith 0x02000024 old new wo ones = u.notePin r (bit old 31) := by
  have h : s.writeFx u .pith 0x02000024 old new wo ones = (s.selRes.elim u fun r => u.notePin r (bit old 31)) := by
    unfold State.writeFx
    rw [resCfg_here.canon]
    cases s.selRes <;> rfl
  rw [h, hr]
  rfl

theorem exec_resourcePin {s : State} {r : Res} (en : Bool) (sp : BitVec 2) (ha : s.alive = true)
    (hb : s.bridges .pith 0x02000024 = true) (hr : s.selRes = some r) :
    let q := s.regs.put (resCfg r) ((s.reg (resCfg r) &&& ~~~0x80000003#32) ||| w32 (b2n en * 2 ^ 31 + sp.toNat))
    exec (.resourcePin en sp) s = .next ((State.notePin { s with regs := q } r (s.flag (resCfg r) 31)).endWith q s) := by
  intro q
  have hh : s.home? 0x02000024 = some (resCfg r) := by
    unfold State.home?
    rw [resCfg_here.canon]
    exact congrArg (Option.map resCfg) hr
  have hm : s.regs.put (resCfg r) (mergeWord (s.reg (resCfg r)) (w32 (b2n en * 2 ^ 31 + sp.toNat)) 0x80000003#32) = q := by
    unfold mergeWord
    rw [pin_inMask]
  have hold : bit (s.reg (resCfg r) &&& (resCfgDef.s ||| resCfgDef.l)) 31 = s.flag (resCfg r) 31 := by
    unfold State.flag
    rw [bit_eq_getLsbD, bit_eq_getLsbD, BitVec.getLsbD_and]
    exact Bool.and_true _
  have hx := State.doWrite_stored (ok := true) (data := w32 (b2n en * 2 ^ 31 + sp.toNat)) resCfg_here resCfg_covers hh ha hb rfl
    (s.wrStatus_pin _ _)
    (fun _ _ => by unfold State.opRegs; rw [resCfg_here.canon]; rfl) rfl (s.writeFx_pin _ _ _ _ _ hr)
    (Tuned.notePin (Tuned.refl _)).regs
  rw [hm, hold] at hx
  exact hx

/-! ### ROOTLET_CTRL (R315, R317) -/

/-- ROOTLET_CTRL. -/
def rootCtrlDef : RegDef := ⟨0, 0#32, 3#32, 0#32, 4#32, 0#32, 0#32, 0#32⟩

/-- ROOTLET_CTRL of drive `d` is at `a`. -/
structure RootCtrl (a d : Nat) : Prop extends RegHere a 15 0 rootCtrlDef where
  enable : exempt a = 1#32
  port : a % 0x1000000 / 0x80000 = d
  noClass : classField a = none

theorem rootCtrl_table : ∀ d < 24, rootBase d % 4 = 0 ∧ inMap (rootBase d) = true ∧ (blockOf (rootBase d) == 26) = false
    ∧ canon (rootBase d) = some (15, 0) ∧ regAt (rootBase d) = some rootCtrlDef ∧ exempt (rootBase d) = 1#32
    ∧ rootBase d % 0x1000000 / 0x80000 = d ∧ classField (rootBase d) = none := by
  decide

theorem rootCtrl_rootBase {d : Nat} (h : d < 24) : RootCtrl (rootBase d) d := by
  obtain ⟨h4, hm, hn, hc, hr, he, hd, hf⟩ := rootCtrl_table d h
  exact ⟨⟨h4, hm, hn, hc, hr⟩, he, hd, hf⟩

theorem RootCtrl.home {a d : Nat} (h : RootCtrl a d) (s : State) : s.home? a = some a := by
  unfold State.home?
  rw [h.canon]
  rfl

theorem RootCtrl.opRegs {a d : Nat} (h : RootCtrl a d) (u : State) (wo : W32) : u.opRegs .pith a wo = u.regs := by
  unfold State.opRegs
  rw [h.canon]
  rfl

theorem rootCtrl_testsForce : ∀ i < 32, i ≠ 1 → (rootCtrlDef.s &&& ~~~1#32).getLsbD i = false := by decide

/-- The class S field that the test leaves, FORCE_VWC, is no bit of these writes. -/
theorem RootCtrl.wrStatus {a d : Nat} (h : RootCtrl a d) (s : State) {mask : W32} (hc : rootCtrlDef.Covers mask)
    (hm : mask.getLsbD 1 = false) (data : W32) :
    s.wrStatus .pith a data mask
      = if bit (mergeWord (s.reg a) data mask) 2 && !s.flag a 2 && s.powerRefused d then 4 else 0 := by
  have hbit : ∀ w : W32, bit (w &&& (rootCtrlDef.s ||| rootCtrlDef.l)) 2 = bit w 2 := fun w => by
    rw [bit_eq_getLsbD, bit_eq_getLsbD, BitVec.getLsbD_and]
    exact Bool.and_true _
  rw [s.wrStatus_eq _ _ h.toRegHere (s.recHides_pith _), hc.rwWord (h.home s), hc.written (h.home s) h.canon rfl, h.enable,
    BitVec.and_assoc, xor_mergeWord_and _ _ _ _ _ ?_]
  · unfold State.blockRefuses classBad
    rw [h.noClass, h.canon]
    dsimp only
    rw [hbit, hbit, h.port]
    simp [State.flag]
  · intro i hi hmi
    refine rootCtrl_testsForce i hi fun h1 => ?_
    rw [h1, hm] at hmi
    cases hmi

/-- What a write of ROOTLET_CTRL makes its port and its drive do. -/
def State.rootFx (d : Nat) (old new : W32) (u : State) : State :=
  let u := if bit new 0 && !bit old 0 then u.enableRoot d else if bit old 0 && !bit new 0 then u.disableRoot d else u
  (if bit new 2 != bit old 2 then u.setPowerOff d (bit new 2) else u).adminDrives

theorem RootCtrl.writeFx {a d : Nat} (h : RootCtrl a d) (s u : State) (path : Path) (old new wo ones : W32) :
    s.writeFx u path a old new wo ones = u.rootFx d old new := by
  unfold State.writeFx
  rw [h.canon]
  show State.adminDrives _ = _
  rw [h.port]
  rfl

theorem unmoved_rootFx (d : Nat) (old new : W32) (u : State) : Unmoved u (u.rootFx d old new) := by
  have h1 : Unmoved u (if bit new 0 && !bit old 0 then u.enableRoot d else if bit old 0 && !bit new 0 then u.disableRoot d else u) :=
    Unmoved.ite (Unmoved.refl u).enableRoot (Unmoved.ite (Unmoved.refl u).disableRoot (Unmoved.refl u))
  exact Unmoved.adminDrives (Unmoved.ite h1.setPowerOff h1)

/-- A write of ENABLE or POWER_OFF that is not refused. -/
theorem RootCtrl.doWrite {a d : Nat} (h : RootCtrl a d) {s : State} {ok : Bool} {data mask : W32} (hok : ok = true)
    (hc : rootCtrlDef.Covers mask) (hm : mask.getLsbD 1 = false) (ha : s.alive = true) (hb : s.bridges .pith a = true)
    (hr : (bit (mergeWord (s.reg a) data mask) 2 && !s.flag a 2 && s.powerRefused d) = false) :
    s.doWrite ok .pith a data mask
      = .next ((State.rootFx d (s.reg a &&& 7#32) (mergeWord (s.reg a) data mask &&& 7#32)
          { s with regs := s.regs.put a (mergeWord (s.reg a) data mask) }).endWith
            (s.regs.put a (mergeWord (s.reg a) data mask)) s) :=
  State.doWrite_stored h.toRegHere hc (h.home s) ha hb hok (by rw [h.wrStatus s hc hm, hr]; rfl) h.opRegs rfl
    (h.writeFx s _ _ _ _ _ _) (unmoved_rootFx _ _ _ _).regs

theorem bit_and_ctrl (w : W32) {i : Nat} (h : (7#32).getLsbD i = true) : bit (w &&& 7#32) i = bit w i := by
  rw [bit_eq_getLsbD, bit_eq_getLsbD, BitVec.getLsbD_and, h, Bool.and_true]

theorem bit_mergeWord (old data mask : W32) {i : Nat} (hi : i < 32) :
    bit (mergeWord old data mask) i = if mask.getLsbD i then bit data i else bit old i := by
  rw [bit_eq_getLsbD, bit_eq_getLsbD, bit_eq_getLsbD, getLsbD_mergeWord _ _ _ hi]

theorem RootCtrl.enableWrite {a d : Nat} (h : RootCtrl a d) {s : State} {ok : Bool} (hok : ok = true) (ha : s.alive = true)
    (hb : s.bridges .pith a = true) (ho : s.flag a 0 = false) :
    s.doWrite ok .pith a 1#32 1#32
      = .next (((State.enableRoot d { s with regs := s.regs.put a (s.reg a ||| 1#32) }).adminDrives).endWith
          (s.regs.put a (s.reg a ||| 1#32)) s) := by
  have hm : mergeWord (s.reg a) 1#32 1#32 = s.reg a ||| 1#32 := by
    refine BitVec.eq_of_getLsbD_eq fun i hi => ?_
    rw [getLsbD_mergeWord _ _ _ hi, BitVec.getLsbD_or]
    cases (1#32).getLsbD i <;> simp
  have h0 : bit (mergeWord (s.reg a) 1#32 1#32) 0 = true := by
    rw [bit_mergeWord _ _ _ (by decide), if_pos (by decide)]
    decide
  have h2 : bit (mergeWord (s.reg a) 1#32 1#32) 2 = s.flag a 2 := by
    rw [bit_mergeWord _ _ _ (by decide), if_neg (by decide)]
    rfl
  have hx := h.doWrite (data := 1#32) (mask := 1#32) hok ⟨rfl, by decide⟩ (by decide) ha hb (by
    rw [h2, Bool.and_not_self]
    rfl)
  unfold State.rootFx at hx
  rw [bit_and_ctrl _ (by decide), bit_and_ctrl _ (by decide), bit_and_ctrl _ (by decide), bit_and_ctrl _ (by decide), h0, h2,
    show bit (s.reg a) 0 = false from ho, show bit (s.reg a) 2 = s.flag a 2 from rfl, bne_self_eq_false, hm] at hx
  exact hx

theorem RootCtrl.disableWrite {a d : Nat} (h : RootCtrl a d) {s : State} {ok : Bool} (hok : ok = true) (ha : s.alive = true)
    (hb : s.bridges .pith a = true) (ho : s.flag a 0 = true) :
    s.doWrite ok .pith a 0#32 1#32
      = .next (((State.disableRoot d { s with regs := s.regs.put a (s.reg a &&& ~~~1#32) }).adminDrives).endWith
          (s.regs.put a (s.reg a &&& ~~~1#32)) s) := by
  have hm : mergeWord (s.reg a) 0#32 1#32 = s.reg a &&& ~~~1#32 := by
    unfold mergeWord
    simp
  have h0 : bit (mergeWord (s.reg a) 0#32 1#32) 0 = false := by
    rw [bit_mergeWord _ _ _ (by decide), if_pos (by decide)]
    decide
  have h2 : bit (mergeWord (s.reg a) 0#32 1#32) 2 = s.flag a 2 := by
    rw [bit_mergeWord _ _ _ (by decide), if_neg (by decide)]
    rfl
  have hx := h.doWrite (data := 0#32) (mask := 1#32) hok ⟨rfl, by decide⟩ (by decide) ha hb (by
    rw [h2, Bool.and_not_self]
    rfl)
  unfold State.rootFx at hx
  rw [bit_and_ctrl _ (by decide), bit_and_ctrl _ (by decide), bit_and_ctrl _ (by decide), bit_and_ctrl _ (by decide), h0, h2,
    show bit (s.reg a) 0 = true from ho, show bit (s.reg a) 2 = s.flag a 2 from rfl, bne_self_eq_false, hm] at hx
  exact hx

theorem RootCtrl.powerWrite {a d : Nat} (h : RootCtrl a d) {s : State} {ok : Bool} (on : Bool) (hok : ok = true) (ha : s.alive = true)
    (hb : s.bridges .pith a = true) (ho : s.flag a 2 = !on) (hr : (on && s.powerRefused d) = false) :
    let q := s.regs.put a (if on then s.reg a ||| 4#32 else s.reg a &&& ~~~4#32)
    s.doWrite ok .pith a (w32 (4 * b2n on)) 4#32
      = .next (((State.setPowerOff d on { s with regs := q }).adminDrives).endWith q s) := by
  intro q
  have hm : mergeWord (s.reg a) (w32 (4 * b2n on)) 4#32 = if on then s.reg a ||| 4#32 else s.reg a &&& ~~~4#32 := by
    cases on
    · unfold mergeWord
      simp [b2n, w32]
    · refine BitVec.eq_of_getLsbD_eq fun i hi => ?_
      rw [getLsbD_mergeWord _ _ _ hi, if_pos rfl, BitVec.getLsbD_or, show w32 (4 * b2n true) = 4#32 from rfl]
      cases (4#32).getLsbD i <;> simp
  have h0 : bit (mergeWord (s.reg a) (w32 (4 * b2n on)) 4#32) 0 = s.flag a 0 := by
    rw [bit_mergeWord _ _ _ (by decide), if_neg (by decide)]
    rfl
  have h2 : bit (mergeWord (s.reg a) (w32 (4 * b2n on)) 4#32) 2 = on := by
    rw [bit_mergeWord _ _ _ (by decide), if_pos (by decide)]
    cases on <;> decide
  have hx := h.doWrite (data := w32 (4 * b2n on)) (mask := 4#32) hok ⟨rfl, by decide⟩ (by decide) ha hb (by
    rw [h2, ho, Bool.not_not, Bool.and_self, hr])
  unfold State.rootFx at hx
  rw [bit_and_ctrl _ (by decide), bit_and_ctrl _ (by decide), bit_and_ctrl _ (by decide), bit_and_ctrl _ (by decide), h0, h2,
    show bit (s.reg a) 0 = s.flag a 0 from rfl, show bit (s.reg a) 2 = !on from ho, Bool.and_not_self, Bool.bne_not_self, hm] at hx
  exact hx

theorem Regs.val_violate (r : Regs) (a : Nat) (path : Path) (k : Nat) : (r.violate a path k).val = r.val := rfl

theorem RootCtrl.powerRefused {a d : Nat} (h : RootCtrl a d) {s : State} {ok : Bool} (hok : ok = true) (ha : s.alive = true)
    (hb : s.bridges .pith a = true) (ho : s.flag a 2 = false) (hr : s.memberOf d ≠ none) :
    ∃ t, s.doWrite ok .pith a 4#32 4#32 = .next t ∧ t.regs = s.regs.violate a .pith 3
      ∧ Still { s with regs := s.regs.violate a .pith 3 } t ∧ (t.src (evSrc (24 + d) 5)).pend = true := by
  have h2 : bit (mergeWord (s.reg a) 4#32 4#32) 2 = true := by
    rw [bit_mergeWord _ _ _ (by decide), if_pos (by decide)]
    decide
  have hp : s.powerRefused d = true := Option.isSome_iff_ne_none.2 hr
  have hst : s.wrStatus .pith a 4#32 4#32 = 4 := by
    rw [h.wrStatus s ⟨rfl, by decide⟩ (by decide), h2, ho, hp]
    rfl
  refine State.doWrite_refused ha hb hok hst ?_ rfl rfl
  unfold State.refusedFx
  rw [h.canon]
  show State.raise0 _ 5 _ = _
  rw [h.port]

/-! ### JOIN (R285, R293) -/

/-- HEARTBEAT, which holds JOIN. -/
def joinDef : RegDef := ⟨0x20000C, 0xA00#32, 0#32, 0#32, 0xFF03#32, 0x30000#32, 0#32, 0#32⟩

theorem join_here : RegHere 0x1520000C 21 0x20000C joinDef := ⟨by decide, by decide, by decide, by decide, by decide⟩

theorem join_covers : joinDef.Covers 3#32 := ⟨rfl, by decide⟩

theorem State.wrStatus_join {s : State} (h0 : s.stationId ≠ 0) (hf : s.stationId ≠ 0xFFFF) (data : W32) :
    s.wrStatus .pith 0x1520000C data 3#32 = 0 := by
  have hr : ∀ old new wo, s.blockRefuses .pith 0x1520000C old new wo = false := fun old new wo => by
    unfold State.blockRefuses classBad
    rw [show classField 0x1520000C = none from rfl, join_here.canon]
    show s.joinRefused new = false
    unfold State.joinRefused
    rw [beq_false_of_ne h0, beq_false_of_ne hf, Bool.or_false, Bool.and_false]
  rw [s.wrStatus_noS _ _ join_here (s.recHides_pith _) rfl, hr]
  rfl

theorem exec_ringJoinWrite {s : State} (e w : Bool) (ha : s.alive = true) (hI : s.Inv) (hb : s.bridges .pith 0x1520000C = true)
    (h0 : s.stationId ≠ 0) (hf : s.stationId ≠ 0xFFFF) :
    Runs (.ringJoinWrite e w) s fun t => t.joinBit 32 = e ∧ t.joinBit 33 = w := by
  have hst := State.wrStatus_join h0 hf (w32 (b2n e + 2 * b2n w))
  have hq : s.newRegs .pith 0x1520000C (w32 (b2n e + 2 * b2n w)) 3#32
      = s.regs.put 0x1520000C (mergeWord (s.reg 0x1520000C) (w32 (b2n e + 2 * b2n w)) 3#32) := by
    rw [s.newRegs_done join_here hst rfl, ← join_covers.plainRegs join_here.reg (h := 0x1520000C) rfl join_here.canon rfl]
    rfl
  refine ⟨_, s.doWrite_eq (ok := true) _ _ ha hb rfl, ?_⟩
  dsimp only
  unfold State.joinBit State.flag State.reg
  rw [State.endWith_regs, hq, Regs.get_put_same _ hI, bit_mergeWord _ _ _ (by decide), bit_mergeWord _ _ _ (by decide),
    if_pos (by decide), if_pos (by decide)]
  cases e <;> cases w <;> exact ⟨rfl, rfl⟩

theorem exec_rootletEnable (s : State) (d : Nat) :
    exec (.rootletEnable d) s = s.doWrite (driveIndex d) .pith (rootBase d) 1#32 1#32 := rfl

theorem exec_rootletDisable (s : State) (d : Nat) :
    exec (.rootletDisable d) s = s.doWrite (driveIndex d) .pith (rootBase d) 0#32 1#32 := rfl

theorem exec_drivePowerOff (s : State) (d : Nat) (on : Bool) :
    exec (.drivePowerOff d on) s = s.doWrite (driveIndex d) .pith (rootBase d) (w32 (4 * b2n on)) 4#32 := rfl

/-- Settles O24: what each write makes its block do touches no register, so it is the command's whole effect. -/
theorem pinDriveAndJoinWrites : Obligations.PinDriveAndJoinWrites := by
  refine ⟨fun s r en sp ha hb hr => exec_resourcePin en sp ha hb hr,
    fun s d ha hd hb ho => (exec_rootletEnable s d).trans ?_, fun s d ha hd hb ho => (exec_rootletDisable s d).trans ?_,
    fun s d on ha hd hb ho hm => (exec_drivePowerOff s d on).trans ?_,
    fun s d ha hd hb ho hm => ?_, fun s e w ha hI hb h0 hf => exec_ringJoinWrite e w ha hI hb h0 hf⟩
  · exact (rootCtrl_rootBase hd).enableWrite (wf_drive hd) ha hb ho
  · exact (rootCtrl_rootBase hd).disableWrite (wf_drive hd) ha hb ho
  · refine (rootCtrl_rootBase hd).powerWrite on (wf_drive hd) ha hb ho ?_
    unfold State.powerRefused
    cases on
    · rfl
    · rw [hm rfl]
      rfl
  · obtain ⟨t, ht, hr, hs, hp⟩ := (rootCtrl_rootBase hd).powerRefused (wf_drive hd) ha hb ho hm
    refine ⟨t, (exec_drivePowerOff s d true).trans ?_, by rw [hr, Regs.val_violate], by rw [hr]; rfl, hs.drives, hp⟩
    rw [show w32 (4 * b2n true) = 4#32 from rfl, ht]

end Sys2Proof.Machine
end

section
/-!
PROOFS. The start of the power-fail response, and the loss of a reference (R155, R339, R341).
-/

namespace Sys2Proof.Machine

open Sys2Proof

/-! ### Power states of single resources (R332) -/

theorem State.resSt_setRes (s : State) (r : Res) (x : ResSt) (k : Nat) :
    (s.setRes r x).resSt k = if k = resKey r then x else s.resSt k := by
  split
  · next h => rw [h]; exact NMap.getD_set_same _ _ _ _
  · next h => exact NMap.getD_set_other _ _ _ _ _ h

theorem State.sap_foldl {α : Type} {f : State → α → State} (hf : ∀ u a, (f u a).sap = u.sap) (l : List α) (s : State) :
    (l.foldl f s).sap = s.sap := by
  induction l generalizing s with
  | nil => rfl
  | cons a l ih => exact (ih _).trans (hf s a)

theorem State.sap_unparkBough (b : Nat) (s : State) : (s.unparkBough b).sap = s.sap := by
  refine State.sap_foldl (fun u e => ?_) _ s
  dsimp only
  split <;> rfl

/-- The engines of a list are parked (R329). -/
def State.parkAll (l : List Nat) (s : State) : State := l.foldl (fun s e =>
  let t := s.twig e
  let held := if t.deque.isEmpty && t.started.isEmpty && !t.parked then some (s.cycles8 e) else t.cycHeld
  s.setTwig e { t with parked := true, cycHeld := held }) s

theorem State.park_eq (s : State) : s.park = State.noteCredits { s.parkAll parkSet with sap :=
    { (s.parkAll parkSet).sap with selfRefresh := (s.parkAll parkSet).flag 0x02000004 12 } } := rfl

theorem State.sap_parkAll (l : List Nat) (s : State) : (s.parkAll l).sap = s.sap := by
  refine State.sap_foldl (fun u e => ?_) l s
  rfl

theorem State.resSt_park (s : State) (k : Nat) : s.park.resSt k = s.resSt k := by
  unfold State.resSt
  rw [State.park_eq, (still_noteCredits _).sap]
  dsimp only
  rw [State.sap_parkAll]

/-- The engines of a list of Boughs are unparked (R330). -/
def State.unparkBoughs (l : List Nat) (s : State) : State := l.foldl (fun s b => s.unparkBough b) s

theorem State.sap_unparkBoughs (l : List Nat) (s : State) : (s.unparkBoughs l).sap = s.sap :=
  State.sap_foldl (fun u b => State.sap_unparkBough b u) l s

/-- The resources of a list are woken. -/
def State.woken (l : List Res) (s : State) : State := l.foldl (fun s r => if (s.res r).sp > 0 then s.moveTo r 0 else s) s

/-- No Bough is to be unparked any more, and DRAM leaves its self-refresh. -/
def State.noneParked (s : State) : State := { s with sap := { s.sap with unparking := [], selfRefresh := false } }

theorem State.wakeAll_eq (s : State) : s.wakeAll = State.unparkBoughs (List.range 4) (s.woken allRes).noneParked := by
  unfold State.wakeAll State.unparkBoughs State.woken
  rfl

theorem State.res_noneParked (s : State) : s.noneParked.sap.res = s.sap.res := rfl

/-- The resource is where it was sent, every other where it was. -/
theorem State.sp_moveTo (s : State) (r : Res) (n k : Nat) :
    ((s.moveTo r n).resSt k).sp = if k = resKey r then n else (s.resSt k).sp := by
  unfold State.moveTo
  dsimp only
  split
  · next h =>
    split
    · next hk => rw [hk, beq_iff_eq.1 h]; rfl
    · rfl
  · split
    · have hx : ((State.setRes r { s.res r with sp := n } s).resSt k).sp = if k = resKey r then n else (s.resSt k).sp := by
        rw [State.resSt_setRes]
        split <;> rfl
      split
      · rw [State.resSt_park]
        exact hx
      · exact hx
    · have hx : ∀ (u : State) (x : ResSt), x.sp = n → u.sap.res = s.sap.res →
          ((State.setRes r x u).resSt k).sp = if k = resKey r then n else (s.resSt k).sp := by
        intro u x hx hu
        rw [State.resSt_setRes]
        split
        · exact hx
        · unfold State.resSt
          rw [hu]
      have hu := hx (if r == .engines && s.realise r (s.res r).sp == 2 && s.realise r n < 2
        then { s.count 2 4 1 with sap := { (s.count 2 4 1).sap with unparking := List.range 4, selfRefresh := false } }
        else s.count 2 4 1)
      cases r
      · exact hu _ rfl (by split <;> rfl)
      · exact hu _ rfl (by split <;> rfl)
      · exact ((Unmoved.refl _).kickDrive.sp k).trans (hu _ rfl (by split <;> rfl))

theorem State.sp_woken (l : List Res) (s : State) (k : Nat) (h : (s.resSt k).sp = 0 ∨ k ∈ l.map resKey) :
    ((s.woken l).resSt k).sp = 0 := by
  induction l generalizing s with
  | nil => exact h.resolve_right List.not_mem_nil
  | cons r l ih =>
    refine ih (if (s.res r).sp > 0 then s.moveTo r 0 else s) ?_
    have hr : (s.resSt k).sp = 0 ∨ k = resKey r → ((if (s.res r).sp > 0 then s.moveTo r 0 else s : State).resSt k).sp = 0 := by
      intro h
      split
      · rw [State.sp_moveTo]
        split
        · rfl
        · next hk => exact h.resolve_right hk
      · next hp => exact h.elim id fun h => by rw [h]; exact Nat.eq_zero_of_not_pos hp
    obtain h | h := h
    · exact .inl (hr (.inl h))
    · exact (List.mem_cons.1 h).imp (fun h => hr (.inr h)) id

theorem State.res_wakeAll (s : State) : s.wakeAll.sap.res = (s.woken allRes).sap.res := by
  rw [State.wakeAll_eq, State.sap_unparkBoughs, State.res_noneParked]

/-- Waking takes every resource to SP0. -/
theorem State.sp_wakeAll (s : State) : ∀ r ∈ allRes, (s.wakeAll.res r).sp = 0 := by
  intro r hr
  have h := s.sp_woken allRes (resKey r) (.inr (List.mem_map_of_mem hr))
  unfold State.res State.resSt at h ⊢
  rw [State.res_wakeAll]
  exact h

/-! ### The response starts (R155, R339) -/

theorem Unmoved.tornHeads {s t : State} (h : Unmoved s t) : Unmoved s t.tornHeads := by
  unfold State.tornHeads
  split
  · exact h
  · exact Unmoved.iteNot h fun h => h.frame rfl

/-- What the start of the response leaves, from `s` to `t`. -/
structure Begun (s t : State) : Prop where
  regs : t.regs = s.regs
  now : t.now = s.now
  alertFixed : t.alertFixed = s.alertFixed
  sap : { t.sap with res := [], unparking := [], selfRefresh := false, flush := none }
    = { s.sap with res := [], unparking := [], selfRefresh := false, flush := none }
  flush : t.sap.flush = some .stop
  since : t.sapw.flushFrom = some s.now
  sp : ∀ r ∈ allRes, (t.res r).sp = 0
  pend : ∀ n, (s.src n).pend = true → (t.src n).pend = true
  failed : (t.src (evSrc 2 17)).pend = true
  started : (t.src (evSrc 7 2)).pend = true

theorem State.startFlush_begun {s : State} (h : s.sap.flush = none) : Begun s s.startFlush := by
  unfold State.startFlush
  rw [h]
  dsimp only [Option.isSome]
  rw [if_neg Bool.false_ne_true]
  have hw : Tuned (s.raise0 2 17) (s.raise0 2 17).wakeAll := (Tuned.refl _).wakeAll
  have ht : Unmoved (s.raise0 2 17).wakeAll (s.raise0 2 17).wakeAll.tornHeads := (Unmoved.refl _).tornHeads
  have hs : Tuned s (s.raise0 2 17).wakeAll.tornHeads := ((Tuned.refl s).raise0.trans hw).step ht
  have hp : ((s.raise0 2 17).wakeAll.tornHeads.src (evSrc 2 17)).pend = true :=
    ht.pend _ (hw.pend _ (State.pend_raise0_same _ _ _))
  have hsp := (s.raise0 2 17).sp_wakeAll
  have hk : ∀ r ∈ allRes, (((s.raise0 2 17).wakeAll.tornHeads).res r).sp = 0 := fun r hr => (ht.sp _).trans (hsp r hr)
  clear hw ht hsp
  generalize (s.raise0 2 17).wakeAll.tornHeads = u at hs hp hk
  have hr := still_raise0 7 2 { u with sap := { u.sap with flush := some .stop }
                                       sapw := { u.sapw with flushFrom := some u.now, vaultSet := u.vault } }
  have hc := calm_raise0 7 2 { u with sap := { u.sap with flush := some .stop }
                                      sapw := { u.sapw with flushFrom := some u.now, vaultSet := u.vault } }
  refine ⟨hr.regs.trans hs.regs, hr.now.trans hs.now, hr.alertFixed.trans hs.alertFixed, ?_, ?_, ?_, fun r h => ?_,
    fun n h => hc.pend n (hs.pend n h), hc.pend _ hp, State.pend_raise0_same _ _ _⟩
  · rw [hr.sap]
    exact congrArg (fun x : Sap => { x with flush := none }) hs.sap
  · rw [hr.sap]
  · rw [hr.sapw]
    exact congrArg some hs.now
  · unfold State.res State.resSt at hk ⊢
    rw [hr.sap]
    exact hk r h

/-- The end of a command moves nothing that `Unmoved` watches. -/
theorem Unmoved.done {u s : State} (h : u.regs = s.regs) : Unmoved u (u.done s) := by
  have hs := (Unmoved.refl u).settle
  refine hs.frame ?_
  unfold State.watched
  rw [State.done_regs, ← h, ← hs.regs]
  rfl

/-- What `Begun` says holds after the end of the command, too. -/
theorem Begun.done {s t u : State} (h : Begun s t) (hr : t.regs = u.regs) : Begun s (t.done u) := by
  have hd := Unmoved.done hr
  have hk := Still.done t u
  refine ⟨hd.regs.trans h.regs, hd.now.trans h.now, hd.alertFixed.trans h.alertFixed, ?_, ?_, hk.sapw ▸ h.since,
    fun r hm => (hd.sp _).trans (h.sp r hm), fun n p => hd.pend n (h.pend n p), hd.pend _ h.failed, hd.pend _ h.started⟩
  · rw [hk.sap]
    exact h.sap
  · rw [hk.sap]
    exact h.flush

theorem flushable_advance (s : State) (d : Nat) : (s.advance d).flushable = s.flushable := rfl

theorem flush_advance (s : State) (d : Nat) : (s.advance d).sap.flush = s.sap.flush := rfl

theorem regs_advance (s : State) (d : Nat) : (s.advance d).regs = s.regs := rfl

theorem now_advance (s : State) (d : Nat) : (s.advance d).now = s.now + d := rfl

/-- PWRFAIL_N falls. -/
def State.failing (s : State) : State := { s with sap := { s.sap with pwrfailLow := true } }

theorem State.powerLow_eq (s : State) : s.powerLow
    = if (s.failing.advance 1000).flushable then (s.failing.advance 1000).startFlush else s.failing.advance 1000 := rfl

theorem exec_pwrfailAssert {s : State} (h : s.sap.pwrfailLow = false) : exec .pwrfailAssert s = .next (s.powerLow.done s) :=
  act_true (by rw [h]; rfl) _ _

/-! ### Links that go down with their reference (R341) -/

theorem Unmoved.indicate {s t : State} (h : Unmoved s t) {p k : Nat} : Unmoved s (t.indicate p k) := by
  unfold State.indicate
  dsimp only
  split
  · exact h.frame rfl
  · split
    · exact h.frame rfl
    · exact h

theorem Unmoved.linkDown {s t : State} (h : Unmoved s t) {p : Nat} : Unmoved s (t.linkDown p) :=
  Unmoved.iteOf h fun h => Unmoved.indicate (Unmoved.raise0 (h.frame (by rfl)))

theorem Unmoved.linksDown {s t : State} (h : Unmoved s t) {l : List Nat} : Unmoved s (t.linksDown l) := h.foldl fun _ _ k => k.linkDown

theorem State.up_linksDown (l : List Nat) (s : State) (p : Nat) (h : p ∈ l ∨ (s.port p).up = false) :
    ((s.linksDown l).port p).up = false := by
  induction l generalizing s with
  | nil => exact h.resolve_left List.not_mem_nil
  | cons a l ih =>
    obtain ⟨-, -, hd, hk⟩ := s.linkDown_keeps a
    refine ih (s.linkDown a) ?_
    obtain h | h := h
    · exact (List.mem_cons.1 h).symm.imp id fun h => by rw [h]; exact hd
    · exact .inr (hk p h)

/-- The reference is noted as lost. -/
def State.refGone (s : State) (r : RefIn) : State :=
  State.raise0 2 (20 + refNo r) { s with sap := { s.sap with refLost := setNth s.sap.refLost (refNo r) true } }

theorem State.refGone_sap (s : State) (r : RefIn) :
    (s.refGone r).sap = { s.sap with refLost := setNth s.sap.refLost (refNo r) true } := (still_raise0 _ _ _).sap

/-- What the loss of a reference leaves of Sap and of the sources. -/
structure Lost (s : State) (r : RefIn) (t : State) : Prop where
  regs : t.regs = s.regs
  refLost : t.sap.refLost = setNth s.sap.refLost (refNo r) true
  pend : (t.src (evSrc 2 (20 + refNo r))).pend = true

theorem State.refGone_lost (s : State) (r : RefIn) : Lost s r (s.refGone r) :=
  ⟨(still_raise0 _ _ _).regs, by rw [State.refGone_sap], State.pend_raise0_same _ _ _⟩

theorem Lost.step {s t u : State} {r : RefIn} (h : Lost s r t) (k : Unmoved t u) : Lost s r u :=
  ⟨k.regs.trans h.regs, (congrArg Sap.refLost k.sap).trans h.refLost, k.pend _ h.pend⟩

theorem Lost.startFlush {s t : State} {r : RefIn} (h : Lost s r t) :
    Lost s r t.startFlush ∧ t.startFlush.sap.flush.isSome = true ∧ t.startFlush.sap.stuck = t.sap.stuck := by
  cases hf : t.sap.flush with
  | some x =>
    have he : t.startFlush = t := by
      unfold State.startFlush
      rw [hf]
      rfl
    rw [he, hf]
    exact ⟨h, rfl, rfl⟩
  | none =>
    have hb := State.startFlush_begun hf
    refine ⟨⟨hb.regs.trans h.regs, (congrArg Sap.refLost hb.sap).trans h.refLost, hb.pend _ h.pend⟩, ?_, ?_⟩
    · rw [hb.flush]
      rfl
    · have hs := congrArg Sap.stuck hb.sap
      exact hs

theorem Lost.done {s t : State} {r : RefIn} (h : Lost s r t) : Lost s r (t.done s) := h.step (Unmoved.done h.regs)

/-- Each reference with what its loss does beside being noted. -/
theorem State.loseRef_lost (s : State) (r : RefIn) : Lost s r (s.loseRef r)
    ∧ (r = .ddr ∨ r = .sys → (s.loseRef r).sap.stuck = true ∧ (s.loseRef r).sap.flush.isSome = true)
    ∧ (r = .eth1 → ∀ p ∈ refPoints false, ((s.loseRef r).port p).up = false)
    ∧ (r = .eth2 → ∀ p ∈ refPoints true, ((s.loseRef r).port p).up = false) := by
  have hg := s.refGone_lost r
  have hstuck : ∀ u : State, Lost s r u → Lost s r { u with sap := { u.sap with stuck := true } } := fun u h =>
    ⟨h.regs, h.refLost, h.pend⟩
  cases r with
  | eth1 =>
    exact ⟨hg.step (Unmoved.refl _).linksDown, nofun, fun _ p hp => State.up_linksDown _ _ p (.inl hp), nofun⟩
  | eth2 =>
    exact ⟨hg.step (Unmoved.refl _).linksDown, nofun, nofun, fun _ p hp => State.up_linksDown _ _ p (.inl hp)⟩
  | ddr =>
    obtain ⟨hl, hf, hs⟩ := (hstuck _ hg).startFlush
    exact ⟨hl, fun _ => ⟨hs, hf⟩, nofun, nofun⟩
  | sys =>
    obtain ⟨hl, hf, hs⟩ := (hstuck _ hg).startFlush
    exact ⟨hl, fun _ => ⟨hs, hf⟩, nofun, nofun⟩
  | pcie b =>
    exact ⟨hg.step ((Unmoved.refl _).foldl fun _ _ k => k.iteOf (·.contain)), nofun, nofun, nofun⟩

/-- Settles O28: the start of the response is one lemma about `startFlush`; what a lost reference does keeps what Sap has noted. -/
theorem powerFailStarts : Obligations.PowerFailStarts := by
  refine ⟨fun s hl hf hn => ?_, fun s hl hf => ?_, fun s hl => act_true hl _ _, fun s hf hn => ?_, fun s r ha hr hn => ?_⟩
  · have hs := State.startFlush_begun ((flush_advance s.failing 1000).trans hn)
    have hb := hs.done (hs.regs.trans (regs_advance s.failing 1000) : _ = s.regs)
    refine ⟨_, exec_pwrfailAssert hl, ?_⟩
    rw [State.powerLow_eq, if_pos ((flushable_advance s.failing 1000).trans hf)]
    have hlow := congrArg Sap.pwrfailLow hb.sap
    exact ⟨hb.flush, hlow, hb.now.trans (now_advance _ _), hb.since.trans (congrArg some (now_advance _ _)), hb.sp, hb.failed,
      hb.started⟩
  · rw [exec_pwrfailAssert hl, State.powerLow_eq, flushable_advance, if_neg (by rw [show s.failing.flushable = false from hf]; nofun)]
    rfl
  · have hs := State.startFlush_begun ((flush_advance s 20000).trans hn)
    have hb := hs.done (hs.regs.trans (regs_advance s 20000))
    exact ⟨_, act_true (by rw [hf, hn]; rfl) _ _, hb.flush, hb.now.trans (now_advance _ _),
      hb.since.trans (congrArg some (now_advance _ _)), hb.sp⟩
  · obtain ⟨hl, hstart, h1, h2⟩ := s.loseRef_lost r
    have hk := Still.done (s.loseRef r) s
    refine ⟨_, act_true (by rw [ha, hr, hn]; rfl) _ _, hl.done.refLost, hl.done.pend, fun h => ?_,
      fun h p hp => ?_, fun h p hp => ?_⟩
    · rw [hk.sap]
      exact hstart h
    · rw [State.port, hk.ports]
      exact h1 h p hp
    · rw [State.port, hk.ports]
      exact h2 h p hp

end Sys2Proof.Machine
end

section
/-!
PROOFS. Power states, droop and the thermal loop (R329 to R338).
-/

namespace Sys2Proof.Machine

open Sys2Proof

/-! ### Entering and leaving a state (R332, R333) -/

theorem Unmoved.setRes {s t : State} (h : Unmoved s t) {r : Res} {x : ResSt} (hs : x.sp = (t.res r).sp)
    (he : x.exiting = (t.res r).exiting) : Unmoved s (t.setRes r x) := by
  refine h.trans ⟨rfl, rfl, rfl, rfl, fun k => ?_, fun k => ?_, fun _ => rfl, fun _ p => p⟩
  · rw [State.resSt_setRes]
    split
    · next hk => rw [hk, hs]; rfl
    · rfl
  · rw [State.resSt_setRes]
    split
    · next hk => rw [hk, he]; rfl
    · rfl

theorem Unmoved.checkTol {s t : State} (h : Unmoved s t) {r : Res} : Unmoved s (t.checkTol r) := by
  unfold State.checkTol
  dsimp only
  split
  · exact h
  · exact Unmoved.iteOf (h.setRes rfl rfl) (·.raise0.count)

theorem Unmoved.checkTols {s t : State} (h : Unmoved s t) : Unmoved s t.checkTols :=
  h.foldl fun _ _ k => Unmoved.iteOf k (·.checkTol)

/-- A resource that goes to a shallower state is on its way for the latency of the one it leaves. -/
theorem State.exiting_moveTo (s : State) (r : Res) (n : Nat) (h : n < (s.res r).sp) :
    ((s.moveTo r n).res r).exiting
      = if s.exitUs r (s.res r).sp = 0 then none else some (s.now + s.exitUs r (s.res r).sp * 1000) := by
  have hlat : (if s.exitUs r (s.res r).sp * 1000 == 0 then none else some (s.now + s.exitUs r (s.res r).sp * 1000))
      = if s.exitUs r (s.res r).sp = 0 then none else some (s.now + s.exitUs r (s.res r).sp * 1000) := by
    by_cases h0 : s.exitUs r (s.res r).sp = 0
    · rw [h0]
      rfl
    · rw [if_neg h0, if_neg (by rw [beq_iff_eq]; omega)]
  rw [← hlat]
  unfold State.moveTo
  dsimp only
  rw [if_neg (by simpa using Nat.ne_of_lt h), if_neg (by omega)]
  have hx : ∀ (u : State) (x : ResSt) (v : Option Nat), x.exiting = v → ((State.setRes r x u).resSt (resKey r)).exiting = v := by
    intro u x v hv
    rw [State.resSt_setRes, if_pos rfl, hv]
  cases r
  · exact hx _ _ _ (by rw [apply_ite State.now, ite_self]; rfl)
  · exact hx _ _ _ (by rw [apply_ite State.now, ite_self]; rfl)
  · exact ((Unmoved.refl _).kickDrive.exiting _).trans (hx _ _ _ (by rw [apply_ite State.now, ite_self]; rfl))

/-! ### Parking and unparking (R329, R330) -/

theorem State.twig_setTwig_eq (s : State) (e j : Nat) (t : Twig) : (s.setTwig e t).twig j = if j = e then t else s.twig j := by
  split
  · next h => rw [h]; exact NMap.getD_set_same _ _ _ _
  · next h => exact NMap.getD_set_other _ _ _ _ _ h

theorem State.parked_parkAll (l : List Nat) (s : State) (e : Nat) (h : e ∈ l ∨ (s.twig e).parked = true) :
    ((s.parkAll l).twig e).parked = true := by
  induction l generalizing s with
  | nil => exact h.resolve_left List.not_mem_nil
  | cons a l ih =>
    refine ih (s.setTwig a _) ?_
    rw [State.twig_setTwig_eq]
    obtain h | h := h
    · obtain h | h := List.mem_cons.1 h
      · exact .inr (by rw [if_pos h])
      · exact .inl h
    · refine .inr ?_
      split
      · rfl
      · exact h

theorem mem_parkSet {e : Nat} (h : e < 64) (h8 : e % 16 ≥ 8) : e ∈ parkSet := by
  unfold parkSet
  exact List.mem_filter.2 ⟨List.mem_range.2 h, decide_eq_true h8⟩

theorem State.twig_park (s : State) (e : Nat) : s.park.twig e = (s.parkAll parkSet).twig e := by
  unfold State.twig
  rw [State.park_eq, (still_noteCredits _).twigs]

/-- SP2 parks engines 8 to 15 of every Bough. -/
theorem State.parked_park (s : State) {e : Nat} (h : e < 64) (h8 : e % 16 ≥ 8) : (s.park.twig e).parked = true := by
  rw [State.twig_park]
  exact s.parked_parkAll parkSet e (.inl (mem_parkSet h h8))

theorem State.parked_moveTo (s : State) (h : (s.res .engines).sp < 2) {e : Nat} (he : e < 64) (h8 : e % 16 ≥ 8) :
    ((s.moveTo .engines 2).twig e).parked = true := by
  unfold State.moveTo
  dsimp only
  rw [if_neg (by simpa using (Nat.ne_of_lt h).symm), if_pos h]
  split
  · exact State.parked_park _ he h8
  · next hc => exact absurd rfl hc

/-- An engine of the Bough is unparked; no engine is parked. -/
theorem State.parked_unparkBough (b : Nat) (s : State) (e : Nat) (h : e ∈ boughEngines b ∨ (s.twig e).parked = false) :
    ((s.unparkBough b).twig e).parked = false := by
  unfold State.unparkBough
  generalize boughEngines b = l at h ⊢
  induction l generalizing s with
  | nil => exact h.resolve_left List.not_mem_nil
  | cons a l ih =>
    refine ih _ ?_
    dsimp only
    split
    · rw [State.twig_setTwig_eq]
      obtain h | h := h
      · obtain h | h := List.mem_cons.1 h
        · exact .inr (by rw [if_pos h])
        · exact .inl h
      · refine .inr ?_
        split
        · rfl
        · exact h
    · next hp =>
      obtain h | h := h
      · obtain h | h := List.mem_cons.1 h
        · exact .inr (by rw [h]; exact Bool.eq_false_iff.2 hp)
        · exact .inl h
      · exact .inr h

theorem State.unparkBoughs_cons (b : Nat) (l : List Nat) (s : State) :
    s.unparkBoughs (b :: l) = (s.unparkBough b).unparkBoughs l := by
  unfold State.unparkBoughs
  rw [List.foldl_cons]

theorem State.parked_unparkBoughs (l : List Nat) (s : State) (e : Nat)
    (h : (∃ b ∈ l, e ∈ boughEngines b) ∨ (s.twig e).parked = false) :
    ((s.unparkBoughs l).twig e).parked = false := by
  induction l generalizing s with
  | nil =>
    refine h.resolve_left ?_
    rintro ⟨_, hb, -⟩
    cases hb
  | cons a l ih =>
    rw [State.unparkBoughs_cons]
    refine ih _ ?_
    obtain ⟨b, hb, he⟩ | h := h
    · obtain rfl | hb := List.mem_cons.1 hb
      · exact .inr (State.parked_unparkBough _ s e (.inl he))
      · exact .inl ⟨b, hb, he⟩
    · exact .inr (State.parked_unparkBough a s e (.inr h))

/-! ### What the end of a command leaves -/

theorem State.sap_done (t s : State) : (t.done s).sap = t.sap := (Still.done t s).sap

theorem State.now_done (t s : State) : (t.done s).now = t.now := (Still.done t s).now

theorem State.alertFixed_done (t s : State) : (t.done s).alertFixed = t.alertFixed := (Still.done t s).alertFixed

/-! ### The clauses about power states (R329 to R332) -/

theorem State.until_sap (s : State) (n : Nat) : (s.until n).sap = { s.sap with skip := (s.until n).sap.skip } := by
  obtain h | h := s.until_eq n <;> rw [h]
  rfl

theorem State.resSt_until (s : State) (n k : Nat) : (s.until n).resSt k = s.resSt k := by
  unfold State.resSt
  rw [State.until_sap]

theorem State.regs_until (s : State) (n : Nat) : (s.until n).regs = s.regs := by rw [State.until_frame]

/-- A move and what R333 notes of it, as a command's end leaves them. -/
theorem Unmoved.moved {u s : State} (h : u.regs = s.regs) (r : Res) (n : Nat) :
    Unmoved (u.moveTo r n) ((u.moveTo r n).checkTols.done s) := by
  have hc := (Unmoved.refl (u.moveTo r n)).checkTols
  exact hc.trans (Unmoved.done (hc.regs.trans ((Tuned.refl u).moveTo.regs.trans h)))

theorem sapIdleExpiry_runs (s : State) (r : Res) (sp : Nat) (hs : s.sapRuns = true) (hr : r.ok = true) (hsp : sp < 4)
    (hm : s.mayDeepen r sp = true) :
    Runs (.sapIdleExpiry r sp) s fun t => (t.res r).sp = sp ∧ t.now = max s.now ((s.res r).idle + s.idleNs sp)
      ∧ t.regs = s.regs
      ∧ (r = .engines → sp = 2 → (s.res r).sp < 2 → ∀ e < 64, e % 16 ≥ 8 → (t.twig e).parked = true) := by
  refine ⟨_, act_true (by rw [hs, hr, hm, decide_eq_true hsp]; rfl) _ _, ?_⟩
  unfold State.idleExpiry
  have hn := s.until_now ((s.res r).idle + s.idleNs sp)
  have hres : ∀ k, (s.until ((s.res r).idle + s.idleNs sp)).resSt k = s.resSt k := fun k => s.resSt_until _ k
  have hregs := s.regs_until ((s.res r).idle + s.idleNs sp)
  generalize s.until ((s.res r).idle + s.idleNs sp) = u at hn hres hregs ⊢
  have hd := Unmoved.moved hregs r sp
  have hv := (Tuned.refl u).moveTo (r := r) (n := sp)
  refine ⟨(hd.sp _).trans (by rw [State.sp_moveTo, if_pos rfl]), (hd.now.trans hv.now).trans hn, rfl, fun h1 h2 h3 e he h8 => ?_⟩
  subst h1 h2
  refine (hd.parked e).trans (u.parked_moveTo ?_ he h8)
  unfold State.res at h3 ⊢
  rw [hres]
  exact h3

theorem sapStateExit_moves (s : State) (r : Res) (hs : s.sapRuns = true) (hr : r.ok = true) (hm : s.mayExit r = true)
    (h : s.exitTo r < (s.res r).sp) :
    Runs (.sapStateExit r) s fun t => (t.res r).sp = s.exitTo r
      ∧ (t.res r).exiting = (if s.exitUs r (s.res r).sp = 0 then none else some (s.now + s.exitUs r (s.res r).sp * 1000)) := by
  refine ⟨_, act_true (by rw [hs, hr, hm]; rfl) _ _, ?_⟩
  unfold State.stateExit
  rw [if_pos h]
  have hd := Unmoved.moved (rfl : s.regs = s.regs) r (s.exitTo r)
  exact ⟨(hd.sp _).trans (by rw [State.sp_moveTo, if_pos rfl]), (hd.exiting _).trans (s.exiting_moveTo r _ h)⟩

theorem sapStateExit_unparks (s : State) (hs : s.sapRuns = true) (hm : s.mayExit .engines = true)
    (h : s.exitTo .engines = (s.res .engines).sp) :
    exec (.sapStateExit .engines) s = .next ((State.setRes .engines { s.res .engines with exiting := some (s.now + 50000) }
      { s with sap := { s.sap with unparking := s.unparkDue } }).done s) := by
  refine (act_true (by rw [hs, hm]; rfl) _ _).trans ?_
  unfold State.stateExit
  rw [if_neg (by rw [h]; exact Nat.lt_irrefl _)]
  rfl

theorem powerStateExitDone_port (s : State) (p t : Nat) (hs : s.sapRuns = true) (hp : p < 10)
    (he : (s.res (.port p)).exiting = some t) :
    let u := s.until t
    exec (.powerStateExitDone (.port p)) s
      = .next ((State.setRes (.port p) { s.res (.port p) with exiting := none, idle := u.now } u).done s) := by
  intro u
  refine (act_true (by rw [hs, he, show Res.ok (.port p) = true from decide_eq_true hp]; rfl) _ _).trans ?_
  have hu : u.res (.port p) = s.res (.port p) := s.resSt_until _ _
  unfold State.exitDone
  rw [he, ← hu]
  rfl

theorem powerStateExitDone_drive (s : State) (d t : Nat) (hs : s.sapRuns = true) (hd : d < 24)
    (he : (s.res (.drive d)).exiting = some t) :
    let u := s.until t
    exec (.powerStateExitDone (.drive d)) s = .next ((State.kickDrive d
      (State.setRes (.drive d) { s.res (.drive d) with exiting := none, idle := u.now } u)).done s) := by
  intro u
  refine (act_true (by rw [hs, he, show Res.ok (.drive d) = true from wf_drive hd]; rfl) _ _).trans ?_
  have hu : u.res (.drive d) = s.res (.drive d) := s.resSt_until _ _
  unfold State.exitDone
  rw [he, ← hu]
  rfl

/-- The engines' exit is over at `u`: what unparks, and SP1 where none is left parked. -/
def State.unparked (u : State) : State :=
  let s := State.unparkBoughs u.sap.unparking u
  let s := { s with sap := { s.sap with unparking := [] } }
  if (s.res .engines).sp ≥ 2 && !parkSet.any (fun e => (s.twig e).parked) then
    ({ s with sap := { s.sap with selfRefresh := false } }).setRes .engines { s.res .engines with sp := 1 } else s

theorem State.exitDone_engines (s : State) : s.exitDone .engines
    = ((State.setRes .engines { (s.until ((s.res .engines).exiting.getD 0)).res .engines with
        exiting := none, idle := (s.until ((s.res .engines).exiting.getD 0)).now }
          (s.until ((s.res .engines).exiting.getD 0))).unparked.noteCredits).pump := by
  unfold State.exitDone State.unparked State.unparkBoughs
  rfl

theorem Tuned.unparked {s t : State} (h : Tuned s t) : Tuned s t.unparked := by
  have hp : Tuned s (State.unparkBoughs t.sap.unparking t) := h.foldl fun _ _ k => k.unparkBough
  exact Tuned.iteOf (Tuned.unparks (b := (State.unparkBoughs t.sap.unparking t).sap.selfRefresh) hp) (·.refresh.setRes)

/-- Nothing is left to unpark, and the exit is as it was. -/
theorem State.unparked_sap (u : State) : u.unparked.sap.unparking = []
    ∧ (u.unparked.res .engines).exiting = (u.res .engines).exiting := by
  have hs := State.sap_unparkBoughs u.sap.unparking u
  unfold State.unparked
  generalize State.unparkBoughs u.sap.unparking u = v at hs
  dsimp only
  have hv : (v.res .engines).exiting = (u.res .engines).exiting := by
    unfold State.res State.resSt
    rw [hs]
  split
  · refine ⟨rfl, ?_⟩
    unfold State.res
    rw [State.resSt_setRes, if_pos rfl]
    exact hv
  · exact ⟨rfl, hv⟩

theorem State.unparked_twigs (u : State) : u.unparked.twigs = (State.unparkBoughs u.sap.unparking u).twigs := by
  unfold State.unparked
  generalize State.unparkBoughs u.sap.unparking u = v
  dsimp only
  split <;> rfl

theorem powerStateExitDone_engines (s : State) (t : Nat) (hs : s.sapRuns = true) (he : (s.res .engines).exiting = some t) :
    Runs (.powerStateExitDone .engines) s fun u => (u.res .engines).exiting = none ∧ u.sap.unparking = []
      ∧ ∀ b ∈ s.sap.unparking, ∀ e ∈ boughEngines b, (u.twig e).parked = false := by
  refine ⟨_, act_true (by rw [hs, he]; rfl) _ _, ?_⟩
  rw [State.exitDone_engines, he, Option.getD_some]
  have hsap := s.until_sap t
  have hregs := s.regs_until t
  generalize s.until t = w at hsap hregs ⊢
  have hexit : ((State.setRes .engines { w.res .engines with exiting := none, idle := w.now } w).res .engines).exiting = none := by
    unfold State.res
    rw [State.resSt_setRes, if_pos rfl]
  have hun : (State.setRes .engines { w.res .engines with exiting := none, idle := w.now } w).sap.unparking = s.sap.unparking :=
    (congrArg Sap.unparking hsap : w.sap.unparking = _)
  have hr : (State.setRes .engines { w.res .engines with exiting := none, idle := w.now } w).regs = s.regs := hregs
  generalize State.setRes .engines { w.res .engines with exiting := none, idle := w.now } w = u at hexit hun hr ⊢
  obtain ⟨hnone, hkeep⟩ := u.unparked_sap
  have hp := (Unmoved.refl u.unparked).noteCredits.pump
  have hd := hp.trans (Unmoved.done (s := s) (hp.regs.trans ((Tuned.refl u).unparked.regs.trans hr)))
  have hparked : ∀ b ∈ s.sap.unparking, ∀ e ∈ boughEngines b, (u.unparked.twig e).parked = false := fun b hb e hm => by
    unfold State.twig
    rw [State.unparked_twigs]
    exact State.parked_unparkBoughs _ u e (.inl ⟨b, by rw [hun]; exact hb, hm⟩)
  clear hp
  generalize u.unparked.noteCredits.pump.done s = z at hd ⊢
  generalize u.unparked = v at hd hnone hkeep hparked
  exact ⟨(hd.exiting _).trans (hkeep.trans hexit), (congrArg Sap.unparking hd.sap).trans hnone,
    fun b hb e hm => (hd.parked e).trans (hparked b hb e hm)⟩

/-! ### Droop (R335) -/

theorem droopTrip_runs (s : State) (die : Nat) (ha : s.alive = true) (hd : die < 6) :
    let due := match nth s.sap.droopAt die none with
      | none => true
      | some t => decide (t + 1000000 ≤ s.now)
    Runs (.droopTrip die) s fun t =>
      t.sap = { s.sap with
        slowed := setNth s.sap.slowed die true, tripAt := setNth s.sap.tripAt die s.now
        droopAt := if due then setNth s.sap.droopAt die (some s.now) else s.sap.droopAt }
      ∧ (due = true → (t.src (evSrc 2 die)).pend = true) := by
  intro due
  have hx : s.droop die = if due then
      State.raise0 2 die { State.count { s with sap := { s.sap with
        slowed := setNth s.sap.slowed die true, tripAt := setNth s.sap.tripAt die s.now } } 2 0 1 with sap := { s.sap with
        slowed := setNth s.sap.slowed die true, tripAt := setNth s.sap.tripAt die s.now
        droopAt := setNth s.sap.droopAt die (some s.now) } }
      else State.count { s with sap := { s.sap with
        slowed := setNth s.sap.slowed die true, tripAt := setNth s.sap.tripAt die s.now } } 2 0 1 := rfl
  refine ⟨_, act_true (by rw [ha, show dieIndex die = true from decide_eq_true hd]; rfl) _ _, ?_, fun h => ?_⟩
  · rw [State.sap_done, hx]
    split
    · rw [(still_raise0 _ _ _).sap]
    · rfl
  · refine ((calm_settle _).pend _ ?_ : _)
    rw [hx, if_pos h]
    exact State.pend_raise0_same _ _ _

theorem droopRelease_exec (s : State) (die : Nat) (ha : s.alive = true) (hd : die < 6) (hn : nth s.sap.slowed die false = true) :
    let u := s.until (nth s.sap.tripAt die 0 + ceilDiv 2560 (dieClock die))
    exec (.droopRelease die) s
      = .next (State.done { u with sap := { u.sap with slowed := setNth s.sap.slowed die false } } s) := by
  intro u
  have hu : u.sap.slowed = s.sap.slowed := by
    rw [s.until_sap]
  refine (act_true (by rw [ha, hn, show dieIndex die = true from decide_eq_true hd]; rfl) _ _).trans ?_
  rw [← hu]
  rfl

/-! ### Heat (R337, R338) -/

theorem nth_setNth {α : Type} (l : List α) (i j : Nat) (v d : α) (h : i < l.length) :
    nth (setNth l i v) j d = if j = i then v else nth l j d := by
  unfold nth setNth
  rw [List.getElem?_set]
  by_cases hj : i = j
  · rw [if_pos hj, if_pos h, if_pos hj.symm]
    rfl
  · rw [if_neg hj, if_neg (Ne.symm hj)]

theorem nth_mapRange (f : Nat → Nat) {i n : Nat} (h : i < n) : nth ((List.range n).map f) i 0 = f i := by
  unfold nth
  rw [List.getElem?_map, List.getElem?_range h]
  rfl

/-- What slowing dies leaves as it was. -/
structure Warmed (s t : State) : Prop where
  regs : t.regs = s.regs
  now : t.now = s.now
  alertFixed : t.alertFixed = s.alertFixed
  sap : { t.sap with therm := [], thermAt := [] } = { s.sap with therm := [], thermAt := [] }
  dies : t.sap.therm.length = s.sap.therm.length

theorem Warmed.refl (s : State) : Warmed s s := ⟨rfl, rfl, rfl, rfl, rfl⟩

theorem Warmed.trans {a b c : State} (h : Warmed a b) (k : Warmed b c) : Warmed a c :=
  ⟨k.regs.trans h.regs, k.now.trans h.now, k.alertFixed.trans h.alertFixed, k.sap.trans h.sap, k.dies.trans h.dies⟩

theorem State.slower_still (die : Nat) (s : State) :
    Still (State.count { s with sap := { s.sap with
      therm := setNth s.sap.therm die (nth s.sap.therm die 8 - 1), thermAt := setNth s.sap.thermAt die s.now } } 2 2 1)
      (s.slower die) := by
  unfold State.slower
  dsimp only
  split
  · exact still_raise0 _ _ _
  · constructor <;> rfl

theorem State.slower_therm (die : Nat) (s : State) :
    (s.slower die).sap.therm = setNth s.sap.therm die (nth s.sap.therm die 8 - 1) := congrArg Sap.therm (s.slower_still die).sap

theorem State.slower_warmed (die : Nat) (s : State) : Warmed s (s.slower die) := by
  have h := s.slower_still die
  refine ⟨h.regs, h.now, h.alertFixed, by rw [h.sap]; rfl, ?_⟩
  rw [State.slower_therm]
  exact List.length_set

theorem State.faster_therm (die : Nat) (s : State) :
    (s.faster die).sap.therm = setNth s.sap.therm die (nth s.sap.therm die 8 + 1) := rfl

theorem State.faster_now (die : Nat) (s : State) : (s.faster die).now = s.now := rfl

/-- Slowing begins on the hot dies of a list that run at full rate. -/
def State.slowHot (l : List Nat) (s : State) : State := l.foldl (fun s i =>
  if nth s.sap.temp i 0 > s.throttleC && nth s.sap.therm i 8 == 8 then s.slower i else s) s

theorem State.throttleC_congr {s t : State} (h : t.regs = s.regs) : t.throttleC = s.throttleC := by
  unfold State.throttleC State.fld State.reg
  rw [h]

theorem State.critC_congr {s t : State} (h : t.regs = s.regs) : t.critC = s.critC := by
  unfold State.critC State.fld State.reg
  rw [h]

/-- The step of `slowHot` for one die. -/
theorem State.slowOne (s : State) (a i : Nat) (ha : a < s.sap.therm.length) :
    nth (if nth s.sap.temp a 0 > s.throttleC && nth s.sap.therm a 8 == 8 then s.slower a else s : State).sap.therm i 8
      = if i = a ∧ nth s.sap.temp i 0 > s.throttleC ∧ nth s.sap.therm i 8 = 8 then 7 else nth s.sap.therm i 8 := by
  by_cases hc : nth s.sap.temp a 0 > s.throttleC ∧ nth s.sap.therm a 8 = 8
  · rw [if_pos (by simpa using hc), State.slower_therm, nth_setNth _ _ _ _ _ ha, hc.2]
    by_cases hi : i = a
    · rw [if_pos hi, if_pos ⟨hi, by rw [hi]; exact hc⟩]
    · rw [if_neg hi, if_neg fun h => hi h.1]
  · rw [if_neg (by simpa using hc), if_neg ?_]
    rintro ⟨rfl, h⟩
    exact hc h

theorem State.slowHot_cons (a : Nat) (l : List Nat) (s : State) : s.slowHot (a :: l)
    = State.slowHot l (if nth s.sap.temp a 0 > s.throttleC && nth s.sap.therm a 8 == 8 then s.slower a else s) := by
  unfold State.slowHot
  rw [List.foldl_cons]

theorem State.slowOne_warmed (s : State) (a : Nat) :
    Warmed s (if nth s.sap.temp a 0 > s.throttleC && nth s.sap.therm a 8 == 8 then s.slower a else s) := by
  split
  · exact s.slower_warmed a
  · exact Warmed.refl s

theorem State.slowHot_warmed (l : List Nat) (s : State) : Warmed s (s.slowHot l) := by
  induction l generalizing s with
  | nil => exact Warmed.refl s
  | cons a l ih =>
    rw [State.slowHot_cons]
    exact (s.slowOne_warmed a).trans (ih _)

theorem Warmed.temp {s t : State} (h : Warmed s t) : t.sap.temp = s.sap.temp := by
  have ht := congrArg Sap.temp h.sap
  exact ht

theorem State.therm_slowHot (l : List Nat) (s : State) (hl : ∀ a ∈ l, a < s.sap.therm.length) (i : Nat) :
    nth (s.slowHot l).sap.therm i 8
      = if i ∈ l ∧ nth s.sap.temp i 0 > s.throttleC ∧ nth s.sap.therm i 8 = 8 then 7 else nth s.sap.therm i 8 := by
  induction l generalizing s with
  | nil =>
    rw [if_neg fun h => List.not_mem_nil h.1]
    rfl
  | cons a l ih =>
    have h1 := s.slowOne a i (hl a List.mem_cons_self)
    have hw := s.slowOne_warmed a
    rw [State.slowHot_cons]
    generalize (if nth s.sap.temp a 0 > s.throttleC && nth s.sap.therm a 8 == 8 then s.slower a else s : State) = u at h1 hw
    rw [ih u fun b hb => by rw [hw.dies]; exact hl b (List.mem_cons_of_mem _ hb), h1, hw.temp, State.throttleC_congr hw.regs]
    by_cases h : i = a ∧ nth s.sap.temp i 0 > s.throttleC ∧ nth s.sap.therm i 8 = 8
    · rw [if_pos h, ite_self, if_pos ⟨by rw [h.1]; exact List.mem_cons_self, h.2⟩]
    · rw [if_neg h]
      exact ite_congr (propext ⟨fun k => ⟨List.mem_cons_of_mem _ k.1, k.2⟩,
        fun k => ⟨(List.mem_cons.1 k.1).resolve_left fun e => h ⟨e, k.2⟩, k.2⟩⟩) (fun _ => rfl) fun _ => rfl

theorem foldl_max_le {l : List Nat} {c : Nat} : ∀ a : Nat, l.foldl max a ≤ c ↔ a ≤ c ∧ ∀ x ∈ l, x ≤ c := by
  induction l with
  | nil => simp
  | cons y l ih =>
    intro a
    rw [List.foldl_cons, ih, Nat.max_le, List.forall_mem_cons, and_assoc]

/-- What the sensors show is noted. -/
def State.sampled (s : State) (temps : List (List Nat)) : State := { s with sap := { s.sap with
  temp := (List.range 6).map fun i => (nth temps i []).foldl max 0
  cool := (List.range 6).map fun i => (nth temps i []).all fun t => t + s.hystC < s.throttleC } }

/-- A sensor above CRIT_C: the device stops. -/
def State.critical (s : State) : State :=
  State.raise0 2 16 { s with alertFixed := setNth s.alertFixed 0 true, sap := { s.sap with stuck := true, dead := true } }

/-- The sample and the slowing that it begins. -/
def State.cooled (s : State) (temps : List (List Nat)) : State := (s.sampled temps).slowHot (List.range 6)

theorem State.cooled_warmed (s : State) (temps : List (List Nat)) : Warmed (s.sampled temps) (s.cooled temps) := by
  unfold State.cooled
  exact State.slowHot_warmed _ _

theorem State.therm_cooled {s : State} (temps : List (List Nat)) (h6 : s.sap.therm.length = 6) {i : Nat} (hi : i < 6) :
    nth (s.cooled temps).sap.therm i 8
      = if (nth temps i []).foldl max 0 > s.throttleC ∧ nth s.sap.therm i 8 = 8 then 7 else nth s.sap.therm i 8 := by
  have hl : ∀ a ∈ List.range 6, a < (s.sampled temps).sap.therm.length := fun a ha => by
    rw [show (s.sampled temps).sap.therm = s.sap.therm from rfl, h6]
    exact List.mem_range.1 ha
  have ht : nth (s.sampled temps).sap.temp i 0 = (nth temps i []).foldl max 0 := nth_mapRange _ hi
  unfold State.cooled
  refine (State.therm_slowHot _ _ hl i).trans (ite_congr (propext ?_) (fun _ => rfl) fun _ => rfl)
  rw [ht, and_iff_right (List.mem_range.2 hi)]
  rfl

/-- The test for CRIT_C sees the largest sensor of each die. -/
theorem State.critical_iff (s : State) {temps : List (List Nat)} (hl : temps.length = 6) :
    ((s.cooled temps).sap.temp.any fun t => t > (s.cooled temps).critC) = true ↔ ∃ l ∈ temps, ∃ x ∈ l, x > s.critC := by
  have hc : (s.cooled temps).critC = s.critC := State.critC_congr (s.cooled_warmed temps).regs
  have ht : (s.cooled temps).sap.temp = (List.range 6).map fun i => (nth temps i []).foldl max 0 := (s.cooled_warmed temps).temp
  have hmax : ∀ l : List Nat, l.foldl max 0 > s.critC ↔ ∃ x ∈ l, x > s.critC := fun l => by
    rw [gt_iff_lt, ← Nat.not_le, foldl_max_le]
    simp
  rw [hc, ht, List.any_eq_true]
  simp only [List.mem_map, decide_eq_true_eq]
  constructor
  · rintro ⟨_, ⟨i, hi, rfl⟩, hx⟩
    have hi6 : i < temps.length := by rw [hl]; exact List.mem_range.1 hi
    refine ⟨temps[i], List.getElem_mem hi6, (hmax _).1 ?_⟩
    rw [show temps[i] = nth temps i [] by unfold nth; rw [List.getElem?_eq_getElem hi6]; rfl]
    exact hx
  · rintro ⟨l, hm, hx⟩
    obtain ⟨i, hi, rfl⟩ := List.getElem_of_mem hm
    refine ⟨_, ⟨i, List.mem_range.2 (hl ▸ hi), rfl⟩, ?_⟩
    rw [show nth temps i [] = temps[i] by unfold nth; rw [List.getElem?_eq_getElem hi]; rfl]
    exact (hmax _).2 hx

theorem State.thermal_eq (s : State) (temps : List (List Nat)) : s.thermal temps
    = if (s.cooled temps).sap.temp.any fun t => t > (s.cooled temps).critC
      then (s.cooled temps).critical.startFlush else s.cooled temps := by
  unfold State.thermal
  dsimp only
  generalize hc : List.foldl (fun (s : State) i => _) _ (List.range 6) = v
  have hv : s.cooled temps = v := by
    unfold State.cooled State.slowHot State.sampled
    exact hc
  rw [hv]
  rfl

theorem thermalSample_exec {s : State} {temps : List (List Nat)} (ha : s.alive = true) (hl : temps.length = 6) :
    exec (.thermalSample temps) s = .next ((s.thermal temps).done s) := act_true (by rw [ha, hl]; rfl) _ _

theorem thermalSample_cool (s : State) (temps : List (List Nat)) (ha : s.alive = true) (hl : temps.length = 6)
    (h6 : s.sap.therm.length = 6) (hx : ∀ l ∈ temps, ∀ x ∈ l, x ≤ s.critC) :
    Runs (.thermalSample temps) s fun t =>
      t.sap.temp = (List.range 6).map (fun i => (nth temps i []).foldl max 0) ∧ t.sap.flush = s.sap.flush
        ∧ t.sap.dead = s.sap.dead
        ∧ ∀ i < 6, nth t.sap.therm i 8 = (if (nth temps i []).foldl max 0 > s.throttleC ∧ nth s.sap.therm i 8 = 8 then 7
            else nth s.sap.therm i 8) := by
  have hn : ¬ ((s.cooled temps).sap.temp.any fun t => t > (s.cooled temps).critC) = true := by
    rw [s.critical_iff hl]
    rintro ⟨l, hm, x, hxl, h⟩
    exact absurd (hx l hm x hxl) (Nat.not_le.2 h)
  have hw := s.cooled_warmed temps
  refine ⟨_, thermalSample_exec ha hl, ?_⟩
  dsimp -zeta only
  rw [State.thermal_eq, if_neg hn, State.sap_done]
  have htherm : ∀ i < 6, nth (s.cooled temps).sap.therm i 8
      = if (nth temps i []).foldl max 0 > s.throttleC ∧ nth s.sap.therm i 8 = 8 then 7 else nth s.sap.therm i 8 :=
    fun i hi => State.therm_cooled temps h6 hi
  clear hn
  generalize s.cooled temps = v at hw htherm ⊢
  have hflush := congrArg Sap.flush hw.sap
  have hdead := congrArg Sap.dead hw.sap
  exact ⟨hw.temp, hflush, hdead, htherm⟩

/-- The response has started, at the latest now. -/
theorem State.startFlush_keeps (u : State) : u.startFlush.regs = u.regs ∧ u.startFlush.alertFixed = u.alertFixed
    ∧ u.startFlush.sap.dead = u.sap.dead ∧ u.startFlush.sap.stuck = u.sap.stuck ∧ u.startFlush.sap.flush.isSome = true
    ∧ ∀ n, (u.src n).pend = true → (u.startFlush.src n).pend = true := by
  cases hf : u.sap.flush with
  | some x =>
    have he : u.startFlush = u := by
      unfold State.startFlush
      rw [hf]
      rfl
    rw [he, hf]
    exact ⟨rfl, rfl, rfl, rfl, rfl, fun _ h => h⟩
  | none =>
    have hb := State.startFlush_begun hf
    have hdead := congrArg Sap.dead hb.sap
    have hstuck := congrArg Sap.stuck hb.sap
    exact ⟨hb.regs, hb.alertFixed, hdead, hstuck, by rw [hb.flush]; rfl, hb.pend⟩

theorem thermalSample_critical (s : State) (temps : List (List Nat)) (ha : s.alive = true) (hl : temps.length = 6)
    (hx : ∃ l ∈ temps, ∃ x ∈ l, x > s.critC) :
    Runs (.thermalSample temps) s fun t => t.sap.dead = true ∧ t.sap.stuck = true ∧ t.sap.flush.isSome = true
      ∧ t.alertFixed = setNth s.alertFixed 0 true ∧ (t.src (evSrc 2 16)).pend = true := by
  have hw := s.cooled_warmed temps
  have hc := still_raise0 2 16 { s.cooled temps with
    alertFixed := setNth (s.cooled temps).alertFixed 0 true, sap := { (s.cooled temps).sap with stuck := true, dead := true } }
  have hp : ((s.cooled temps).critical.src (evSrc 2 16)).pend = true := State.pend_raise0_same _ _ _
  obtain ⟨-, halert, hdead, hstuck, hflush, hpend⟩ := (s.cooled temps).critical.startFlush_keeps
  refine ⟨_, thermalSample_exec ha hl, ?_⟩
  dsimp -zeta only
  rw [State.thermal_eq, if_pos ((s.critical_iff hl).2 hx), State.sap_done, State.alertFixed_done]
  refine ⟨hdead.trans (by rw [State.critical, hc.sap]), hstuck.trans (by rw [State.critical, hc.sap]), hflush, halert.trans ?_,
    (calm_settle _).pend _ (hpend _ hp)⟩
  rw [State.critical, hc.alertFixed, hw.alertFixed]
  rfl

theorem State.thermStep_eq (s : State) (die n : Nat) (h : nth s.sap.thermAt die 0 + 1000000 = n) : s.thermStep die
    = if nth (s.until n).sap.temp die 0 > (s.until n).throttleC then (s.until n).slower die else (s.until n).faster die := by
  subst h
  unfold State.thermStep
  rfl

theorem throttleStep_runs (s : State) (die : Nat) (ha : s.alive = true) (hd : die < 6) (h6 : s.sap.therm.length = 6)
    (hdue : s.thermDue die = true) :
    Runs (.throttleStep die) s fun t => t.now = max s.now (nth s.sap.thermAt die 0 + 1000000)
      ∧ nth t.sap.therm die 8 = (if nth s.sap.temp die 0 > s.throttleC then nth s.sap.therm die 8 - 1
          else nth s.sap.therm die 8 + 1) := by
  refine ⟨_, act_true (by rw [ha, hdue, show dieIndex die = true from decide_eq_true hd]; rfl) _ _, ?_⟩
  dsimp -zeta only
  rw [State.sap_done, State.now_done]
  generalize hm : nth s.sap.thermAt die 0 + 1000000 = n
  have he := s.thermStep_eq die n hm
  have hn := s.until_now n
  have hsap := s.until_sap n
  have hregs := s.regs_until n
  generalize s.until n = u at hn hsap hregs he
  have htemp : u.sap.temp = s.sap.temp := by rw [hsap]
  have htherm : u.sap.therm = s.sap.therm := by rw [hsap]
  have hlen : die < u.sap.therm.length := by rw [htherm, h6]; exact hd
  rw [htemp, State.throttleC_congr hregs] at he
  by_cases hc : nth s.sap.temp die 0 > s.throttleC
  · rw [if_pos hc] at he
    rw [he, if_pos hc, State.slower_therm, (u.slower_warmed die).now, nth_setNth _ _ _ _ _ hlen, if_pos rfl, htherm]
    exact ⟨hn, rfl⟩
  · rw [if_neg hc] at he
    rw [he, if_neg hc, State.faster_therm, State.faster_now, nth_setNth _ _ _ _ _ hlen, if_pos rfl, htherm]
    exact ⟨hn, rfl⟩

/-- Settles O27: each clause is one of the lemmas above. -/
theorem powerStatesDroopAndHeat : Obligations.PowerStatesDroopAndHeat :=
  ⟨⟨sapIdleExpiry_runs, sapStateExit_moves, sapStateExit_unparks, powerStateExitDone_port, powerStateExitDone_drive,
    powerStateExitDone_engines⟩, droopTrip_runs, droopRelease_exec, thermalSample_cool, thermalSample_critical, throttleStep_runs⟩

end Sys2Proof.Machine
end
